-- ==== Sys2Proof/Word.lean ====
section
/-! DEFINITION. The word types of the part's ports and lanes (spec 13_layouts.md, section 13.1 and R178). -/

namespace Sys2Proof

/-- One byte of a frame, a reply or a lane character (R171, R177). -/
abbrev Byte := BitVec 8

/-- A two-byte argument, sent high byte first (R177, R178). -/
abbrev Word16 := BitVec 16

/-- Two bytes read as one unsigned number, high byte first (R177, R178). -/
abbrev joinBytes (hi lo : Byte) : Word16 := hi ++ lo

/-- The high byte of a two-byte number. -/
abbrev Word16.hi (w : Word16) : Byte := w.extractLsb' 8 8

/-- The low byte of a two-byte number. -/
abbrev Word16.lo (w : Word16) : Byte := w.extractLsb' 0 8

end Sys2Proof
end

