-- ==== Sys2Proof/Syntax.lean ====
section
/-! DEFINITION. The commands and events the part takes: one constructor of `Instr` for each row of
spec/opcode_table.json, with the operands its rule gives it. A port command carries the raw argument bytes
of its frame (R178), so that a value outside an argument's list is met by the rule that refuses it. -/

namespace Sys2Proof

/-- The two booms, and with them the two sample lanes (spec 00_scope.md, Terms). -/
inductive Boom where
  | A
  | B
deriving DecidableEq, Repr

/-- "The other boom" (spec 00_scope.md, Terms). -/
def Boom.other : Boom → Boom
  | .A => .B
  | .B => .A

/-- The three command ports (spec 00_scope.md, Masters). -/
inductive Port where
  | A
  | B
  | C
deriving DecidableEq, Repr

/-- The 23 argument values of one parameter set as they travel, in the order of the table in R158 (R179). -/
structure ParamValues where
  productShift : Word16
  tVoid : Word16
  tMedium : Word16
  tHard : Word16
  voidMode : Word16
  voidLimit : Word16
  zone : Word16
  competent : Word16
  maxExtensions : Word16
  collarAllowance : Word16
  freeLength : Word16
  cartridgeColumn : Word16
  maxCartridges : Word16
  spinRevs : Word16
  spinMax : Word16
  setTime : Word16
  seatTorque : Word16
  targetTorque : Word16
  maxTorque : Word16
  maxTurn : Word16
  torqueStage : Word16
  incompleteLimit : Word16
  laneAbandon : Word16
deriving DecidableEq, Repr

/-- The commands that a frame can name (the table of R179). -/
inductive CommandName where
  | lastResult
  | readStatus
  | notices
  | configureNotices
  | readNoticeSettings
  | search
  | readMatches
  | readEntry
  | readNext
  | readParameters
  | claimNext
  | claimSlot
  | cancelClaim
  | collared
  | bitOut
  | boltIn
  | openRow
  | planHole
  | endPlan
  | freezeRow
  | thawRow
  | releaseRow
  | setProtection
  | erase
  | setValidity
  | cancelSupplements
  | suspend
  | resume
  | abort
  | clear
  | dryOn
  | dryOff
  | restart
  | writeParameters
  | selectSet
  | writeMachineSettings
  | refill
  | clearJam
  | derate
  | takeCount
  | setReportMode
  | feedSample
deriving DecidableEq, Repr

/-- The commands and events of the part. `p` is the port of the frame. `boom` is the boom byte: the claim and
cycle commands carry it on Port C only, and on Port A and Port B it is not part of the frame (R173, R178). -/
inductive Instr where
  /-- POWER_ON (R176): the supply rises through the power-on threshold. -/
  | powerOn
  /-- RESET_N (R176): the RESET_N input goes low. -/
  | resetN
  /-- FRAME_START (R171): chip select falls on port `p`. -/
  | frameStart (p : Port)
  /-- UNKNOWN (R172): chip select rises on a frame whose command byte names no command. -/
  | unknown (p : Port) (command : Byte)
  /-- TORN (R172): chip select rises on a frame of these whole bytes, before its arguments are complete. -/
  | torn (p : Port) (bytes : List Byte)
  /-- READ_EFFECTS (R34): chip select rises after `clocked` whole reply bytes. -/
  | readEffects (p : Port) (clocked : Nat)
  /-- LAST_RESULT (R174). -/
  | lastResult (p : Port)
  /-- READ_STATUS (R175). -/
  | readStatus (p : Port)
  /-- NOTICES (R170). -/
  | notices (p : Port)
  /-- CONFIGURE_NOTICES (R168): 13 mask flags and 5 edge modes in kind order. -/
  | configureNotices (p : Port) (mask : Word16) (permit void lane loader magazineLow : Byte)
  /-- READ_NOTICE_SETTINGS (R168). -/
  | readNoticeSettings (p : Port)
  /-- SEARCH (R26 to R28). -/
  | search (p : Port) (scope row position reach holeState origin claimant mask : Byte)
  /-- READ_MATCHES (R30). -/
  | readMatches (p : Port)
  /-- READ_ENTRY (R32). -/
  | readEntry (p : Port) (target segment : Byte)
  /-- READ_NEXT (R33). -/
  | readNext (p : Port)
  /-- READ_PARAMETERS (R165). -/
  | readParameters (p : Port) (selector : Byte)
  /-- CLAIM_NEXT (R38). -/
  | claimNext (p : Port)
  /-- CLAIM_SLOT (R39, R40). -/
  | claimSlot (p : Port) (boom target : Byte)
  /-- CANCEL_CLAIM (R42). -/
  | cancelClaim (p : Port) (boom : Byte)
  /-- COLLARED (R51). -/
  | collared (p : Port) (boom : Byte)
  /-- BIT_OUT (R54). -/
  | bitOut (p : Port) (boom : Byte)
  /-- BOLT_IN (R56). -/
  | boltIn (p : Port) (boom : Byte)
  /-- OPEN_ROW (R8). -/
  | openRow (p : Port) (row : Byte)
  /-- PLAN_HOLE (R9). -/
  | planHole (p : Port) (row position reach : Byte) (offset : Word16) (lengthClass priority : Byte)
  /-- END_PLAN (R10). -/
  | endPlan (p : Port) (row : Byte)
  /-- FREEZE_ROW (R12). -/
  | freezeRow (p : Port) (row : Byte)
  /-- THAW_ROW (R15). -/
  | thawRow (p : Port) (row : Byte)
  /-- RELEASE_ROW (R16). -/
  | releaseRow (p : Port) (row : Byte)
  /-- SET_PROTECTION (R17). -/
  | setProtection (p : Port) (mode : Byte)
  /-- ERASE (R18). -/
  | erase (p : Port) (slot : Byte)
  /-- SET_VALIDITY (R19). -/
  | setValidity (p : Port) (target validity : Byte)
  /-- CANCEL_SUPPLEMENTS (R22). -/
  | cancelSupplements (p : Port) (row : Byte)
  /-- SUSPEND (R61). -/
  | suspend (p : Port) (boom : Byte)
  /-- RESUME (R63). -/
  | resume (p : Port) (boom : Byte)
  /-- ABORT (R64). -/
  | abort (p : Port) (boom : Byte)
  /-- CLEAR (R65). -/
  | clear (p : Port) (boom : Byte)
  /-- DRY_ON (R66). -/
  | dryOn (p : Port) (boom : Byte)
  /-- DRY_OFF (R66). -/
  | dryOff (p : Port) (boom : Byte)
  /-- RESTART (R68, R176). -/
  | restart (p : Port)
  /-- WRITE_PARAMETERS (R160, R162): `second` travels only when `paired` (R179). -/
  | writeParameters (p : Port) (set : Byte) (paired : Bool) (first second : ParamValues)
  /-- SELECT_SET (R163). -/
  | selectSet (p : Port) (boom set : Byte)
  /-- WRITE_MACHINE_SETTINGS (R164). -/
  | writeMachineSettings (p : Port) (separation shift lowMark : Word16)
  /-- REFILL (R125). -/
  | refill (p : Port) (count : Byte)
  /-- CLEAR_JAM (R128). -/
  | clearJam (p : Port)
  /-- DERATE (R155). -/
  | derate (p : Port) (target : Byte)
  /-- TAKE_COUNT (R82). -/
  | takeCount (p : Port) (lane : Byte)
  /-- SET_REPORT_MODE (R82). -/
  | setReportMode (p : Port) (lane mode : Byte)
  /-- FEED_SAMPLE (R84): the contents of bytes 1 to 10 of a lane frame. -/
  | feedSample (p : Port) (boom seq : Byte) (position thrust speed torque : Word16) (flags : Byte)
  /-- LANE_CHARACTER (R70): a character on a lane, with a good or a bad stop bit. -/
  | laneCharacter (lane : Boom) (char : Byte) (stopGood : Bool)
  /-- GAP_TIMER_EXPIRY (R70). -/
  | gapTimerExpiry (lane : Boom)
  /-- LOSS_TIMER_EXPIRY (R78). -/
  | lossTimerExpiry (lane : Boom)
  /-- REPORT_PERIOD_EXPIRY (R81). -/
  | reportPeriodExpiry (lane : Boom)
  /-- LANE_ABANDON_EXPIRY (R47, R53). -/
  | laneAbandonExpiry (boom : Boom)
  /-- SPIN_MAX_EXPIRY (R57). -/
  | spinMaxExpiry (boom : Boom)
  /-- SET_TIMER_EXPIRY (R58). -/
  | setTimerExpiry (boom : Boom)
  /-- TORQUE_STAGE_EXPIRY (R59, R144). -/
  | torqueStageExpiry (boom : Boom)
  /-- SETTLE_EXPIRY (R123). -/
  | settleExpiry
  /-- LOADER_GAP_EXPIRY (R125). -/
  | loaderGapExpiry
  /-- DONE_EDGE (R124). -/
  | doneEdge
  /-- JAM_EDGE (R127). -/
  | jamEdge
  /-- DONE_TIMEOUT_EXPIRY (R127). -/
  | doneTimeoutExpiry
  /-- SUPPLY_LOSS (R43): the supply falls below the power-on threshold. -/
  | supplyLoss
  /-- RESET_N_RELEASE (R176): RESET_N goes high again. -/
  | resetNRelease
  /-- FIRE_PULSE_END (R120): the 20 ms FIRE pulse ends. -/
  | firePulseEnd
deriving DecidableEq, Repr

end Sys2Proof
end

