-- ==== Sys2Proof/Decode.lean ====
section
/-! DEFINITION. The layout of command frames (spec 13_layouts.md, R178 and R179): the command bytes, the argument
counts, the command that a frame's whole bytes spell, and the bytes of a command's frame. The opcode table gives no
bits for any row, so `decodeTableWord` answers none for every word. -/

namespace Sys2Proof

/-- The command byte of each command (the table of R179). -/
def CommandName.code : CommandName → Byte
  | .lastResult => 0x01
  | .readStatus => 0x02
  | .notices => 0x03
  | .configureNotices => 0x04
  | .readNoticeSettings => 0x05
  | .search => 0x06
  | .readMatches => 0x07
  | .readEntry => 0x08
  | .readNext => 0x09
  | .readParameters => 0x0A
  | .claimNext => 0x10
  | .claimSlot => 0x11
  | .cancelClaim => 0x12
  | .collared => 0x13
  | .bitOut => 0x14
  | .boltIn => 0x15
  | .openRow => 0x20
  | .planHole => 0x21
  | .endPlan => 0x22
  | .freezeRow => 0x23
  | .thawRow => 0x24
  | .releaseRow => 0x25
  | .setProtection => 0x26
  | .erase => 0x27
  | .setValidity => 0x28
  | .cancelSupplements => 0x29
  | .suspend => 0x30
  | .resume => 0x31
  | .abort => 0x32
  | .clear => 0x33
  | .dryOn => 0x34
  | .dryOff => 0x35
  | .restart => 0x36
  | .writeParameters => 0x40
  | .selectSet => 0x41
  | .writeMachineSettings => 0x42
  | .refill => 0x50
  | .clearJam => 0x51
  | .derate => 0x52
  | .takeCount => 0x53
  | .setReportMode => 0x54
  | .feedSample => 0x55

/-- Every command a frame can name. -/
def CommandName.all : List CommandName :=
  [.lastResult, .readStatus, .notices, .configureNotices, .readNoticeSettings, .search, .readMatches,
   .readEntry, .readNext, .readParameters, .claimNext, .claimSlot, .cancelClaim, .collared,
   .bitOut, .boltIn, .openRow, .planHole, .endPlan, .freezeRow, .thawRow,
   .releaseRow, .setProtection, .erase, .setValidity, .cancelSupplements, .suspend, .resume,
   .abort, .clear, .dryOn, .dryOff, .restart, .writeParameters, .selectSet,
   .writeMachineSettings, .refill, .clearJam, .derate, .takeCount, .setReportMode, .feedSample]

/-- The command that a command byte names, if it names one (R172, R179). -/
def CommandName.ofByte (b : Byte) : Option CommandName :=
  CommandName.all.find? fun n => n.code == b

/-- Argument byte `k` of a frame, counted from 0. -/
def argAt (args : List Byte) (k : Nat) : Byte := args.getD k 0

/-- The two-byte argument that starts at byte `k`, high byte first (R178). -/
def wordAt (args : List Byte) (k : Nat) : Word16 := joinBytes (argAt args k) (argAt args (k + 1))

/-- The two bytes of a number, high byte first (R178). -/
def wordBytes (w : Word16) : List Byte := [w.hi, w.lo]

/-- The claim and cycle commands carry a boom byte on Port C and none on Port A and Port B (R173, R178). -/
def boomByteCount : Port → Nat
  | .C => 1
  | _ => 0

/-- The PAIRED flag byte that asks for a paired write (R179). -/
def pairedFlag : Byte := 0x01

/-- The number of argument bytes of a command on a port. Only WRITE PARAMETERS looks at the arguments: its second
argument byte sets its count (R178, R179). -/
def CommandName.argCount (p : Port) (args : List Byte) : CommandName → Nat
  | .configureNotices => 7
  | .search => 8
  | .readEntry => 2
  | .readParameters => 1
  | .claimSlot => boomByteCount p + 1
  | .cancelClaim | .collared | .bitOut | .boltIn => boomByteCount p
  | .openRow | .endPlan | .freezeRow | .thawRow | .releaseRow => 1
  | .planHole => 7
  | .setProtection | .erase | .cancelSupplements => 1
  | .setValidity => 2
  | .suspend | .resume | .abort | .clear | .dryOn | .dryOff => 1
  | .writeParameters => if argAt args 1 = pairedFlag then 94 else 48
  | .selectSet => 2
  | .writeMachineSettings => 6
  | .refill | .derate | .takeCount => 1
  | .setReportMode => 2
  | .feedSample => 11
  | .lastResult | .readStatus | .notices | .readNoticeSettings | .readMatches | .readNext => 0
  | .claimNext | .restart | .clearJam => 0

/-- The value block of one parameter set that starts at argument byte `k` (R179). -/
def decodeValues (args : List Byte) (k : Nat) : ParamValues :=
  { productShift := wordAt args (k + 0), tVoid := wordAt args (k + 2),
    tMedium := wordAt args (k + 4), tHard := wordAt args (k + 6),
    voidMode := wordAt args (k + 8), voidLimit := wordAt args (k + 10),
    zone := wordAt args (k + 12), competent := wordAt args (k + 14),
    maxExtensions := wordAt args (k + 16), collarAllowance := wordAt args (k + 18),
    freeLength := wordAt args (k + 20), cartridgeColumn := wordAt args (k + 22),
    maxCartridges := wordAt args (k + 24), spinRevs := wordAt args (k + 26),
    spinMax := wordAt args (k + 28), setTime := wordAt args (k + 30),
    seatTorque := wordAt args (k + 32), targetTorque := wordAt args (k + 34),
    maxTorque := wordAt args (k + 36), maxTurn := wordAt args (k + 38),
    torqueStage := wordAt args (k + 40), incompleteLimit := wordAt args (k + 42),
    laneAbandon := wordAt args (k + 44) }

/-- The value block of one parameter set as it travels (R179). -/
def encodeValues (v : ParamValues) : List Byte :=
  wordBytes v.productShift ++ wordBytes v.tVoid ++ wordBytes v.tMedium ++
  wordBytes v.tHard ++ wordBytes v.voidMode ++ wordBytes v.voidLimit ++
  wordBytes v.zone ++ wordBytes v.competent ++ wordBytes v.maxExtensions ++
  wordBytes v.collarAllowance ++ wordBytes v.freeLength ++ wordBytes v.cartridgeColumn ++
  wordBytes v.maxCartridges ++ wordBytes v.spinRevs ++ wordBytes v.spinMax ++
  wordBytes v.setTime ++ wordBytes v.seatTorque ++ wordBytes v.targetTorque ++
  wordBytes v.maxTorque ++ wordBytes v.maxTurn ++ wordBytes v.torqueStage ++
  wordBytes v.incompleteLimit ++ wordBytes v.laneAbandon

/-- The block that stands for values that did not travel. -/
def noValues : ParamValues := decodeValues [] 0

/-- The boom byte of a claim or cycle command: argument 0 on Port C, and not part of the frame elsewhere (R178). -/
def boomByte (p : Port) (args : List Byte) : Byte :=
  match p with
  | .C => argAt args 0
  | _ => 0

/-- The command of a frame whose arguments are complete. Bytes after them are not looked at (R171, R172). -/
def CommandName.decode (p : Port) (a : List Byte) : CommandName → Instr
  | .lastResult => .lastResult p
  | .readStatus => .readStatus p
  | .notices => .notices p
  | .configureNotices =>
    .configureNotices p (wordAt a 0) (argAt a 2) (argAt a 3) (argAt a 4) (argAt a 5) (argAt a 6)
  | .readNoticeSettings => .readNoticeSettings p
  | .search =>
    .search p (argAt a 0) (argAt a 1) (argAt a 2) (argAt a 3) (argAt a 4) (argAt a 5) (argAt a 6) (argAt a 7)
  | .readMatches => .readMatches p
  | .readEntry => .readEntry p (argAt a 0) (argAt a 1)
  | .readNext => .readNext p
  | .readParameters => .readParameters p (argAt a 0)
  | .claimNext => .claimNext p
  | .claimSlot => .claimSlot p (boomByte p a) (argAt a (boomByteCount p))
  | .cancelClaim => .cancelClaim p (boomByte p a)
  | .collared => .collared p (boomByte p a)
  | .bitOut => .bitOut p (boomByte p a)
  | .boltIn => .boltIn p (boomByte p a)
  | .openRow => .openRow p (argAt a 0)
  | .planHole => .planHole p (argAt a 0) (argAt a 1) (argAt a 2) (wordAt a 3) (argAt a 5) (argAt a 6)
  | .endPlan => .endPlan p (argAt a 0)
  | .freezeRow => .freezeRow p (argAt a 0)
  | .thawRow => .thawRow p (argAt a 0)
  | .releaseRow => .releaseRow p (argAt a 0)
  | .setProtection => .setProtection p (argAt a 0)
  | .erase => .erase p (argAt a 0)
  | .setValidity => .setValidity p (argAt a 0) (argAt a 1)
  | .cancelSupplements => .cancelSupplements p (argAt a 0)
  | .suspend => .suspend p (argAt a 0)
  | .resume => .resume p (argAt a 0)
  | .abort => .abort p (argAt a 0)
  | .clear => .clear p (argAt a 0)
  | .dryOn => .dryOn p (argAt a 0)
  | .dryOff => .dryOff p (argAt a 0)
  | .restart => .restart p
  | .writeParameters =>
    if argAt a 1 = pairedFlag then .writeParameters p (argAt a 0) true (decodeValues a 2) (decodeValues a 48)
    else .writeParameters p (argAt a 0) false (decodeValues a 2) noValues
  | .selectSet => .selectSet p (argAt a 0) (argAt a 1)
  | .writeMachineSettings => .writeMachineSettings p (wordAt a 0) (wordAt a 2) (wordAt a 4)
  | .refill => .refill p (argAt a 0)
  | .clearJam => .clearJam p
  | .derate => .derate p (argAt a 0)
  | .takeCount => .takeCount p (argAt a 0)
  | .setReportMode => .setReportMode p (argAt a 0) (argAt a 1)
  | .feedSample =>
    .feedSample p (argAt a 0) (argAt a 1) (wordAt a 2) (wordAt a 4) (wordAt a 6) (wordAt a 8) (argAt a 10)

/-- A frame of these whole bytes ends before its command's arguments are complete, or before its command byte is
(R172). A command byte that names no command is never torn. -/
def frameTorn (p : Port) : List Byte → Bool
  | [] => true
  | c :: args =>
    match CommandName.ofByte c with
    | none => false
    | some n => decide (args.length < n.argCount p args)

/-- The command or event that a whole frame of these bytes on port `p` is (R171, R172, R178, R179): its command,
UNKNOWN for a command byte that names none, and TORN for a frame cut short. -/
def decodeFrame (p : Port) : List Byte → Instr
  | [] => .torn p []
  | c :: args =>
    match CommandName.ofByte c with
    | none => .unknown p c
    | some n => if args.length < n.argCount p args then .torn p (c :: args) else n.decode p args

/-- The boom byte where the frame carries one (R178). -/
def boomBytes (p : Port) (b : Byte) : List Byte :=
  match p with
  | .C => [b]
  | _ => []

/-- The port and the command bytes of the frame that carries a command; none for an event that is no frame of a
command (R178, R179). -/
def encodeFrame : Instr → Option (Port × List Byte)
  | .lastResult p => some (p, [CommandName.lastResult.code])
  | .readStatus p => some (p, [CommandName.readStatus.code])
  | .notices p => some (p, [CommandName.notices.code])
  | .configureNotices p m e1 e2 e3 e4 e5 =>
    some (p, CommandName.configureNotices.code :: (wordBytes m ++ [e1, e2, e3, e4, e5]))
  | .readNoticeSettings p => some (p, [CommandName.readNoticeSettings.code])
  | .search p sc r po re h o cl m => some (p, [CommandName.search.code, sc, r, po, re, h, o, cl, m])
  | .readMatches p => some (p, [CommandName.readMatches.code])
  | .readEntry p t g => some (p, [CommandName.readEntry.code, t, g])
  | .readNext p => some (p, [CommandName.readNext.code])
  | .readParameters p x => some (p, [CommandName.readParameters.code, x])
  | .claimNext p => some (p, [CommandName.claimNext.code])
  | .claimSlot p b t => some (p, CommandName.claimSlot.code :: (boomBytes p b ++ [t]))
  | .cancelClaim p b => some (p, CommandName.cancelClaim.code :: boomBytes p b)
  | .collared p b => some (p, CommandName.collared.code :: boomBytes p b)
  | .bitOut p b => some (p, CommandName.bitOut.code :: boomBytes p b)
  | .boltIn p b => some (p, CommandName.boltIn.code :: boomBytes p b)
  | .openRow p r => some (p, [CommandName.openRow.code, r])
  | .planHole p r po re off cl pr =>
    some (p, CommandName.planHole.code :: ([r, po, re] ++ wordBytes off ++ [cl, pr]))
  | .endPlan p r => some (p, [CommandName.endPlan.code, r])
  | .freezeRow p r => some (p, [CommandName.freezeRow.code, r])
  | .thawRow p r => some (p, [CommandName.thawRow.code, r])
  | .releaseRow p r => some (p, [CommandName.releaseRow.code, r])
  | .setProtection p m => some (p, [CommandName.setProtection.code, m])
  | .erase p i => some (p, [CommandName.erase.code, i])
  | .setValidity p t v => some (p, [CommandName.setValidity.code, t, v])
  | .cancelSupplements p r => some (p, [CommandName.cancelSupplements.code, r])
  | .suspend p b => some (p, [CommandName.suspend.code, b])
  | .resume p b => some (p, [CommandName.resume.code, b])
  | .abort p b => some (p, [CommandName.abort.code, b])
  | .clear p b => some (p, [CommandName.clear.code, b])
  | .dryOn p b => some (p, [CommandName.dryOn.code, b])
  | .dryOff p b => some (p, [CommandName.dryOff.code, b])
  | .restart p => some (p, [CommandName.restart.code])
  | .writeParameters p n true v w =>
    some (p, CommandName.writeParameters.code :: n :: pairedFlag :: (encodeValues v ++ encodeValues w))
  | .writeParameters p n false v _ =>
    some (p, CommandName.writeParameters.code :: n :: 0x00 :: encodeValues v)
  | .selectSet p b n => some (p, [CommandName.selectSet.code, b, n])
  | .writeMachineSettings p a b c =>
    some (p, CommandName.writeMachineSettings.code :: (wordBytes a ++ wordBytes b ++ wordBytes c))
  | .refill p n => some (p, [CommandName.refill.code, n])
  | .clearJam p => some (p, [CommandName.clearJam.code])
  | .derate p t => some (p, [CommandName.derate.code, t])
  | .takeCount p l => some (p, [CommandName.takeCount.code, l])
  | .setReportMode p l m => some (p, [CommandName.setReportMode.code, l, m])
  | .feedSample p b q po th sp tq fl =>
    some (p, CommandName.feedSample.code ::
      ([b, q] ++ wordBytes po ++ wordBytes th ++ wordBytes sp ++ wordBytes tq ++ [fl]))
  | .powerOn | .resetN | .frameStart _ | .unknown _ _ | .torn _ _ | .readEffects _ _ => none
  | .laneCharacter _ _ _ | .gapTimerExpiry _ | .lossTimerExpiry _ | .reportPeriodExpiry _ => none
  | .laneAbandonExpiry _ | .spinMaxExpiry _ | .setTimerExpiry _ | .torqueStageExpiry _ => none
  | .settleExpiry | .loaderGapExpiry | .doneEdge | .jamEdge | .doneTimeoutExpiry => none
  | .supplyLoss | .resetNRelease | .firePulseEnd => none

/-- The command that a table word spells: the opcode table gives no row of this part any bits, so no word spells
one (spec 98_reader.md, "n_rows_with_fixed": 0). -/
def decodeTableWord (_nbits _w : Nat) : Option Instr := none

end Sys2Proof
end

