-- ==== Sys2Proof/Config.lean ====
section
/-! DEFINITION. The values that the spec leaves open. Each is a constant without a body, so that no statement can
rest on the value it has. -/

namespace Sys2Proof

/-- The bits of a reply byte that the layouts of 13_layouts.md give no meaning: a byte for each settled read
(counted by `State.readCount`) and each place in its reply (notes/assumptions/3.md). -/
opaque Config.unstatedByte : Nat → Nat → Byte

/-- The level of the GUARD input from a Timebase tick on: the key-switch is turned outside the part, and no row of
the command table carries its level (R17, notes/assumptions/4.md). -/
opaque Config.guardLevel : Nat → Bool

/-- Where, at a tick, each further expiry of that tick is put among the ones before it: the part prefers no order
of events that arrive together (R144, R172, notes/assumptions/5.md). -/
opaque Config.expiryPlace : Nat → Nat → Nat

end Sys2Proof
end

