-- ==== Sys2Proof/Machine/State.lean ====
section
/-! DEFINITION. The state of the part, as plain data: every item that the chapters' state tables name, each block in
a structure of its own, and the power-on values. -/

namespace Sys2Proof.Machine

/-! ### Pairs and triples of like blocks -/

/-- One item for each boom or lane (spec 00_scope.md, Blocks and connections). -/
structure Pair (α : Type) where
  a : α
  b : α
deriving DecidableEq, Repr

/-- One item for each port. -/
structure Triple (α : Type) where
  a : α
  b : α
  c : α
deriving DecidableEq, Repr

/-! ### Hole Table (chapter 1) -/

/-- A slot number, 0 to 47 (R1). -/
abbrev Slot := Fin 48

/-- Validity of an entry; a slot without an entry is EMPTY (R1). -/
inductive Validity where
  | live
  | skip
  | held
deriving DecidableEq, Repr

/-- Reach of a hole (R2). -/
inductive Reach where
  | a
  | b
  | either
deriving DecidableEq, Repr

/-- Origin of an entry (R2). -/
inductive Origin where
  | plan
  | supplement
deriving DecidableEq, Repr

/-- Hole state (R4). -/
inductive HoleState where
  | planned
  | claimed
  | drilling
  | drilled
  | resined
  | bolted
  | accepted
  | rejected
  | tested
deriving DecidableEq, Repr

/-- Verdict reason (R5). -/
inductive VerdictReason where
  | good
  | weakAnchor
  | dry
  | void
  | unbondable
  | spinShort
  | setDisturbed
  | noSeat
  | torqueLow
  | overtorque
  | anchorSlip
  | anchorSpin
  | jam
  | laneLost
  | aborted
  | restart
deriving DecidableEq, Repr

/-- Class of an increment or a layer, from weakest to strongest (R94, R107). -/
inductive LayerClass where
  | void
  | soft
  | medium
  | hard
deriving DecidableEq, Repr

/-- A layer of a hole's profile; depths in mm (R3). -/
structure Layer where
  start : Nat
  length : Nat
  cls : LayerClass
  merged : Bool
deriving DecidableEq, Repr

/-- The result part of an entry (R3). A field that is not yet written is `none`. -/
structure Result where
  collar : Option Nat
  target : Nat
  drilledDepth : Option Nat
  profiledDepth : Nat
  extensions : Nat
  layers : List Layer
  voidTotal : Nat
  incomplete : Nat
  saturated : Nat
  unreliable : Bool
  cartPlanned : Option Nat
  cartDelivered : Option Nat
  spinRevs : Option Nat
  peakTorque : Option Nat
  finalTorque : Option Nat
  turnAfterSeat : Option Nat
  verdict : Option VerdictReason
  supplementLost : Bool
  refer : Bool
deriving DecidableEq, Repr

/-- An entry record: the plan part (R2) and the result part (R3). -/
structure Entry where
  validity : Validity
  row : Byte
  position : Nat
  reach : Reach
  offset : Nat
  lengthClass : Nat
  priority : Nat
  origin : Origin
  parent : Option Slot
  generation : Nat
  holeState : HoleState
  claimant : Option Boom
  drained : Bool
  result : Option Result
deriving DecidableEq, Repr

/-- Row state (R7). -/
inductive RowState where
  | opened
  | closed
  | frozen
deriving DecidableEq, Repr

/-- A row record (R7). -/
structure RowRecord where
  id : Byte
  state : RowState
  planEnded : Bool
  entries : Nat
  accepted : Nat
  rejected : Nat
deriving DecidableEq, Repr

/-- Protection mode, from lowest to highest (R17). -/
inductive Protection where
  | opened
  | guarded
  | shift
deriving DecidableEq, Repr

/-! ### Boom Cycle Unit (chapter 3) -/

/-- Cycle state (R43, R44). -/
inductive CycleState where
  | idle
  | claimed
  | drilling
  | withdrawing
  | awaitResin
  | loading
  | awaitBolt
  | spinning
  | setting
  | torquing
  | suspended
  | halted
deriving DecidableEq, Repr

/-- The states that SUSPEND can store (R43, R61). -/
inductive StoredState where
  | drilling
  | torquing
deriving DecidableEq, Repr

/-- The hold set: which of the three hold reasons are present (R43, R45). -/
structure Holds where
  flow : Bool
  lane : Bool
  flush : Bool
deriving DecidableEq, Repr

/-- The torque stage timer, with its elapsed ms (R43, R59). -/
inductive TorqueTimer where
  | notStarted
  | running (ms : Nat)
  | paused (ms : Nat)
deriving DecidableEq, Repr

/-- A parameter set number (R158, R163). -/
inductive SetNo where
  | set0
  | set1
deriving DecidableEq, Repr

/-- The state of a Boom Cycle Unit (R43). A timer is `none` while stopped, else its elapsed ms. -/
structure BoomUnit where
  cycle : CycleState
  holds : Holds
  workSlot : Option Slot
  claimHeld : Bool
  stored : Option StoredState
  flushCount : Nat
  abandonTimer : Option Nat
  spinTimer : Option Nat
  setTimer : Option Nat
  torqueTimer : TorqueTimer
  feed : Bool
  turn : Bool
  activeSet : SetNo
  pendingSet : SetNo
  dry : Bool
deriving DecidableEq, Repr

/-! ### Lane Receiver (chapter 4) -/

/-- Lane health (R76). -/
inductive LaneHealth where
  | silent
  | inStep
  | outOfStep
  | lost
deriving DecidableEq, Repr

/-- Framer state: HUNTING, or IN_FRAME with the bytes held and the elapsed ms of the gap timer (R70). -/
inductive Framer where
  | hunting
  | inFrame (held : List Byte) (gapMs : Nat)
deriving DecidableEq, Repr

/-- Report mode of the fault counter (R81, R82). -/
inductive ReportMode where
  | auto
  | manual
deriving DecidableEq, Repr

/-- The state of a Lane Receiver (R69). -/
structure Lane where
  health : LaneHealth
  framer : Framer
  lastSeq : Option Byte
  lastPosition : Option Nat
  windowCount : Nat
  windowTally : Nat
  lossTimer : Option Nat
  faults : Nat
  reportValue : Nat
  reportMode : ReportMode
  reportTimer : Option Nat
deriving DecidableEq, Repr

/-! ### Strata Engine (chapters 5, 6 and 8) -/

/-- An increment record handed to the window stage (R98). -/
structure IncRecord where
  index : Nat
  cls : LayerClass
  incomplete : Bool
  saturated : Bool
deriving DecidableEq, Repr

/-- A closed window with its open flag (R100, R102). -/
structure Window where
  records : List IncRecord
  isOpen : Bool
deriving DecidableEq, Repr

/-- The state of a Strata Engine: the energy state of R85, the profile state of R100 and the bolt-stage state of
R133. -/
structure Engine where
  collar : Option Nat
  reference : Option Nat
  currentDepth : Nat
  frontDepth : Nat
  openIncrement : Nat
  accumulator : Nat
  openIncomplete : Bool
  openSaturated : Bool
  heldClass : Option LayerClass
  incomplete : Nat
  saturated : Nat
  unreliable : Bool
  windowBase : Nat
  window : List IncRecord
  heldWindow : Option Window
  previousOpen : Bool
  voidState : Bool
  weakAnchor : Bool
  revolutionSum : Nat
  seatRun : Nat
  seated : Bool
  turnSum : Nat
  engaged : Bool
  slipRun : Nat
  peak : Option Nat
deriving DecidableEq, Repr

/-! ### Resin Loader Unit (chapter 7) -/

/-- Loader state (R119). -/
inductive LoaderState where
  | idle
  | diverting
  | firing
  | gap
  | waitMagazine
  | jammed
deriving DecidableEq, Repr

/-- A loader grant (R119). -/
structure LoaderGrant where
  boom : Boom
  planned : Nat
  delivered : Nat
  jams : Nat
  cancelled : Bool
deriving DecidableEq, Repr

/-- The state of the Resin Loader Unit (R119) with its DIVERT and FIRE lines (R120). `divert` is the boom that the
diverter is driven toward; `pulseTimer` runs through the 20 ms FIRE pulse. -/
structure Loader where
  state : LoaderState
  grant : Option LoaderGrant
  queue : List Boom
  magazine : Nat
  stageTimer : Option Nat
  divert : Boom
  fire : Bool
  pulseTimer : Option Nat
deriving DecidableEq, Repr

/-! ### Flow Arbiter (chapter 9) -/

/-- The stage of a flow grant (R148). -/
inductive FlowStage where
  | drilling
  | spinning
  | torquing
deriving DecidableEq, Repr

/-- A flow grant (R148). -/
structure FlowGrant where
  stage : FlowStage
  demand : Nat
  minimum : Nat
  amount : Nat
  degraded : Bool
deriving DecidableEq, Repr

/-- A waiting flow request (R148). -/
structure FlowRequest where
  boom : Boom
  stage : FlowStage
  demand : Nat
  minimum : Nat
deriving DecidableEq, Repr

/-- The state of the Flow Arbiter (R148). -/
structure Arbiter where
  derate : Nat
  grants : Pair (Option FlowGrant)
  order : List Boom
  queue : List FlowRequest
deriving DecidableEq, Repr

/-! ### Parameter Store (chapter 10) -/

/-- Void mode (R158). -/
inductive VoidMode where
  | one
  | two
deriving DecidableEq, Repr

/-- A parameter set (R158). -/
structure ParamSet where
  productShift : Nat
  tVoid : Nat
  tMedium : Nat
  tHard : Nat
  voidMode : VoidMode
  voidLimit : Nat
  zone : Nat
  competent : Nat
  maxExtensions : Nat
  collarAllowance : Nat
  freeLength : Nat
  cartridgeColumn : Nat
  maxCartridges : Nat
  spinRevs : Nat
  spinMax : Nat
  setTime : Nat
  seatTorque : Nat
  targetTorque : Nat
  maxTorque : Nat
  maxTurn : Nat
  torqueStage : Nat
  incompleteLimit : Nat
  laneAbandon : Nat
deriving DecidableEq, Repr

/-- The machine settings (R158). -/
structure Settings where
  separation : Nat
  shift : Nat
  lowMark : Nat
deriving DecidableEq, Repr

/-- The Parameter Store (R158). -/
structure ParamStore where
  set0 : ParamSet
  set1 : ParamSet
  settings : Settings
deriving DecidableEq, Repr

/-! ### Notice Unit (chapter 11) and Command Ports (chapters 2 and 12) -/

/-- The 22 notice pairs: a kind with its subject (R166). -/
inductive NoticePair where
  | stage (b : Boom)
  | permit (b : Boom)
  | flow (b : Boom)
  | extend (b : Boom)
  | void (b : Boom)
  | verdict (b : Boom)
  | lane (b : Boom)
  | report (b : Boom)
  | countOver (b : Boom)
  | loader
  | magazineLow
  | row
  | table
deriving DecidableEq, Repr

/-- Edge mode of a status-backed kind (R167, R168). -/
inductive EdgeMode where
  | rise
  | any
deriving DecidableEq, Repr

/-- The edge modes of a port for the five status-backed kinds, in kind order (R168). -/
structure EdgeModes where
  permit : EdgeMode
  void : EdgeMode
  lane : EdgeMode
  loader : EdgeMode
  magazineLow : EdgeMode
deriving DecidableEq, Repr

/-- Result code (R174). -/
inductive Code where
  | done
  | clamped
  | noMatch
  | ended
  | denied
  | state
  | isProtected
  | full
  | tooClose
  | inUse
  | busy
  | noRow
  | unknown
  | torn
deriving DecidableEq, Repr

/-- The last-result record of a port (R174). -/
structure LastResult where
  command : Option Byte
  code : Code
  slot : Option Slot
deriving DecidableEq, Repr

/-- Scope of a SEARCH (R26). -/
inductive Scope where
  | live
  | skip
  | held
  | empty
deriving DecidableEq, Repr

/-- The match context of a port (R25). `members` is in ascending order. -/
structure MatchContext where
  scope : Scope
  members : List Slot
  best : Option Slot
deriving DecidableEq, Repr

/-- The effect that a settled read holds back to the rise of chip select (R34, R170). `cursor target drain` sets the
read cursor and, if `drain` names a slot, its drained mark; `clear reported reposted` removes the reported pairs but
for those with a re-post mark. -/
inductive ReadEffect where
  | nothing
  | cursor (target : Option (Slot × Nat)) (drain : Option Slot)
  | clear (reported reposted : List NoticePair)
deriving DecidableEq, Repr

/-- The two status bytes latched at the fall of chip select (R171): the code of the last-result record and the
number of pending pairs. -/
structure StatusLatch where
  code : Code
  count : Nat
deriving DecidableEq, Repr

/-- The frame of a port. `idle`: chip select is high. `active`: a frame is in progress. `reply`: its command, with
this many argument bytes, is settled and its reply is being clocked out. `dropped`: a reset dropped the frame, and
the rest of it is ignored until chip select rises (R172, R176). -/
inductive Frame where
  | idle
  | active (status : StatusLatch)
  | reply (status : StatusLatch) (argCount : Nat) (bytes : List Byte) (effect : ReadEffect)
  | dropped
deriving DecidableEq, Repr

/-- The state of a port: last-result record, match context and read cursor (R25, R174), pending notice set, masks,
edge modes and attention line (R168, R169), and the frame in progress (R171). Bit `k` of `masks` is 1 when kind `k`
is masked; `atn` is true while the line is asserted. -/
structure PortState where
  last : LastResult
  context : MatchContext
  cursor : Option (Slot × Nat)
  pending : List NoticePair
  masks : BitVec 13
  edges : EdgeModes
  atn : Bool
  frame : Frame
deriving DecidableEq, Repr

/-! ### The whole part -/

/-- The state of the part. The last three fields are the model's own: `readCount` numbers the settled reads and
`tickCount` the Timebase ticks, for the free values of Config, and `pending` is the queue of waiting commands. -/
structure State where
  slots : Vector (Option Entry) 48
  rows : List RowRecord
  backlog : List Slot
  protection : Protection
  units : Pair BoomUnit
  lanes : Pair Lane
  engines : Pair Engine
  loader : Loader
  arbiter : Arbiter
  params : ParamStore
  ports : Triple PortState
  guardPin : Bool
  supplyUp : Bool
  resetLow : Bool
  readCount : Nat
  tickCount : Nat
  pending : List Instr
deriving DecidableEq, Repr

/-- No command or event of this part ends in a fault: there is no reason. -/
inductive Fault where
deriving DecidableEq, Repr

/-- Why a command has no meaning. -/
inductive Refusal where
  /-- Raised by `exec` for a row that has no meaning yet (safe). No row of this model raises it. -/
  | notModelled (mnemonic : String)
deriving DecidableEq, Repr

/-! ### Power-on values -/

/-- A Boom Cycle Unit after power-on (R43). -/
def BoomUnit.initial : BoomUnit where
  cycle := .idle
  holds := ⟨false, false, false⟩
  workSlot := none
  claimHeld := false
  stored := none
  flushCount := 0
  abandonTimer := none
  spinTimer := none
  setTimer := none
  torqueTimer := .notStarted
  feed := false
  turn := false
  activeSet := .set0
  pendingSet := .set0
  dry := false

/-- A Lane Receiver after power-on (R69). -/
def Lane.initial : Lane where
  health := .silent
  framer := .hunting
  lastSeq := none
  lastPosition := none
  windowCount := 0
  windowTally := 0
  lossTimer := none
  faults := 0
  reportValue := 0
  reportMode := .auto
  reportTimer := some 0

/-- A Strata Engine cleared (R85, R100, R133). -/
def Engine.initial : Engine where
  collar := none
  reference := none
  currentDepth := 0
  frontDepth := 0
  openIncrement := 0
  accumulator := 0
  openIncomplete := false
  openSaturated := false
  heldClass := none
  incomplete := 0
  saturated := 0
  unreliable := false
  windowBase := 0
  window := []
  heldWindow := none
  previousOpen := false
  voidState := false
  weakAnchor := false
  revolutionSum := 0
  seatRun := 0
  seated := false
  turnSum := 0
  engaged := false
  slipRun := 0
  peak := none

/-- The Resin Loader Unit after power-on (R119). -/
def Loader.initial : Loader where
  state := .idle
  grant := none
  queue := []
  magazine := 0
  stageTimer := none
  divert := .A
  fire := false
  pulseTimer := none

/-- The Flow Arbiter after power-on (R148). -/
def Arbiter.initial : Arbiter where
  derate := 100
  grants := ⟨none, none⟩
  order := []
  queue := []

/-- The default parameter set 0 (R158). -/
def ParamSet.default0 : ParamSet where
  productShift := 2
  tVoid := 150
  tMedium := 1200
  tHard := 4000
  voidMode := .two
  voidLimit := 250
  zone := 600
  competent := 300
  maxExtensions := 1
  collarAllowance := 100
  freeLength := 150
  cartridgeColumn := 600
  maxCartridges := 4
  spinRevs := 25
  spinMax := 12000
  setTime := 15000
  seatTorque := 150
  targetTorque := 270
  maxTorque := 340
  maxTurn := 7200
  torqueStage := 20000
  incompleteLimit := 20
  laneAbandon := 5000

/-- The default parameter set 1, which differs in two figures (R158). -/
def ParamSet.default1 : ParamSet :=
  { ParamSet.default0 with tMedium := 1400, voidMode := .one }

/-- The Parameter Store after power-on (R158). -/
def ParamStore.initial : ParamStore where
  set0 := .default0
  set1 := .default1
  settings := ⟨600, 300, 6⟩

/-- A match context after any reset (R25). -/
def MatchContext.initial : MatchContext := ⟨.live, [], none⟩

/-- A port after power-on (R25, R168, R176). -/
def PortState.initial : PortState where
  last := ⟨none, .done, none⟩
  context := .initial
  cursor := none
  pending := []
  masks := BitVec.allOnes 13
  edges := ⟨.rise, .rise, .rise, .rise, .rise⟩
  atn := false
  frame := .idle

/-- The part right after power-on, with the supply up, RESET_N high and no frame in progress. The level of GUARD is
outside the part: not asserted here (DESIGN CHOICE, notes/assumptions/4.md). -/
def State.reset : State where
  slots := Vector.replicate 48 none
  rows := []
  backlog := []
  protection := .opened
  units := ⟨.initial, .initial⟩
  lanes := ⟨.initial, .initial⟩
  engines := ⟨.initial, .initial⟩
  loader := .initial
  arbiter := .initial
  params := .initial
  ports := ⟨.initial, .initial, .initial⟩
  guardPin := false
  supplyUp := true
  resetLow := false
  readCount := 0
  tickCount := 0
  pending := []

end Sys2Proof.Machine
end

