-- ==== Sys2Proof/Machine/Ops.lean ====
section
/-! DEFINITION. The named reads and writes of the state's items, which every other file goes through. -/

namespace Sys2Proof.Machine

/-! ### Pairs and triples -/

/-- The item of boom or lane `b`. -/
def Pair.get {α : Type} (x : Pair α) : Boom → α
  | .A => x.a
  | .B => x.b

/-- The pair with the item of `b` replaced. -/
def Pair.set {α : Type} (x : Pair α) (b : Boom) (v : α) : Pair α :=
  match b with
  | .A => { x with a := v }
  | .B => { x with b := v }

/-- The item of port `p`. -/
def Triple.get {α : Type} (x : Triple α) : Port → α
  | .A => x.a
  | .B => x.b
  | .C => x.c

/-- The triple with the item of `p` replaced. -/
def Triple.set {α : Type} (x : Triple α) (p : Port) (v : α) : Triple α :=
  match p with
  | .A => { x with a := v }
  | .B => { x with b := v }
  | .C => { x with c := v }

/-- The triple with `f` made of each item. -/
def Triple.map {α : Type} (x : Triple α) (f : α → α) : Triple α := ⟨f x.a, f x.b, f x.c⟩

/-! ### Blocks of the state -/

/-- The Boom Cycle Unit of boom `b`. -/
def State.unit (s : State) (b : Boom) : BoomUnit := s.units.get b

/-- The state with the Boom Cycle Unit of `b` replaced. -/
def State.setUnit (s : State) (b : Boom) (u : BoomUnit) : State := { s with units := s.units.set b u }

/-- The Lane Receiver of lane `b`. -/
def State.lane (s : State) (b : Boom) : Lane := s.lanes.get b

/-- The state with the Lane Receiver of `b` replaced. -/
def State.setLane (s : State) (b : Boom) (l : Lane) : State := { s with lanes := s.lanes.set b l }

/-- The Strata Engine of boom `b`. -/
def State.engine (s : State) (b : Boom) : Engine := s.engines.get b

/-- The state with the Strata Engine of `b` replaced. -/
def State.setEngine (s : State) (b : Boom) (e : Engine) : State := { s with engines := s.engines.set b e }

/-- The state of port `p`. -/
def State.port (s : State) (p : Port) : PortState := s.ports.get p

/-- The state with port `p` replaced. -/
def State.setPort (s : State) (p : Port) (q : PortState) : State := { s with ports := s.ports.set p q }

/-- The state with every port changed alike. -/
def State.mapPorts (s : State) (f : PortState → PortState) : State := { s with ports := s.ports.map f }

/-- The state with the Resin Loader Unit replaced. -/
def State.setLoader (s : State) (l : Loader) : State := { s with loader := l }

/-- The state with the Flow Arbiter replaced. -/
def State.setArbiter (s : State) (a : Arbiter) : State := { s with arbiter := a }

/-- The state with the Row Table replaced. -/
def State.setRows (s : State) (r : List RowRecord) : State := { s with rows := r }

/-- The state with the backlog replaced. -/
def State.setBacklog (s : State) (l : List Slot) : State := { s with backlog := l }

/-- The state with the Parameter Store replaced. -/
def State.setParams (s : State) (x : ParamStore) : State := { s with params := x }

/-- The state with the protection mode replaced. -/
def State.setProtectionMode (s : State) (m : Protection) : State := { s with protection := m }

/-- The part is held: RESET_N is low, or the supply is below the power-on threshold (R43, R176). -/
def State.isHeld (s : State) : Bool := s.resetLow || !s.supplyUp

/-! ### Slots -/

/-- The entry in slot `i`; `none` when the slot is EMPTY (R1). -/
def State.entry (s : State) (i : Slot) : Option Entry := s.slots.get i

/-- The state with slot `i` replaced. -/
def State.setEntry (s : State) (i : Slot) (e : Option Entry) : State := { s with slots := s.slots.set i e }

/-- The entry of a slot changed by `f`, where the slot holds one. -/
def State.modEntry (s : State) (i : Slot) (f : Entry → Entry) : State :=
  match s.entry i with
  | some e => s.setEntry i (some (f e))
  | none => s

/-- Every slot number in ascending order. -/
def allSlots : List Slot := List.finRange 48

/-! ### Parameters of a boom -/

/-- A stored parameter set. -/
def ParamStore.get (x : ParamStore) : SetNo → ParamSet
  | .set0 => x.set0
  | .set1 => x.set1

/-- The store with one parameter set replaced. -/
def ParamStore.put (x : ParamStore) (n : SetNo) (v : ParamSet) : ParamStore :=
  match n with
  | .set0 => { x with set0 := v }
  | .set1 => { x with set1 := v }

/-- The figures of the boom's active set (R163). -/
def State.active (s : State) (b : Boom) : ParamSet := s.params.get (s.unit b).activeSet

/-! ### The claimed entry of a boom -/

/-- The entry in the boom's work slot, where the boom holds its claim (R43, R6). -/
def State.claimedEntry (s : State) (b : Boom) : Option (Slot × Entry) :=
  if (s.unit b).claimHeld then
    match (s.unit b).workSlot with
    | some i => (s.entry i).map fun e => (i, e)
    | none => none
  else none

/-- An update of R6: the entry claimed by the boom, changed by `f`. -/
def State.updateClaimed (s : State) (b : Boom) (f : Entry → Entry) : State :=
  match s.claimedEntry b with
  | some (i, e) => s.setEntry i (some (f e))
  | none => s

/-- An update of R6 that writes result-part fields of the claimed entry. -/
def State.updateResult (s : State) (b : Boom) (f : Result → Result) : State :=
  s.updateClaimed b fun e => { e with result := e.result.map f }

/-! ### Timers: their times in ms, and their expiry -/

/-- The gap timer of the framer (R70). -/
def gapTime : Nat := 1

/-- The loss timer (R78). -/
def lossTime : Nat := 50

/-- The report period (R81). -/
def reportPeriod : Nat := 1000

/-- The settle time of DIVERTING (R123). -/
def settleTime : Nat := 300

/-- The DONE timeout of FIRING (R124). -/
def doneTimeout : Nat := 3000

/-- The gap time between cartridges (R125). -/
def loaderGapTime : Nat := 200

/-- The FIRE pulse (R120). -/
def firePulse : Nat := 20

/-- A timer of `d` ms has expired: it expires `d` ticks after it starts (spec 00_scope.md, Conventions). -/
def expired (d : Nat) (t : Option Nat) : Bool :=
  match t with
  | some n => decide (d ≤ n)
  | none => false

/-- The elapsed time of a running gap timer. -/
def Framer.gap : Framer → Option Nat
  | .hunting => none
  | .inFrame _ t => some t

/-- The elapsed time of a running torque stage timer. -/
def TorqueTimer.elapsed : TorqueTimer → Option Nat
  | .running t => some t
  | _ => none

end Sys2Proof.Machine
end

