-- ==== Sys2Proof/Machine/Flags.lean ====
section
/-! DEFINITION. The status conditions, the notices that follow them, and the lines worked out from the state: the
Notice Unit (chapter 11), the permit conditions (R49) and the status-backed kinds of the blocks. -/

namespace Sys2Proof.Machine

/-! ### Notice pairs -/

/-- The number of a pair's kind (R166). -/
def NoticePair.kind : NoticePair → Nat
  | .stage _ => 0
  | .permit _ => 1
  | .flow _ => 2
  | .extend _ => 3
  | .void _ => 4
  | .verdict _ => 5
  | .lane _ => 6
  | .report _ => 7
  | .countOver _ => 8
  | .loader => 9
  | .magazineLow => 10
  | .row => 11
  | .table => 12

/-- The subject of a pair; kinds 9 to 12 have none (R166). -/
def NoticePair.subject : NoticePair → Option Boom
  | .stage b | .permit b | .flow b | .extend b | .void b | .verdict b | .lane b | .report b | .countOver b => some b
  | .loader | .magazineLow | .row | .table => none

/-- The place of a pair in the order of a NOTICES reply: ascending kind, subject A before B (R170). -/
def NoticePair.rank (n : NoticePair) : Nat :=
  2 * n.kind + (if n.subject = some .B then 1 else 0)

/-- A pending set, kept in reply order, with a pair recorded in it; a pair it already holds leaves it as it was
(R167, R168). -/
def insertPair (n : NoticePair) : List NoticePair → List NoticePair
  | [] => [n]
  | m :: rest =>
    if n = m then m :: rest
    else if n.rank < m.rank then n :: m :: rest
    else m :: insertPair n rest

/-! ### Recording, posting and offering -/

/-- A pair of the reported list that is recorded while a NOTICES reply is clocked out gets its re-post mark (R170). -/
def Frame.repost (n : NoticePair) : Frame → Frame
  | .reply st k bytes (.clear reported reposted) =>
    if n ∈ reported then .reply st k bytes (.clear reported (insertPair n reposted))
    else .reply st k bytes (.clear reported reposted)
  | f => f

/-- The pending set holds a pair whose kind is unmasked (R169). -/
def PortState.unmaskedPending (q : PortState) : Bool := q.pending.any fun n => !q.masks.getLsbD n.kind

/-- The attention line worked out again; it is released while RESET_N is low (R169). -/
def PortState.withAtn (resetLow : Bool) (q : PortState) : PortState :=
  { q with atn := !resetLow && q.unmaskedPending }

/-- A pair recorded at a port (R167, R169, R170). -/
def PortState.record (resetLow : Bool) (n : NoticePair) (q : PortState) : PortState :=
  ({ q with pending := insertPair n q.pending, frame := q.frame.repost n }).withAtn resetLow

/-- A posting of an event-kind pair: it is recorded at each of the three ports (R167). -/
def State.post (s : State) (n : NoticePair) : State := s.mapPorts (PortState.record s.resetLow n)

/-- The edge mode of a port for the kind of a status-backed pair (R168); the event kinds have none. -/
def EdgeModes.mode (e : EdgeModes) : NoticePair → EdgeMode
  | .permit _ => e.permit
  | .void _ => e.void
  | .lane _ => e.lane
  | .loader => e.loader
  | .magazineLow => e.magazineLow
  | _ => .rise

/-- An offer of a status change: a rise is recorded at every port, a fall at the ports in ANY mode (R167). -/
def State.offer (s : State) (n : NoticePair) (rise : Bool) : State :=
  s.mapPorts fun q => if rise || q.edges.mode n == .any then q.record s.resetLow n else q

/-- The offer that a status going from `before` to `after` makes; a status that stays makes none (R167). -/
def State.offerChange (s : State) (n : NoticePair) (before after : Bool) : State :=
  if before = after then s else s.offer n after

/-- Every attention line worked out again (R169). -/
def State.refreshAtn (s : State) : State := s.mapPorts (PortState.withAtn s.resetLow)

/-! ### Status conditions -/

/-- Status of the LANE kind: the lane health is IN_STEP (R79). -/
def State.laneInStep (s : State) (b : Boom) : Bool := (s.lane b).health == .inStep

/-- Status of the LOADER kind: the loader is JAMMED, or the magazine is 0 (R131). -/
def State.loaderStatus (s : State) : Bool := s.loader.state == .jammed || s.loader.magazine == 0

/-- Status of the MAGAZINE_LOW kind: the magazine is at or below the low mark (R131). -/
def State.magazineLow (s : State) : Bool := decide (s.loader.magazine ≤ s.params.settings.lowMark)

/-- Status of the PERMIT kind: the boom's FEED line is asserted (R49). -/
def State.feedLine (s : State) (b : Boom) : Bool := (s.unit b).feed

/-- The hold set is not empty (R45). -/
def Holds.present (h : Holds) : Bool := h.flow || h.lane || h.flush

/-- The empty hold set. -/
def Holds.none : Holds := ⟨false, false, false⟩

/-- The states in which the hold set applies (R44, R45). -/
def CycleState.holdable : CycleState → Bool
  | .drilling | .spinning | .torquing => true
  | _ => false

/-- The boom is running: in DRILLING, SPINNING or TORQUING with an empty hold set (R45). -/
def BoomUnit.running (u : BoomUnit) : Bool := u.cycle.holdable && !u.holds.present

/-- The condition of FEED: DRILLING, running and not DRY, with RESET_N high and the supply up (R43, R49). -/
def BoomUnit.feedCondition (u : BoomUnit) (held : Bool) : Bool :=
  u.cycle == .drilling && u.running && !u.dry && !held

/-- The condition of TURN: DRILLING, SPINNING or TORQUING, running and not DRY, with RESET_N high and the supply up
(R43, R49). -/
def BoomUnit.turnCondition (u : BoomUnit) (held : Bool) : Bool := u.running && !u.dry && !held

/-- The hold set that the conditions of R45 give boom `b`: FLOW while its request waits, LANE while its lane is not
IN_STEP, FLUSH in DRILLING while the flush count is 10. -/
def State.holdConditions (s : State) (b : Boom) : Holds :=
  if (s.unit b).cycle.holdable then
    { flow := s.arbiter.queue.any fun r => r.boom == b
      lane := !s.laneInStep b
      flush := (s.unit b).cycle == .drilling && (s.unit b).flushCount == 10 }
  else Holds.none

/-! ### The boom brought in step with its conditions -/

/-- The lane abandon timer: it runs from the moment LANE enters the hold set in DRILLING, and stops when LANE leaves
it or the boom leaves DRILLING (R47). -/
def BoomUnit.nextAbandon (u : BoomUnit) (h : Holds) : Option Nat :=
  if u.cycle = .drilling ∧ h.lane = true then some (u.abandonTimer.getD 0) else none

/-- The spin max timer: it starts at the first moment the boom is running in SPINNING, runs on through holds, and
stops when the boom leaves SPINNING (R56, R57). -/
def BoomUnit.nextSpin (u : BoomUnit) (h : Holds) : Option Nat :=
  if u.cycle = .spinning then
    match u.spinTimer with
    | some t => some t
    | none => if h.present then none else some 0
  else none

/-- The set timer runs in SETTING only (R58). -/
def BoomUnit.nextSet (u : BoomUnit) : Option Nat :=
  if u.cycle = .setting then u.setTimer else none

/-- The torque stage timer: it starts at the first moment the boom is running in TORQUING, runs on through holds, is
kept in SUSPENDED, and is not started in any other state (R59, R62). -/
def BoomUnit.nextTorque (u : BoomUnit) (h : Holds) : TorqueTimer :=
  match u.cycle with
  | .torquing =>
    match u.torqueTimer with
    | .notStarted => if h.present then .notStarted else .running 0
    | t => t
  | .suspended => u.torqueTimer
  | _ => .notStarted

/-- A unit with hold set `h`, and the timers and lines that follow from it (R45, R47, R49, R56, R59). -/
def BoomUnit.follow (u : BoomUnit) (h : Holds) (held : Bool) : BoomUnit :=
  let v := { u with
    holds := h
    abandonTimer := u.nextAbandon h
    spinTimer := u.nextSpin h
    setTimer := u.nextSet
    torqueTimer := u.nextTorque h }
  { v with feed := v.feedCondition held, turn := v.turnCondition held }

/-- The seat run, the engagement and the slip run are dropped (R137, R146). -/
def Engine.dropTorqueRun (e : Engine) : Engine := { e with seatRun := 0, engaged := false, slipRun := 0 }

/-- Boom `b` brought in step with its conditions: the hold set is computed, a boom held in TORQUING drops its seat
run, engagement and slip run, and the timers and permit lines follow (R45, R47, R49, R56, R59, R137). -/
def State.syncBoom (s : State) (b : Boom) : State :=
  let h := s.holdConditions b
  let s1 := s.setUnit b ((s.unit b).follow h s.isHeld)
  if (s.unit b).cycle = .torquing ∧ h.present = true then s1.setEngine b (s1.engine b).dropTorqueRun else s1

/-- Both booms brought in step with their conditions. -/
def State.sync (s : State) : State := (s.syncBoom .A).syncBoom .B

/-- The offers of the status changes from `before` to the present state: PERMIT and LANE of each boom, LOADER and
MAGAZINE_LOW (R49, R79, R131). VOID is offered where it changes (R105). -/
def State.offersSince (s before : State) : State :=
  let s := s.offerChange (.permit .A) (before.feedLine .A) (s.feedLine .A)
  let s := s.offerChange (.permit .B) (before.feedLine .B) (s.feedLine .B)
  let s := s.offerChange (.lane .A) (before.laneInStep .A) (s.laneInStep .A)
  let s := s.offerChange (.lane .B) (before.laneInStep .B) (s.laneInStep .B)
  let s := s.offerChange .loader before.loaderStatus s.loaderStatus
  s.offerChange .magazineLow before.magazineLow s.magazineLow

/-- An action whole: its own effects, then the booms brought in step, then the offers of what changed. -/
def State.acting (s : State) (f : State → State) : State := ((f s).sync).offersSince s

end Sys2Proof.Machine
end

