-- ==== Sys2Proof/Machine/Operands.lean ====
section
/-! DEFINITION. Operand forms: what an argument byte or number stands for, by the codes of 13_layouts.md, section 13.5,
and the target forms of R178; the clamps of R9, R73, R155 and R159; and the codes that replies carry. -/

namespace Sys2Proof.Machine

/-! ### Codes of arguments (R178, section 13.5) -/

/-- A boom or lane argument: A 0, B 1. -/
def boomOf (x : Byte) : Option Boom :=
  if x = 0x00 then some .A else if x = 0x01 then some .B else none

/-- A reach argument: A 0, B 1, EITHER 2. -/
def reachOf (x : Byte) : Option Reach :=
  if x = 0x00 then some .a else if x = 0x01 then some .b else if x = 0x02 then some .either else none

/-- A claimant key: A 0, B 1, NONE 2. The outer option is the list of values, the inner one the claimant. -/
def claimantKeyOf (x : Byte) : Option (Option Boom) :=
  if x = 0x00 then some (some .A) else if x = 0x01 then some (some .B) else if x = 0x02 then some none else none

/-- A hole state key, 0 to 8. -/
def holeStateOf (x : Byte) : Option HoleState :=
  [HoleState.planned, .claimed, .drilling, .drilled, .resined, .bolted, .accepted, .rejected, .tested][x.toNat]?

/-- An origin key: PLAN 0, SUPPLEMENT 1. -/
def originOf (x : Byte) : Option Origin :=
  if x = 0x00 then some .plan else if x = 0x01 then some .supplement else none

/-- A scope argument: LIVE 0, SKIP 1, HELD 2, EMPTY 3. -/
def scopeOf (x : Byte) : Option Scope :=
  [Scope.live, .skip, .held, .empty][x.toNat]?

/-- A validity argument of SET VALIDITY: LIVE 1, SKIP 2, HELD 3. EMPTY and any other value are refused (R19). -/
def validityOf (x : Byte) : Option Validity :=
  if x = 0x01 then some .live else if x = 0x02 then some .skip else if x = 0x03 then some .held else none

/-- A protection mode argument: OPEN 0, GUARDED 1, SHIFT 2. -/
def protectionOf (x : Byte) : Option Protection :=
  if x = 0x00 then some .opened else if x = 0x01 then some .guarded else if x = 0x02 then some .shift else none

/-- An edge mode argument: RISE 0, ANY 1. -/
def edgeModeOf (x : Byte) : Option EdgeMode :=
  if x = 0x00 then some .rise else if x = 0x01 then some .any else none

/-- A report mode argument: AUTO 0, MANUAL 1. -/
def reportModeOf (x : Byte) : Option ReportMode :=
  if x = 0x00 then some .auto else if x = 0x01 then some .manual else none

/-- A set number argument: 0 or 1. -/
def setNoOf (x : Byte) : Option SetNo :=
  if x = 0x00 then some .set0 else if x = 0x01 then some .set1 else none

/-- A void mode value: 00h 00h for ONE, 00h 01h for TWO (R159, R179). -/
def voidModeOf (x : Word16) : Option VoidMode :=
  if x = 0x0000 then some .one else if x = 0x0001 then some .two else none

/-- The slot that a slot argument names; a number above 47 names none (R1). -/
def slotOf (x : Byte) : Option Slot :=
  if h : x.toNat < 48 then some ⟨x.toNat, h⟩ else none

/-- A target argument (R178). -/
inductive Target where
  | slot (i : Slot)
  | best
  | matchSet
  | nothing
deriving DecidableEq, Repr

/-- What a target byte names: a slot, FFh the best match, FEh the match set, and any other value no slot (R178). -/
def targetOf (x : Byte) : Target :=
  if x = 0xFF then .best
  else if x = 0xFE then .matchSet
  else match slotOf x with
    | some i => .slot i
    | none => .nothing

/-! ### Clamps -/

/-- A number brought into a range: below it the bottom, above it the top (R159). -/
def clampTo (lo hi x : Nat) : Nat := if x < lo then lo else if hi < x then hi else x

/-- The collar allowance is brought into 0 to 200, then rounded down to a multiple of 10 (R159). -/
def clampAllowance (x : Nat) : Nat := clampTo 0 200 x / 10 * 10

/-- The clamped figures of a parameter set, with its void mode (R158, R159). -/
def clampValues (v : ParamValues) (m : VoidMode) : ParamSet where
  productShift := clampTo 0 7 v.productShift.toNat
  tVoid := v.tVoid.toNat
  tMedium := v.tMedium.toNat
  tHard := v.tHard.toNat
  voidMode := m
  voidLimit := clampTo 0 500 v.voidLimit.toNat
  zone := clampTo 300 1200 v.zone.toNat
  competent := clampTo 0 1200 v.competent.toNat
  maxExtensions := clampTo 0 2 v.maxExtensions.toNat
  collarAllowance := clampAllowance v.collarAllowance.toNat
  freeLength := clampTo 0 600 v.freeLength.toNat
  cartridgeColumn := clampTo 200 1200 v.cartridgeColumn.toNat
  maxCartridges := clampTo 1 6 v.maxCartridges.toNat
  spinRevs := clampTo 5 60 v.spinRevs.toNat
  spinMax := clampTo 2000 30000 v.spinMax.toNat
  setTime := clampTo 0 60000 v.setTime.toNat
  seatTorque := clampTo 20 400 v.seatTorque.toNat
  targetTorque := clampTo 50 600 v.targetTorque.toNat
  maxTorque := clampTo 60 800 v.maxTorque.toNat
  maxTurn := clampTo 900 14400 v.maxTurn.toNat
  torqueStage := clampTo 2000 60000 v.torqueStage.toNat
  incompleteLimit := clampTo 0 255 v.incompleteLimit.toNat
  laneAbandon := clampTo 500 30000 v.laneAbandon.toNat

/-- The figures of a parameter set as they were sent. -/
def rawValues (v : ParamValues) (m : VoidMode) : ParamSet where
  productShift := v.productShift.toNat
  tVoid := v.tVoid.toNat
  tMedium := v.tMedium.toNat
  tHard := v.tHard.toNat
  voidMode := m
  voidLimit := v.voidLimit.toNat
  zone := v.zone.toNat
  competent := v.competent.toNat
  maxExtensions := v.maxExtensions.toNat
  collarAllowance := v.collarAllowance.toNat
  freeLength := v.freeLength.toNat
  cartridgeColumn := v.cartridgeColumn.toNat
  maxCartridges := v.maxCartridges.toNat
  spinRevs := v.spinRevs.toNat
  spinMax := v.spinMax.toNat
  setTime := v.setTime.toNat
  seatTorque := v.seatTorque.toNat
  targetTorque := v.targetTorque.toNat
  maxTorque := v.maxTorque.toNat
  maxTurn := v.maxTurn.toNat
  torqueStage := v.torqueStage.toNat
  incompleteLimit := v.incompleteLimit.toNat
  laneAbandon := v.laneAbandon.toNat

/-- A write of these values needs a clamp (R159). -/
def valuesClamped (v : ParamValues) (m : VoidMode) : Bool := clampValues v m != rawValues v m

/-- The orderings that a stored set keeps (R158, R160 step 5). -/
def ParamSet.ordered (x : ParamSet) : Bool :=
  decide (x.tVoid < x.tMedium) && decide (x.tMedium < x.tHard) && decide (x.seatTorque < x.targetTorque) &&
    decide (x.targetTorque < x.maxTorque) && decide (x.competent ≤ x.zone)

/-! ### Codes of replies (section 13.5) -/

/-- Result codes. -/
def Code.byte : Code → Byte
  | .done => 0x00
  | .clamped => 0x01
  | .noMatch => 0x02
  | .ended => 0x03
  | .denied => 0x04
  | .state => 0x05
  | .isProtected => 0x06
  | .full => 0x07
  | .tooClose => 0x08
  | .inUse => 0x09
  | .busy => 0x0A
  | .noRow => 0x0B
  | .unknown => 0x0C
  | .torn => 0x0D

/-- Boom and lane codes. -/
def boomCode : Boom → Byte
  | .A => 0x00
  | .B => 0x01

/-- Validity codes of a record; EMPTY 0 is no entry's. -/
def Validity.byte : Validity → Byte
  | .live => 0x01
  | .skip => 0x02
  | .held => 0x03

/-- Hole state codes. -/
def HoleState.byte : HoleState → Byte
  | .planned => 0x00
  | .claimed => 0x01
  | .drilling => 0x02
  | .drilled => 0x03
  | .resined => 0x04
  | .bolted => 0x05
  | .accepted => 0x06
  | .rejected => 0x07
  | .tested => 0x08

/-- Reach codes. -/
def Reach.byte : Reach → Byte
  | .a => 0x00
  | .b => 0x01
  | .either => 0x02

/-- Origin codes. -/
def Origin.byte : Origin → Byte
  | .plan => 0x00
  | .supplement => 0x01

/-- Verdict reason codes. -/
def VerdictReason.byte : VerdictReason → Byte
  | .good => 0x00
  | .weakAnchor => 0x01
  | .dry => 0x02
  | .void => 0x03
  | .unbondable => 0x04
  | .spinShort => 0x05
  | .setDisturbed => 0x06
  | .noSeat => 0x07
  | .torqueLow => 0x08
  | .overtorque => 0x09
  | .anchorSlip => 0x0A
  | .anchorSpin => 0x0B
  | .jam => 0x0C
  | .laneLost => 0x0D
  | .aborted => 0x0E
  | .restart => 0x0F

/-- Layer class codes. -/
def LayerClass.byte : LayerClass → Byte
  | .void => 0x00
  | .soft => 0x01
  | .medium => 0x02
  | .hard => 0x03

/-- Scope codes. -/
def Scope.byte : Scope → Byte
  | .live => 0x00
  | .skip => 0x01
  | .held => 0x02
  | .empty => 0x03

/-- Cycle state codes. -/
def CycleState.byte : CycleState → Byte
  | .idle => 0x00
  | .claimed => 0x01
  | .drilling => 0x02
  | .withdrawing => 0x03
  | .awaitResin => 0x04
  | .loading => 0x05
  | .awaitBolt => 0x06
  | .spinning => 0x07
  | .setting => 0x08
  | .torquing => 0x09
  | .suspended => 0x0A
  | .halted => 0x0B

/-- The cycle state that a stored state names. -/
def StoredState.cycle : StoredState → CycleState
  | .drilling => .drilling
  | .torquing => .torquing

/-- Grant stage codes. -/
def FlowStage.byte : FlowStage → Byte
  | .drilling => 0x00
  | .spinning => 0x01
  | .torquing => 0x02

/-- Lane health codes. -/
def LaneHealth.byte : LaneHealth → Byte
  | .silent => 0x00
  | .inStep => 0x01
  | .outOfStep => 0x02
  | .lost => 0x03

/-- Report mode codes. -/
def ReportMode.byte : ReportMode → Byte
  | .auto => 0x00
  | .manual => 0x01

/-- Loader state codes. -/
def LoaderState.byte : LoaderState → Byte
  | .idle => 0x00
  | .diverting => 0x01
  | .firing => 0x02
  | .gap => 0x03
  | .waitMagazine => 0x04
  | .jammed => 0x05

/-- Row state codes. -/
def RowState.byte : RowState → Byte
  | .opened => 0x00
  | .closed => 0x01
  | .frozen => 0x02

/-- Protection mode codes. -/
def Protection.byte : Protection → Byte
  | .opened => 0x00
  | .guarded => 0x01
  | .shift => 0x02

/-- Edge mode codes. -/
def EdgeMode.byte : EdgeMode → Byte
  | .rise => 0x00
  | .any => 0x01

/-- Set numbers as bytes. -/
def SetNo.byte : SetNo → Byte
  | .set0 => 0x00
  | .set1 => 0x01

/-- Void mode as a two-byte value (R179). -/
def VoidMode.word : VoidMode → Word16
  | .one => 0x0000
  | .two => 0x0001

end Sys2Proof.Machine
end

