-- ==== Sys2Proof/Machine/Table.lean ====
section
/-! DEFINITION. The Hole Table's own operations: slots, rows, the closing check, supplements and the backlog, and the
updates that move an entry (chapter 1), with what a written or emptied slot does to the ports (R29, R33, R34). -/

namespace Sys2Proof.Machine

/-! ### Slots and rows -/

/-- The next free slot: the lowest-numbered EMPTY slot (R1). -/
def State.nextFree (s : State) : Option Slot := allSlots.find? fun i => (s.entry i).isNone

/-- The table is full when no slot is EMPTY (R1). -/
def State.tableFull (s : State) : Bool := s.nextFree.isNone

/-- The number of EMPTY slots (R175). -/
def State.emptyCount (s : State) : Nat := (allSlots.filter fun i => (s.entry i).isNone).length

/-- The record of a row, where the Row Table holds one (R7). -/
def State.row (s : State) (id : Byte) : Option RowRecord := s.rows.find? fun r => r.id == id

/-- The row's record changed by `f`. -/
def State.modRow (s : State) (id : Byte) (f : RowRecord → RowRecord) : State :=
  s.setRows (s.rows.map fun r => if r.id = id then f r else r)

/-- The row is present and in this state. -/
def State.rowIs (s : State) (id : Byte) (x : RowState) : Bool :=
  match s.row id with
  | some r => r.state == x
  | none => false

/-- The slots of the row's entries, in ascending order. -/
def State.slotsOfRow (s : State) (id : Byte) : List Slot :=
  allSlots.filter fun i => match s.entry i with
    | some e => e.row == id
    | none => false

/-- An entry is settled: final, or PLANNED with validity SKIP or HELD (R11). -/
def Entry.settled (e : Entry) : Bool :=
  match e.holeState with
  | .accepted | .rejected | .tested => true
  | .planned => e.validity == .skip || e.validity == .held
  | _ => false

/-- Every entry of the row is settled (R11). -/
def State.rowSettled (s : State) (id : Byte) : Bool :=
  (s.slotsOfRow id).all fun i => match s.entry i with
    | some e => e.settled
    | none => true

/-- The backlog holds a parent of the row (R11). -/
def State.backlogHas (s : State) (id : Byte) : Bool :=
  s.backlog.any fun i => match s.entry i with
    | some e => e.row == id
    | none => false

/-- The closing check of a row: an OPEN row whose plan has ended, with every entry settled and no parent in the
backlog, becomes CLOSED, and a ROW notice is posted (R11). -/
def State.closingCheck (s : State) (id : Byte) : State :=
  match s.row id with
  | some r =>
    if r.state = .opened ∧ r.planEnded = true ∧ s.rowSettled id = true ∧ s.backlogHas id = false then
      (s.modRow id fun r => { r with state := .closed }).post .row
    else s
  | none => s

/-! ### What a written or emptied slot does to the ports -/

/-- The slot leaves the match set, and the best match becomes NONE if it was that slot (R29). -/
def MatchContext.drop (c : MatchContext) (i : Slot) : MatchContext :=
  { c with members := c.members.filter fun j => j != i, best := if c.best = some i then none else c.best }

/-- A slot that is written leaves the match sets of scope EMPTY (R29). -/
def PortState.slotWritten (i : Slot) (q : PortState) : PortState :=
  if q.context.scope = .empty then { q with context := q.context.drop i } else q

/-- A read whose slot becomes EMPTY before chip select rises makes the cursor NONE (R34). -/
def Frame.slotEmptied (i : Slot) : Frame → Frame
  | .reply st k bytes (.cursor (some (j, n)) drain) =>
    if j = i then .reply st k bytes (.cursor none none) else .reply st k bytes (.cursor (some (j, n)) drain)
  | f => f

/-- A slot that becomes EMPTY leaves the match sets of scope LIVE, SKIP and HELD, and a read cursor at it becomes
NONE (R29, R33, R34). -/
def PortState.slotEmptied (i : Slot) (q : PortState) : PortState :=
  { q with
    context := if q.context.scope = .empty then q.context else q.context.drop i
    cursor := match q.cursor with
      | some (j, n) => if j = i then none else some (j, n)
      | none => none
    frame := q.frame.slotEmptied i }

/-! ### Writing and emptying slots -/

/-- A new entry written in slot `i`: the row's entry count rises, the match sets of scope EMPTY drop the slot, and a
TABLE notice is posted when no EMPTY slot is left (R1, R7, R29). -/
def State.writeSlot (s : State) (i : Slot) (e : Entry) : State :=
  let t := ((s.setEntry i (some e)).modRow e.row fun r => { r with entries := r.entries + 1 }).mapPorts
    (PortState.slotWritten i)
  if t.tableFull then t.post .table else t

/-- The row counts without an entry that leaves its slot (R7). -/
def RowRecord.without (r : RowRecord) (e : Entry) : RowRecord :=
  { r with
    entries := r.entries - 1
    accepted := if e.holeState = .accepted then r.accepted - 1 else r.accepted
    rejected := if e.holeState = .rejected then r.rejected - 1 else r.rejected }

/-- The slot becomes EMPTY: the entry goes with its parts and marks, the row's counts fall, and the slot drops out of
the match contexts and read cursors (R1, R7, R29, R33). -/
def State.emptySlot (s : State) (i : Slot) : State :=
  match s.entry i with
  | some e => ((s.setEntry i none).modRow e.row fun r => r.without e).mapPorts (PortState.slotEmptied i)
  | none => s

/-! ### Supplements and the backlog -/

/-- The largest offset of a hole, mm (R2). -/
def maxOffset : Nat := 7000

/-- The offset of a supplement: the parent's plus the supplement shift, or minus it where that is above 7000, but not
below 0 (R20). -/
def supplementOffset (offset shift : Nat) : Nat :=
  if offset + shift ≤ maxOffset then offset + shift else offset - shift

/-- The supplement of a parent (R20 step 4). -/
def Entry.supplement (parent : Entry) (i : Slot) (shift : Nat) : Entry where
  validity := .live
  row := parent.row
  position := parent.position
  reach := parent.reach
  offset := supplementOffset parent.offset shift
  lengthClass := parent.lengthClass
  priority := 0
  origin := .supplement
  parent := some i
  generation := parent.generation + 1
  holeState := .planned
  claimant := none
  drained := false
  result := none

/-- The supplement of the parent in slot `i` written in the next free slot (R20 step 4). -/
def State.writeSupplement (s : State) (i : Slot) : State :=
  match s.nextFree, s.entry i with
  | some j, some e => s.writeSlot j (e.supplement i s.params.settings.shift)
  | _, _ => s

/-- A result-part mark of an entry set. -/
def Entry.markResult (e : Entry) (f : Result → Result) : Entry := { e with result := e.result.map f }

/-- The SUPPLEMENT_LOST mark set (R20, R22). -/
def Entry.markLost (e : Entry) : Entry := e.markResult fun r => { r with supplementLost := true }

/-- The REFER mark set (R20). -/
def Entry.markRefer (e : Entry) : Entry := e.markResult fun r => { r with refer := true }

/-- The most entries that the backlog holds (R21). -/
def backlogSize : Nat := 8

/-- The supplement handling of a verdict: REFER at generation 2; with a full table the backlog, or SUPPLEMENT_LOST
when the backlog is full too; else the supplement is written (R20). -/
def State.handleSupplement (s : State) (i : Slot) : State :=
  match s.entry i with
  | some e =>
    if 2 ≤ e.generation then (s.modEntry i Entry.markRefer).post .table
    else if s.tableFull then
      if s.backlog.length < backlogSize then (s.setBacklog (s.backlog ++ [i])).post .table
      else (s.modEntry i Entry.markLost).post .table
    else s.writeSupplement i
  | none => s

/-- The draining of the backlog, for at most `n` parents: while the backlog is not empty and the table is not full,
the oldest parent is taken off and its supplement written, with the closing check of its row (R21). -/
def State.drain : Nat → State → State
  | 0, s => s
  | n + 1, s =>
    match s.backlog with
    | [] => s
    | i :: rest =>
      if s.tableFull then s
      else
        match s.entry i with
        | some e => State.drain n (((s.setBacklog rest).writeSupplement i).closingCheck e.row)
        | none => State.drain n (s.setBacklog rest)

/-- The whole draining of the backlog (R21). -/
def State.drainBacklog (s : State) : State := s.drain s.backlog.length

/-! ### Verdicts and returns -/

/-- A supplement is due for WEAK_ANCHOR and for every REJECTED reason, not for GOOD or DRY (R5). -/
def VerdictReason.supplementDue : VerdictReason → Bool
  | .good | .dry => false
  | _ => true

/-- The final state that a verdict reason goes with (R5). -/
def VerdictReason.final : VerdictReason → HoleState
  | .good | .weakAnchor => .accepted
  | .dry => .tested
  | _ => .rejected

/-- The row counts with a verdict's entry counted (R5, R7). -/
def RowRecord.withVerdict (r : RowRecord) (x : HoleState) : RowRecord :=
  { r with
    accepted := if x = .accepted then r.accepted + 1 else r.accepted
    rejected := if x = .rejected then r.rejected + 1 else r.rejected }

/-- The entry with its verdict: final state and reason written, claimant removed (R5 steps 1 and 2). -/
def Entry.withVerdict (e : Entry) (v : VerdictReason) : Entry :=
  { e with
    holeState := v.final
    claimant := none
    result := e.result.map fun r => { r with verdict := some v } }

/-- What the table does at a verdict, in the order of R5: the final state and reason, the claimant, the row's count,
the supplement, and the closing check of the row. -/
def State.tableVerdict (s : State) (i : Slot) (v : VerdictReason) : State :=
  match s.entry i with
  | some e =>
    let t := (s.setEntry i (some (e.withVerdict v))).modRow e.row fun r => r.withVerdict v.final
    (if v.supplementDue then t.handleSupplement i else t).closingCheck e.row
  | none => s

/-- The entry back in PLANNED, without claimant and result part (R4). -/
def Entry.returned (e : Entry) : Entry := { e with holeState := .planned, claimant := none, result := none }

/-- A claimed entry returned to PLANNED, with the closing check of its row (R4, R11, R42, R64). -/
def State.returnEntry (s : State) (i : Slot) : State :=
  match s.entry i with
  | some e => (s.setEntry i (some e.returned)).closingCheck e.row
  | none => s

end Sys2Proof.Machine
end

