-- ==== Sys2Proof/Machine/Flow.lean ====
section
/-! DEFINITION. The Flow Arbiter (chapter 9): capacity, requests, cuts, releases, the service pass and the derate. -/

namespace Sys2Proof.Machine

/-! ### Amounts -/

/-- The amount of a grant, 0 when absent (R175). -/
def flowAmount : Option FlowGrant → Nat
  | some g => g.amount
  | none => 0

/-- The amount of a SPINNING or TORQUING grant, else 0 (R149). -/
def fixedAmount : Option FlowGrant → Nat
  | some g => if g.stage = .drilling then 0 else g.amount
  | none => 0

/-- The minimum of a DRILLING grant, else 0 (R155). -/
def drillingMinimum : Option FlowGrant → Nat
  | some g => if g.stage = .drilling then g.minimum else 0
  | none => 0

/-- The sum of the amounts of the SPINNING and TORQUING grants (R149). -/
def Arbiter.fixedSum (a : Arbiter) : Nat := fixedAmount a.grants.a + fixedAmount a.grants.b

/-- The sum of the amounts of both grants (R149). -/
def Arbiter.total (a : Arbiter) : Nat := flowAmount a.grants.a + flowAmount a.grants.b

/-- The effective capacity: the larger of the derate target and the sum of the SPINNING and TORQUING grants
(R149). -/
def Arbiter.capacity (a : Arbiter) : Nat := max a.derate a.fixedSum

/-- The available flow: the effective capacity less both grants (R149). -/
def Arbiter.available (a : Arbiter) : Nat := a.capacity - a.total

/-- The floor of a DERATE (R155). -/
def Arbiter.floor (a : Arbiter) : Nat :=
  a.fixedSum + drillingMinimum a.grants.a + drillingMinimum a.grants.b

/-! ### Requests -/

/-- The request of a stage, with the demand and minimum of R46 and R150. -/
def FlowRequest.ofStage (b : Boom) : FlowStage → FlowRequest
  | .drilling => ⟨b, .drilling, 60, 30⟩
  | .spinning => ⟨b, .spinning, 50, 50⟩
  | .torquing => ⟨b, .torquing, 40, 40⟩

/-- Only a DRILLING request can be degraded (R150). -/
def FlowRequest.degradable (r : FlowRequest) : Bool := r.stage == .drilling

/-- The grant that a request becomes, with an amount (R151). -/
def FlowRequest.granted (r : FlowRequest) (amount : Nat) : FlowGrant :=
  ⟨r.stage, r.demand, r.minimum, amount, decide (amount < r.demand)⟩

/-- The arbiter with the request granted: a DRILLING grant joins the end of the drilling order (R151). -/
def Arbiter.give (a : Arbiter) (r : FlowRequest) (amount : Nat) : Arbiter :=
  { a with
    grants := a.grants.set r.boom (some (r.granted amount))
    order := if r.stage = .drilling then a.order ++ [r.boom] else a.order }

/-- A DRILLING grant cut by `x`, with its degraded mark (R152, R154). -/
def FlowGrant.cut (g : FlowGrant) (x : Nat) : FlowGrant :=
  { g with amount := g.amount - x, degraded := true }

/-- The request granted in the state, with its FLOW notice (R151). -/
def State.giveFlow (s : State) (r : FlowRequest) (amount : Nat) : State :=
  (s.setArbiter (s.arbiter.give r amount)).post (.flow r.boom)

/-- The other boom's DRILLING grant that can give up the shortfall of a SPINNING or TORQUING request (R152). -/
def Arbiter.cuttable (a : Arbiter) (r : FlowRequest) : Option FlowGrant :=
  match a.grants.get r.boom.other with
  | some g =>
    if r.stage ≠ .drilling ∧ g.stage = .drilling ∧ r.demand - a.available ≤ g.amount - g.minimum then some g else none
  | none => none

/-- Steps 2 to 4 of R151: the state in which the request is granted, or `none` where it cannot be. -/
def State.judgeRequest (s : State) (r : FlowRequest) : Option State :=
  let a := s.arbiter
  if r.demand ≤ a.available then some (s.giveFlow r r.demand)
  else if r.degradable ∧ r.minimum ≤ a.available then some (s.giveFlow r a.available)
  else
    match a.cuttable r with
    | some g =>
      let cutA := { a with grants := a.grants.set r.boom.other (some (g.cut (r.demand - a.available))) }
      some (((s.setArbiter cutA).post (.flow r.boom.other)).giveFlow r r.demand)
    | none => none

/-- A flow request judged: queued behind a queue that is not empty, else granted, else queued (R151). -/
def State.requestFlow (s : State) (r : FlowRequest) : State :=
  let queued := s.setArbiter { s.arbiter with queue := s.arbiter.queue ++ [r] }
  match s.arbiter.queue with
  | [] =>
    match s.judgeRequest r with
    | some t => t
    | none => queued
  | _ :: _ => queued

/-! ### The service pass -/

/-- Step 1 of the pass, for at most `n` requests: the head of the queue is granted while it can be (R154). -/
def State.serveFlowQueue : Nat → State → State
  | 0, s => s
  | n + 1, s =>
    match s.arbiter.queue with
    | [] => s
    | r :: rest =>
      match s.judgeRequest r with
      | some t => State.serveFlowQueue n (t.setArbiter { t.arbiter with queue := rest })
      | none => s

/-- A degraded DRILLING grant raised toward its demand out of the available flow (R154 step 2). -/
def State.topUp (s : State) (b : Boom) : State :=
  match s.arbiter.grants.get b with
  | some g =>
    let x := min (g.demand - g.amount) s.arbiter.available
    if g.degraded = true ∧ 0 < x then
      (s.setArbiter { s.arbiter with
        grants := s.arbiter.grants.set b
          (some { g with amount := g.amount + x, degraded := decide (g.amount + x < g.demand) }) }).post (.flow b)
    else s
  | none => s

/-- A DRILLING grant cut toward its minimum by the excess over the effective capacity (R154 step 3). -/
def State.cutDown (s : State) (b : Boom) : State :=
  match s.arbiter.grants.get b with
  | some g =>
    let x := min (s.arbiter.total - s.arbiter.capacity) (g.amount - g.minimum)
    if 0 < x then
      (s.setArbiter { s.arbiter with grants := s.arbiter.grants.set b (some (g.cut x)) }).post (.flow b)
    else s
  | none => s

/-- The service pass: the queue, then the top-ups oldest first, then the cuts youngest first (R154). -/
def State.servicePass (s : State) : State :=
  let s1 := s.serveFlowQueue s.arbiter.queue.length
  let s2 := s1.arbiter.order.foldl State.topUp s1
  s2.arbiter.order.reverse.foldl State.cutDown s2

/-- The boom releases its flow: its grant, with a FLOW notice, or its place in the queue, and then the service pass;
with neither, nothing (R153). -/
def State.releaseFlow (s : State) (b : Boom) : State :=
  match s.arbiter.grants.get b with
  | some _ =>
    ((s.setArbiter { s.arbiter with
      grants := s.arbiter.grants.set b none
      order := s.arbiter.order.filter fun x => x != b }).post (.flow b)).servicePass
  | none =>
    if s.arbiter.queue.any fun r => r.boom == b then
      (s.setArbiter { s.arbiter with queue := s.arbiter.queue.filter fun r => r.boom != b }).servicePass
    else s

end Sys2Proof.Machine
end

