-- ==== Sys2Proof/Machine/Boom.lean ====
section
/-! DEFINITION. The shared moves of a Boom Cycle Unit and of the Resin Loader Unit: changes of cycle state, verdicts
(R60), the loader's grants, queue and cancellation (R121, R122, R130), stage entries, and the end of drilling. -/

namespace Sys2Proof.Machine

/-! ### Cycle state -/

/-- The boom's unit changed by `f`. -/
def State.modUnit (s : State) (b : Boom) (f : BoomUnit → BoomUnit) : State := s.setUnit b (f (s.unit b))

/-- A change of cycle state, which posts STAGE. A return to IDLE, and HALTED, drop the work slot (R43, R44, R60). -/
def State.setCycle (s : State) (b : Boom) (c : CycleState) : State :=
  (s.modUnit b fun u =>
    { u with
      cycle := c
      workSlot := if c = .idle ∨ c = .halted then none else u.workSlot }).post (.stage b)

/-! ### The loader's grants and queue -/

/-- The number of cartridges planned for the hole the boom has claimed (R118, R121). -/
def State.plannedFor (s : State) (b : Boom) : Nat :=
  match s.claimedEntry b with
  | some (_, e) =>
    match e.result with
    | some r => r.cartPlanned.getD 0
    | none => 0
  | none => 0

/-- A loader grant made to the boom: the grant record, LOADING with its STAGE notice, and DIVERTING with the diverter
driven toward the boom and the settle time started (R122). -/
def State.grantLoader (s : State) (b : Boom) : State :=
  (s.setLoader { s.loader with
    state := .diverting
    grant := some ⟨b, s.plannedFor b, 0, 0, false⟩
    divert := b
    stageTimer := some 0 }).setCycle b .loading

/-- The loader serves its queue: the oldest place is taken off and granted; with no place the loader is IDLE
(R122). -/
def State.serveLoader (s : State) : State :=
  match s.loader.queue with
  | [] => s.setLoader { s.loader with state := .idle, stageTimer := none }
  | b :: rest => (s.setLoader { s.loader with queue := rest }).grantLoader b

/-- A request for the loader: granted at once when it is IDLE, else queued (R121). -/
def State.requestLoader (s : State) (b : Boom) : State :=
  if s.loader.state = .idle then s.grantLoader b
  else s.setLoader { s.loader with queue := s.loader.queue ++ [b] }

/-- The end of a grant: it becomes absent and the stage timer stops; DIVERT keeps its level (R122). -/
def State.endGrant (s : State) : State := s.setLoader { s.loader with grant := none, stageTimer := none }

/-- The boom holds the loader grant, and it is not cancelled (R121). -/
def Loader.holderIs (l : Loader) (b : Boom) : Bool :=
  match l.grant with
  | some g => g.boom == b && !g.cancelled
  | none => false

/-- The cancelled flag set (R130). -/
def LoaderGrant.cancel (g : LoaderGrant) : LoaderGrant := { g with cancelled := true }

/-- The boom gives up its loader grant or its queue place, by the loader's own state (R130). -/
def State.cancelLoader (s : State) (b : Boom) : State :=
  let s := s.setLoader { s.loader with queue := s.loader.queue.filter fun x => x != b }
  if s.loader.holderIs b then
    match s.loader.state with
    | .firing | .jammed => s.setLoader { s.loader with grant := s.loader.grant.map LoaderGrant.cancel }
    | _ => s.endGrant.serveLoader
  else s

/-! ### Verdicts -/

/-- A verdict of the boom's hole, whole (R60): the table's update, claim held to no, flow and loader released, the
VERDICT notice, and the move to the next cycle state with its STAGE notice. -/
def State.boomVerdict (s : State) (b : Boom) (v : VerdictReason) (next : CycleState) : State :=
  match s.claimedEntry b with
  | some (i, _) =>
    (((((s.tableVerdict i v).modUnit b fun u => { u with claimHeld := false }).releaseFlow b).cancelLoader
      b).post (.verdict b)).setCycle b next
  | none => s

/-! ### Stages -/

/-- A stage's flow request; a boom in DRY mode makes none (R46, R66). -/
def State.requestStage (s : State) (b : Boom) (x : FlowStage) : State :=
  if (s.unit b).dry then s else s.requestFlow (FlowRequest.ofStage b x)

/-- The boom leaves a stage for another cycle state: the flow is released and STAGE posted (R46). -/
def State.leaveStage (s : State) (b : Boom) (next : CycleState) : State := (s.setCycle b next).releaseFlow b

/-- The set timer's expiry: SETTING to TORQUING with the torquing flow request (R58). -/
def State.enterTorquing (s : State) (b : Boom) : State := (s.setCycle b .torquing).requestStage b .torquing

/-- Spin complete: SPINNING to SETTING, flow released, the set timer from 0; with a set time of 0 the boom passes
through into TORQUING (R57, R58). -/
def State.spinComplete (s : State) (b : Boom) : State :=
  let t := (s.leaveStage b .setting).modUnit b fun u => { u with setTimer := some 0 }
  if (s.active b).setTime = 0 then t.enterTorquing b else t

/-- The drilled depth written: the depth of the last sample the engine took (R3, R53, R88). -/
def State.writeDrilledDepth (s : State) (b : Boom) : State :=
  s.updateResult b fun r => { r with drilledDepth := some (s.engine b).currentDepth }

/-- The open increment and the windows of the run are dropped (R99, R115). R85 has no absent value for the open
increment: the item keeps its last index, with a work of 0 and clear marks, until the next claim or reset clears it
(DESIGN CHOICE, notes/assumptions/29.md). -/
def Engine.dropRun (e : Engine) : Engine :=
  { e with
    accumulator := 0
    openIncomplete := false
    openSaturated := false
    window := []
    heldWindow := none }

/-- Drilling ends with the hole DRILLED and the boom WITHDRAWING, its flow released (R52, R67). -/
def State.endDrilling (s : State) (b : Boom) : State :=
  (((s.writeDrilledDepth b).setEngine b (s.engine b).dropRun).updateClaimed b fun e =>
    { e with holeState := .drilled }).leaveStage b .withdrawing

/-- A condition that rejects a hole while it drills: the drilled depth and the verdict, and WITHDRAWING without the
claim (R53); in a dry run it ends drilling as reaching the target does (R67). -/
def State.rejectDrilling (s : State) (b : Boom) (v : VerdictReason) : State :=
  if (s.unit b).dry then s.endDrilling b
  else ((s.writeDrilledDepth b).setEngine b (s.engine b).dropRun).boomVerdict b v .withdrawing

end Sys2Proof.Machine
end

