-- ==== Sys2Proof/Machine/Energy.lean ====
section
/-! DEFINITION. The energy arithmetic of the Strata Engine (chapter 5): collar, depth, advance, sample work, and the
energy and class of a closing increment. -/

namespace Sys2Proof.Machine

/-- An admitted sample, with the values the Lane Receiver clamped (R73, R75). -/
structure Sample where
  seq : Byte
  position : Nat
  thrust : Nat
  speed : Nat
  torque : Nat
  flush : Bool
deriving DecidableEq, Repr

/-- The depth of one increment, mm (R92). -/
def incrementMm : Nat := 10

/-- The top of the accumulator, 2^24 - 1 (R91). -/
def accumulatorTop : Nat := 16777215

/-- The largest advance for work, mm (R89). -/
def maxAdvance : Nat := 40

/-- The advance for work of a sample: 0 for a backing sample, and at most 40 mm (R89). -/
def advanceForWork (reference position : Nat) : Nat := min maxAdvance (position - reference)

/-- The rotation term of the sample work (R90). -/
def rotationTerm (torque speed : Nat) : Nat := torque * speed * 686 / 65536

/-- The sample work: the thrust term plus the rotation term (R90). -/
def sampleWork (x : Sample) (advance : Nat) : Nat := x.thrust * advance + rotationTerm x.torque x.speed

/-- Work added to the accumulator of the open increment, with the saturated mark (R91). -/
def Engine.credit (e : Engine) (w : Nat) : Engine :=
  if accumulatorTop ≤ e.accumulator + w then { e with accumulator := accumulatorTop, openSaturated := true }
  else { e with accumulator := e.accumulator + w }

/-- The energy of a closing increment (R93). -/
def energyOf (p : ParamSet) (w : Nat) : Nat := min 65535 (w / 2 ^ p.productShift)

/-- The class that an energy has under the thresholds of a set (R94). -/
def classOfEnergy (p : ParamSet) (energy : Nat) : LayerClass :=
  if energy < p.tVoid then .void
  else if energy < p.tMedium then .soft
  else if energy < p.tHard then .medium
  else .hard

/-- The own class of a closing increment: HARD when saturated, the held class (SOFT before any) when incomplete, else
by its energy (R94, R96). -/
def ownClass (p : ParamSet) (held : Option LayerClass) (w : Nat) (incomplete saturated : Bool) : LayerClass :=
  if saturated then .hard
  else if incomplete then held.getD .soft
  else classOfEnergy p (energyOf p w)

/-- A count that saturates at 255 (R97). -/
def countTo255 (n : Nat) : Nat := min 255 (n + 1)

/-- The engine's counts, unreliable mark and held class at the close of an increment (R96, R97). -/
def Engine.countClose (e : Engine) (p : ParamSet) (cls : LayerClass) (incomplete saturated : Bool) : Engine :=
  let inc := if incomplete then countTo255 e.incomplete else e.incomplete
  let sat := if saturated then countTo255 e.saturated else e.saturated
  { e with
    incomplete := inc
    saturated := sat
    unreliable := e.unreliable || (incomplete && decide (p.incompleteLimit < inc))
    heldClass := if incomplete then e.heldClass else some cls }

end Sys2Proof.Machine
end

