-- ==== Sys2Proof/Machine/Profile.lean ====
section
/-! DEFINITION. The strata profile (chapter 6): windows, the layer builder, the void total, the target test, the
flush, the anchorage zone and the extension, over the engine and the record of one hole. -/

namespace Sys2Proof.Machine

/-- The work of one sample on a hole: the engine, the hole's length class and result part, the changes of the VOID
status that it made (true for a rise), and whether the void total has passed the void limit. -/
structure DrillRun where
  engine : Engine
  lengthClass : Nat
  result : Result
  voidChanges : List Bool
  overVoid : Bool
deriving DecidableEq, Repr

/-! ### Windows -/

/-- The number of VOID increments that opens a window of `n` records, for `n` of 2 or more: three quarters, rounded up
(R102). -/
def voidsNeeded (n : Nat) : Nat := (3 * n + 3) / 4

/-- A closed window is open when enough of its increments have the own class VOID; a window of one is never open
(R102). -/
def windowOpen (l : List IncRecord) : Bool :=
  decide (2 ≤ l.length) && decide (voidsNeeded l.length ≤ l.countP fun r => r.cls == .void)

/-- A window closed with its open flag (R102). -/
def closeWindow (l : List IncRecord) : Window := ⟨l, windowOpen l⟩

/-- The effective class of an increment: VOID throughout a void window; else its own class, VOID becoming SOFT
(R105). -/
def effectiveClass (isVoid : Bool) (c : LayerClass) : LayerClass :=
  if isVoid then .void else if c = .void then .soft else c

/-! ### Layers -/

/-- Strength of a class, VOID weakest (R107). -/
def LayerClass.strength : LayerClass → Nat
  | .void => 0
  | .soft => 1
  | .medium => 2
  | .hard => 3

/-- The weaker of two classes (R107). -/
def LayerClass.weaker (x y : LayerClass) : LayerClass := if x.strength ≤ y.strength then x else y

/-- The most layers of a hole (R106). -/
def maxLayers : Nat := 8

/-- One increment laid under the ones before it: it extends the last layer, starts a new one, or with 8 layers present
merges into the last (R106, R107). `depth` is the profiled depth before it. -/
def appendLayer (layers : List Layer) (depth : Nat) (c : LayerClass) : List Layer :=
  match layers.getLast? with
  | none => [⟨0, incrementMm, c, false⟩]
  | some x =>
    if c = x.cls then layers.dropLast ++ [{ x with length := x.length + incrementMm }]
    else if layers.length < maxLayers then layers ++ [⟨depth, incrementMm, c, false⟩]
    else layers.dropLast ++ [{ x with length := x.length + incrementMm, cls := x.cls.weaker c, merged := true }]

/-- One increment appended to the profile of a hole (R106). -/
def Result.layInc (r : Result) (c : LayerClass) : Result :=
  { r with
    layers := appendLayer r.layers r.profiledDepth c
    profiledDepth := r.profiledDepth + incrementMm }

/-- The summed length of the VOID layers (R108). -/
def voidTotalOf (layers : List Layer) : Nat :=
  ((layers.filter fun x => x.cls == .void).map Layer.length).sum

/-- The increments of a released window laid in depth order, and the void total worked out again (R105, R106,
R108). -/
def Result.layWindow (r : Result) (w : Window) (isVoid : Bool) : Result :=
  let t := w.records.foldl (fun acc x => acc.layInc (effectiveClass isVoid x.cls)) r
  { t with voidTotal := voidTotalOf t.layers }

/-! ### Release -/

/-- A window released to the layer builder, void or not: the layers, the void total and its limit, and the void state
with its change of the VOID status (R105, R108). A void total above the limit drops the windows. -/
def DrillRun.release (d : DrillRun) (p : ParamSet) (w : Window) (isVoid : Bool) : DrillRun :=
  let r := d.result.layWindow w isVoid
  let past := decide (p.voidLimit < r.voidTotal)
  { d with
    result := r
    engine := { d.engine with
      voidState := isVoid
      window := if past then [] else d.engine.window
      heldWindow := if past then none else d.engine.heldWindow }
    voidChanges := if d.engine.voidState = isVoid then d.voidChanges else d.voidChanges ++ [isVoid]
    overVoid := past }

/-- The held window released, judged by the window before it and the window after it (R104, R110). -/
def DrillRun.releaseHeld (d : DrillRun) (p : ParamSet) (nextOpen : Bool) : DrillRun :=
  match d.engine.heldWindow with
  | some h =>
    let isVoid := h.isOpen && (d.engine.previousOpen || nextOpen)
    ({ d with engine := { d.engine with heldWindow := none, previousOpen := h.isOpen } }).release p h isVoid
  | none => d

/-- A full window closed: in ONE mode it is released at once; in TWO mode the held window is released and the closed
one is held back (R103, R104). -/
def DrillRun.windowFull (d : DrillRun) (p : ParamSet) (w : Window) : DrillRun :=
  match p.voidMode with
  | .one => d.release p w w.isOpen
  | .two =>
    let t := d.releaseHeld p w.isOpen
    if t.overVoid then t else { t with engine := { t.engine with heldWindow := some w } }

/-- The records of a full window (R101). -/
def windowSize : Nat := 8

/-- An increment record handed to the window stage (R98, R101). -/
def DrillRun.handOn (d : DrillRun) (p : ParamSet) (x : IncRecord) : DrillRun :=
  let l := d.engine.window ++ [x]
  if l.length < windowSize then { d with engine := { d.engine with window := l } }
  else ({ d with engine := { d.engine with window := [] } }).windowFull p (closeWindow l)

/-! ### Closing increments -/

/-- An increment closed with its work and marks: classified and counted, the counts kept in step with the hole's
record, and handed to the window stage (R92 to R98). Once the void total is past its limit the rest are dropped
(R98). -/
def DrillRun.close (d : DrillRun) (p : ParamSet) (k w : Nat) (incomplete saturated : Bool) : DrillRun :=
  if d.overVoid then d
  else
    let c := ownClass p d.engine.heldClass w incomplete saturated
    let e := d.engine.countClose p c incomplete saturated
    ({ d with
      engine := e
      result := { d.result with
        incomplete := e.incomplete
        saturated := e.saturated
        unreliable := e.unreliable } }).handOn p ⟨k, c, incomplete, saturated⟩

/-- `n` passed-over increments from index `k` on, each with a work of 0 and clear marks (R92). -/
def DrillRun.closePassed (d : DrillRun) (p : ParamSet) : Nat → Nat → DrillRun
  | _, 0 => d
  | k, n + 1 => (d.close p k 0 false false).closePassed p (k + 1) n

/-- Increment `j` opened with a work of 0 and clear marks (R92, R99). -/
def Engine.openAt (e : Engine) (j : Nat) : Engine :=
  { e with openIncrement := j, accumulator := 0, openIncomplete := false, openSaturated := false }

/-- The increments below `j` closed: the open one with its work and marks, the rest passed over; then `j` opens
(R92). -/
def DrillRun.closeTo (d : DrillRun) (p : ParamSet) (j : Nat) : DrillRun :=
  let e := d.engine
  if e.openIncrement < j then
    let t := (d.close p e.openIncrement e.accumulator e.openIncomplete e.openSaturated).closePassed p
      (e.openIncrement + 1) (j - e.openIncrement - 1)
    { t with engine := t.engine.openAt j }
  else d

/-! ### The target test -/

/-- The early window closed and the windows flushed at the target, and the end of the run (R110). -/
def DrillRun.flush (d : DrillRun) (p : ParamSet) : DrillRun :=
  let l := d.engine.window
  let w := closeWindow l
  let early := !l.isEmpty
  let d0 := { d with engine := { d.engine with window := [] } }
  let d1 := match p.voidMode with
    | .one => d0
    | .two => d0.releaseHeld p (early && w.isOpen)
  if d1.overVoid then d1
  else
    let d2 :=
      if early then
        match p.voidMode with
        | .one => d1.release p w w.isOpen
        | .two => d1.release p w (w.isOpen && d1.engine.previousOpen)
      else d1
    if d2.overVoid then d2
    else { d2 with engine := { d2.engine with window := [], heldWindow := none, previousOpen := false } }

/-- The length of a layer inside the span from `lo` up to, not including, `hi` (R111). -/
def Layer.within (x : Layer) (lo hi : Nat) : Nat := min (x.start + x.length) hi - max x.start lo

/-- The competent length: the MEDIUM and HARD parts inside the anchorage zone (R111). -/
def competentLength (layers : List Layer) (target zone : Nat) : Nat :=
  ((layers.filter fun x => x.cls == .medium || x.cls == .hard).map fun x =>
    x.within (target - zone) target).sum

/-- What a sample's drilling work comes to (R52, R108, R112). -/
inductive DrillOutcome where
  | goesOn
  | extended
  | reached
  | overVoid
deriving DecidableEq, Repr

/-- The length added by an extension, mm (R113). -/
def extensionMm : Nat := 300

/-- The hole is competent at its target: enough competent length, and not unreliable (R112). -/
def DrillRun.competent (d : DrillRun) (p : ParamSet) : Bool :=
  decide (p.competent ≤ competentLength d.result.layers d.result.target p.zone) && !d.result.unreliable

/-- The extension: target, class and extensions used raised, the window base at the old target, and the increment
there opened (R99, R113). -/
def DrillRun.extend (d : DrillRun) : DrillRun :=
  let k := d.result.target / incrementMm
  { d with
    lengthClass := d.lengthClass + 1
    result := { d.result with target := d.result.target + extensionMm, extensions := d.result.extensions + 1 }
    engine := { d.engine.openAt k with windowBase := k } }

/-- The target test: the flush, and then competent, extension or weak anchor (R110, R112, R113, R114). -/
def DrillRun.targetTest (d : DrillRun) (p : ParamSet) : DrillRun × DrillOutcome :=
  let t := d.flush p
  if t.overVoid then (t, .overVoid)
  else if t.competent p then (t, .reached)
  else if t.result.extensions < p.maxExtensions ∧ t.lengthClass < 4 then (t.extend, .extended)
  else ({ t with engine := { t.engine with weakAnchor := true } }, .reached)

/-! ### A sample in DRILLING -/

/-- The collar sample: it fixes where depth 0 lies, and credits no work (R87). -/
def DrillRun.collarSample (d : DrillRun) (x : Sample) : DrillRun :=
  { d with
    engine := { d.engine with
      collar := some x.position
      reference := some x.position
      currentDepth := 0
      frontDepth := 0 }
    result := { d.result with collar := some x.position } }

/-- A sample that moves the front to `depth`: the closings of R92, stopped at the target, and the target test of a
sample that brings the front to the target or past it (R92, R109; notes/assumptions/10.md for a front already past
the target). -/
def DrillRun.moveFront (d : DrillRun) (p : ParamSet) (depth : Nat) : DrillRun × DrillOutcome :=
  let old := d.engine.frontDepth
  let target := d.result.target
  let d0 := { d with engine := { d.engine with frontDepth := depth } }
  if target ≤ depth then
    let t := d0.closeTo p (target / incrementMm)
    if t.overVoid then (t, .overVoid) else t.targetTest p
  else if old / incrementMm < depth / incrementMm then
    let t := d0.closeTo p (depth / incrementMm)
    (t, if t.overVoid then .overVoid else .goesOn)
  else (d0, .goesOn)

/-- The work of a sample taken in DRILLING, in the order of R86. -/
def DrillRun.sample (d : DrillRun) (p : ParamSet) (x : Sample) : DrillRun × DrillOutcome :=
  match d.engine.collar with
  | none => (d.collarSample x, .goesOn)
  | some c =>
    let depth := x.position - c
    let advance := advanceForWork (d.engine.reference.getD c) x.position
    let e := ({ d.engine with reference := some x.position, currentDepth := depth }).credit (sampleWork x advance)
    let d0 := { d with engine := e }
    if e.frontDepth < depth then d0.moveFront p depth else (d0, .goesOn)

end Sys2Proof.Machine
end

