-- ==== Sys2Proof/Machine/Stages.lean ====
section
/-! DEFINITION. What a taken sample does in each stage: drilling (chapters 5 and 6), spin, set and torque (chapter 8),
with the flush watch of the Boom Cycle Unit (R48). -/

namespace Sys2Proof.Machine

/-! ### Drilling -/

/-- The drilling work of a sample written back: the engine, and the result part and length class of the hole, as one
update of R6 (R97, R106, R113), with the VOID status changes offered in turn (R105). -/
def State.applyRun (s : State) (b : Boom) (d : DrillRun) : State :=
  let t := (s.setEngine b d.engine).updateClaimed b fun e =>
    { e with lengthClass := d.lengthClass, result := some d.result }
  d.voidChanges.foldl (fun acc x => acc.offer (.void b) x) t

/-- What the Boom Cycle Unit does with the engine's report (R52, R53, R113). -/
def State.afterRun (s : State) (b : Boom) : DrillOutcome → State
  | .goesOn => s
  | .extended => s.post (.extend b)
  | .reached => s.endDrilling b
  | .overVoid => s.rejectDrilling b .void

/-- A sample taken in DRILLING (R86). -/
def State.drillSample (s : State) (b : Boom) (x : Sample) : State :=
  match s.claimedEntry b with
  | some (_, e) =>
    match e.result with
    | some r =>
      let d := ({ engine := s.engine b, lengthClass := e.lengthClass, result := r, voidChanges := [],
                  overVoid := false } : DrillRun).sample (s.active b) x
      (s.applyRun b d.1).afterRun b d.2
    | none => s
  | none => s

/-- The top of the flush count (R48). -/
def flushTop : Nat := 10

/-- The flush count after a sample (R48). -/
def nextFlush (n : Nat) (flush : Bool) : Nat := if flush then 0 else min flushTop (n + 1)

/-- The flush watch of a sample that finds the boom DRILLING (R48, R75). -/
def State.watchFlush (s : State) (b : Boom) (x : Sample) : State :=
  if (s.unit b).cycle = .drilling then
    s.modUnit b fun u => { u with flushCount := nextFlush u.flushCount x.flush }
  else s

/-! ### Spin and set -/

/-- The top of the revolution sum and of the turn sum, 2^20 - 1 (R134, R139). -/
def sumTop : Nat := 1048575

/-- One revolution in units of the revolution sum (R134). -/
def revolution : Nat := 6000

/-- A sample taken in SPINNING: the revolution sum, the spin revolutions field and the completion test (R134,
R135). -/
def State.spinSample (s : State) (b : Boom) (x : Sample) : State :=
  let n := min sumTop ((s.engine b).revolutionSum + x.speed)
  let t := (s.setEngine b { s.engine b with revolutionSum := n }).updateResult b fun r =>
    { r with spinRevs := some (n / revolution) }
  if (s.active b).spinRevs * revolution ≤ n then t.spinComplete b else t

/-- The largest speed that does not disturb the set, rpm (R136). -/
def setSpeedLimit : Nat := 20

/-- A sample judged in SETTING (R136). -/
def State.setSample (s : State) (b : Boom) (x : Sample) : State :=
  if setSpeedLimit < x.speed then s.boomVerdict b .setDisturbed .idle else s

/-! ### Torque -/

/-- The turn after seat, in 0.1 degree (R139). -/
def turnAngle (sum : Nat) : Nat := sum * 3 / 5

/-- The peak with a sample's torque in it (R138 step 1). -/
def raisePeak (peak : Option Nat) (t : Nat) : Nat := max t (peak.getD 0)

/-- The slip run that ends the hole (R142). -/
def slipRunLength : Nat := 3

/-- The slip test's engaged flag and slip run for a sample (R142). The run does not count past its end (R133). -/
def Engine.slip (e : Engine) (p : ParamSet) (t peak : Nat) : Engine :=
  if e.engaged then
    if t * 4 < peak * 3 then { e with slipRun := min slipRunLength (e.slipRun + 1) } else { e with slipRun := 0 }
  else if p.seatTorque ≤ t then { e with engaged := true, slipRun := 0 }
  else e

/-- The seat run that seats the bolt (R138). -/
def seatRunLength : Nat := 3

/-- The seat test (R138 step 6). -/
def Engine.seatTest (e : Engine) (p : ParamSet) (t : Nat) : Engine :=
  let n := if p.seatTorque ≤ t then e.seatRun + 1 else 0
  if seatRunLength ≤ n then { e with seatRun := n, seated := true, engaged := true }
  else { e with seatRun := n }

/-- The reason of a target ending (R140). -/
def targetReason (p : ParamSet) (weakAnchor : Bool) (t : Nat) : VerdictReason :=
  if p.maxTorque < t then .overtorque else if weakAnchor then .weakAnchor else .good

/-- A judged sample in TORQUING, by the steps of R138 in their order. -/
def State.torqueSample (s : State) (b : Boom) (x : Sample) : State :=
  let p := s.active b
  let e := s.engine b
  let peak := raisePeak e.peak x.torque
  let turn := if e.seated then min sumTop (e.turnSum + x.speed) else e.turnSum
  let e1 := { e with peak := some peak, turnSum := turn }
  let s1 := (s.setEngine b e1).updateResult b fun r =>
    { r with
      peakTorque := some peak
      turnAfterSeat := if e.seated then some (turnAngle turn) else r.turnAfterSeat }
  if p.targetTorque ≤ x.torque then
    (s1.updateResult b fun r => { r with finalTorque := some x.torque }).boomVerdict b
      (targetReason p e.weakAnchor x.torque) .idle
  else if e.seated then
    if p.maxTurn < turnAngle turn then s1.boomVerdict b .anchorSpin .idle
    else
      let e2 := e1.slip p x.torque peak
      let s2 := s1.setEngine b e2
      if slipRunLength ≤ e2.slipRun then s2.boomVerdict b .anchorSlip .idle else s2
  else
    let e2 := e1.seatTest p x.torque
    let s2 := s1.setEngine b e2
    if e2.seated then s2.updateResult b fun r => { r with turnAfterSeat := some 0 } else s2

/-- A sample in TORQUING is judged only when the boom is running at the moment it is taken (R137). -/
def State.torquingSample (s : State) (b : Boom) (x : Sample) : State :=
  if (s.unit b).running then s.torqueSample b x else s

/-! ### A taken sample -/

/-- The sample handed to the Strata Engine, which takes it in DRILLING, SPINNING, SETTING and TORQUING (R44, R75). -/
def State.engineSample (s : State) (b : Boom) (x : Sample) : State :=
  match (s.unit b).cycle with
  | .drilling => s.drillSample b x
  | .spinning => s.spinSample b x
  | .setting => s.setSample b x
  | .torquing => s.torquingSample b x
  | _ => s

/-- A lane-fault mark: it sets the open incomplete mark while the boom is DRILLING, and is dropped in any other state
(R75, R95). -/
def State.laneMark (s : State) (b : Boom) : State :=
  if (s.unit b).cycle = .drilling then s.setEngine b { s.engine b with openIncomplete := true } else s

end Sys2Proof.Machine
end

