-- ==== Sys2Proof/Machine/LaneOps.lean ====
section
/-! DEFINITION. The Lane Receiver's shared operations (chapter 4): the frame's fields and CRC, faults, admission, the
health window and the report transfer. -/

namespace Sys2Proof.Machine

/-! ### The frame -/

/-- The sync value, A5h (R177). -/
def syncByte : Byte := 0xA5

/-- The bytes of a frame (R70). -/
def frameSize : Nat := 12

/-- One bit of the CRC-8: shift left, and the generator x^8+x^2+x+1 where the top bit falls out (R71). -/
def crcBit (c : Byte) : Byte := if c.msb then (c <<< 1) ^^^ 0x07 else c <<< 1

/-- One byte into the CRC-8, most significant bit first (R71). -/
def crcByte (c x : Byte) : Byte :=
  crcBit (crcBit (crcBit (crcBit (crcBit (crcBit (crcBit (crcBit (c ^^^ x))))))))

/-- The CRC-8 of a list of bytes, from the value 0 (R71). -/
def crc8 (l : List Byte) : Byte := l.foldl crcByte 0x00

/-- The CRC of a complete frame: bytes 1 to 10 against byte 11 (R71). -/
def crcGood (frame : List Byte) : Bool := crc8 ((frame.drop 1).take 10) == frame.getD 11 0

/-- The fields of a received frame, before the clamps (R177). -/
structure RawSample where
  seq : Byte
  position : Nat
  thrust : Nat
  speed : Nat
  torque : Nat
  flags : Byte
deriving DecidableEq, Repr

/-- Two bytes of a frame as one unsigned number, high byte first (R177). -/
def frameWord (frame : List Byte) (k : Nat) : Nat := (joinBytes (frame.getD k 0) (frame.getD (k + 1) 0)).toNat

/-- The fields of a complete frame (R177). -/
def rawOfFrame (frame : List Byte) : RawSample where
  seq := frame.getD 1 0
  position := frameWord frame 2
  thrust := frameWord frame 4
  speed := frameWord frame 6
  torque := frameWord frame 8
  flags := frame.getD 10 0

/-! ### Checks of admission -/

/-- The tops of the field ranges (R73). -/
def positionTop : Nat := 4095

/-- Thrust range (R73). -/
def thrustTop : Nat := 1000

/-- Speed range (R73). -/
def speedTop : Nat := 1200

/-- Torque range (R73). -/
def torqueTop : Nat := 800

/-- The number of fields above their range (R73). -/
def RawSample.clampCount (x : RawSample) : Nat :=
  (if positionTop < x.position then 1 else 0) + (if thrustTop < x.thrust then 1 else 0) +
    (if speedTop < x.speed then 1 else 0) + (if torqueTop < x.torque then 1 else 0)

/-- The sample with its fields clamped (R73); the flush-present flag is bit 0 of the flags (R177). -/
def RawSample.clamp (x : RawSample) : Sample where
  seq := x.seq
  position := min positionTop x.position
  thrust := min thrustTop x.thrust
  speed := min speedTop x.speed
  torque := min torqueTop x.torque
  flush := x.flags.getLsbD 0

/-- The lane is in its fresh state: SILENT or LOST (R72, R76). -/
def LaneHealth.fresh : LaneHealth → Bool
  | .silent | .lost => true
  | _ => false

/-- The sequence check finds a gap (R72). -/
def Lane.seqGap (l : Lane) (seq : Byte) : Bool :=
  if l.health.fresh then false
  else match l.lastSeq with
    | some n => seq != n + 1
    | none => false

/-- The advance check finds an advance above 40 mm; it is not made where the last position is absent, as in SILENT
and LOST (R74, R76). -/
def Lane.advanceFault (l : Lane) (position : Nat) : Bool :=
  if l.health.fresh then false
  else match l.lastPosition with
    | some n => decide (maxAdvance < position - n)
    | none => false

/-! ### Faults -/

/-- The top of the fault counter (R80). -/
def faultTop : Nat := 65535

/-- The top of the window tally (R77). -/
def tallyTop : Nat := 255

/-- `n` faults counted in the fault counter; the fault that brings it to 65535 posts COUNT_OVER (R80). -/
def State.countFaults (s : State) (b : Boom) (n : Nat) : State :=
  let l := s.lane b
  let t := s.setLane b { l with faults := min faultTop (l.faults + n) }
  if l.faults < faultTop ∧ faultTop ≤ l.faults + n then t.post (.countOver b) else t

/-- `n` faults added to the window tally (R77). -/
def Lane.tally (l : Lane) (n : Nat) : Lane := { l with windowTally := min tallyTop (l.windowTally + n) }

/-- A discard fault: the counter, the tally where a health window is open, and the lane-fault mark (R70, R71, R77). -/
def State.discardFault (s : State) (b : Boom) : State :=
  let t := s.countFaults b 1
  let t := if (t.lane b).health.fresh then t else t.setLane b ((t.lane b).tally 1)
  t.laneMark b

/-! ### Health -/

/-- The admitted samples of a health window (R77). -/
def healthWindow : Nat := 64

/-- The largest tally with which a window passes (R76). -/
def tallyLimit : Nat := 6

/-- An admitted sample in the health window: its faults in the tally, 1 in the count, and at 64 the window judged and
a fresh one opened (R76, R77). -/
def Lane.countSample (l : Lane) (n : Nat) : Lane :=
  let t := l.tally n
  if t.windowCount + 1 < healthWindow then { t with windowCount := t.windowCount + 1 }
  else
    { t with
      windowCount := 0
      windowTally := 0
      health := if t.windowTally ≤ tallyLimit then .inStep else .outOfStep }

/-- The receiver at a received frame: out of SILENT or LOST the lane is OUT_OF_STEP with a fresh window; the loss
timer starts from 0, but for a boom in DRY mode; the last sequence number and position follow the frame (R72, R74,
R76, R78, R84). -/
def Lane.receive (l : Lane) (dry : Bool) (x : Sample) : Lane :=
  let t := if l.health.fresh then { l with health := .outOfStep, windowCount := 0, windowTally := 0 } else l
  { t with
    lossTimer := if dry then none else some 0
    lastSeq := some x.seq
    lastPosition := some x.position }

/-- A received frame admitted as a sample and handed on, in the order of R72 to R77: the faults counted, the mark of a
sequence gap, the sample to the engine, the flush watch, and the health. -/
def State.admitSample (s : State) (b : Boom) (raw : RawSample) : State :=
  let l := s.lane b
  let x := raw.clamp
  let gap := if l.seqGap x.seq then 1 else 0
  let adv := if l.advanceFault x.position then 1 else 0
  let n := gap + raw.clampCount + adv
  let s1 := (s.setLane b (l.receive (s.unit b).dry x)).countFaults b n
  let s2 := if gap = 1 then s1.laneMark b else s1
  let s3 := (s2.engineSample b x).watchFlush b x
  s3.setLane b ((s3.lane b).countSample n)

/-! ### The framer -/

/-- A torn frame: the bytes held are dropped and one discard fault counts (R70). -/
def State.tearFrame (s : State) (b : Boom) : State :=
  (s.setLane b { s.lane b with framer := .hunting }).discardFault b

/-- A complete frame checked by its CRC: received, or discarded with one fault (R71). -/
def State.completeFrame (s : State) (b : Boom) (frame : List Byte) : State :=
  let t := s.setLane b { s.lane b with framer := .hunting }
  if crcGood frame then t.admitSample b (rawOfFrame frame) else t.discardFault b

/-- A character taken by the framer (R70); a boom in DRY mode drops it (R83). -/
def State.takeCharacter (s : State) (b : Boom) (c : Byte) (stopGood : Bool) : State :=
  if (s.unit b).dry then s
  else
    match (s.lane b).framer with
    | .hunting =>
      if stopGood = true ∧ c = syncByte then s.setLane b { s.lane b with framer := .inFrame [c] 0 } else s
    | .inFrame held _ =>
      if stopGood = false then s.tearFrame b
      else if held.length + 1 < frameSize then
        s.setLane b { s.lane b with framer := .inFrame (held ++ [c]) 0 }
      else s.completeFrame b (held ++ [c])

/-! ### Resets and transfers -/

/-- The lane at a taken change of the DRY flag (R83). -/
def Lane.dryReset (l : Lane) : Lane :=
  { l with
    health := .silent
    framer := .hunting
    windowCount := 0
    windowTally := 0
    lossTimer := none
    lastSeq := none
    lastPosition := none }

/-- The transfer of the fault counter to the report value, with its REPORT notice (R81, R82). -/
def State.transferCount (s : State) (b : Boom) : State :=
  let l := s.lane b
  (s.setLane b { l with reportValue := l.faults, faults := 0 }).post (.report b)

/-- The loss of the lane (R78). -/
def State.loseLane (s : State) (b : Boom) : State :=
  let l := s.lane b
  ((s.setLane b { l with
    health := .lost
    windowCount := 0
    windowTally := 0
    lossTimer := none
    lastSeq := none
    lastPosition := none }).countFaults b 1).laneMark b

end Sys2Proof.Machine
end

