-- ==== Sys2Proof/Machine/Ports.lean ====
section
/-! DEFINITION. The Command Ports (chapter 12): frames and their status bytes, the taking of a command, the
last-result record, authority, and the settling of a read with its held-back effect (R34, R170 to R174). -/

namespace Sys2Proof.Machine

/-! ### Frames -/

/-- The frame of a port replaced. -/
def State.setFrame (s : State) (p : Port) (f : Frame) : State := s.setPort p { s.port p with frame := f }

/-- The last-result record of a port replaced. -/
def State.setLast (s : State) (p : Port) (r : LastResult) : State := s.setPort p { s.port p with last := r }

/-- The status bytes latched at the fall of chip select (R171). -/
def PortState.latch (q : PortState) : StatusLatch := ⟨q.last.code, q.pending.length⟩

/-- The part does not take the port's frame: it is held, or a reset dropped the frame (R172, R176). -/
def State.frameLost (s : State) (p : Port) : Bool := s.isHeld || (s.port p).frame == .dropped

/-- The status bytes of the frame in progress; a command without a FRAME_START before it stands for its whole frame,
whose status bytes are latched as it is taken (notes/assumptions/2.md). -/
def PortState.frameStatus (q : PortState) : StatusLatch :=
  match q.frame with
  | .active st => st
  | _ => q.latch

/-- A frame in progress dropped by a reset (R172, R176). -/
def Frame.drop : Frame → Frame
  | .idle => .idle
  | _ => .dropped

/-- The first byte out of a reply: the byte after the last argument byte, and never before byte 2 (R171). -/
def replyStart (argCount : Nat) : Nat := max 2 (1 + argCount)

/-- Filler byte (R178). -/
def filler : Byte := 0x00

/-- Byte `k` that the part shifts out in a frame: the two status bytes, filler, the reply, and filler again (R171). In
a frame without a reply, filler stands from byte 2 on (DESIGN CHOICE, notes/assumptions/27.md). In a frame that a reset
or RESTART dropped, nothing is shifted out (DESIGN CHOICE, notes/assumptions/28.md). -/
def Frame.outByte (f : Frame) (k : Nat) : Option Byte :=
  match f with
  | .active st => some (if k = 0 then st.code.byte else if k = 1 then BitVec.ofNat 8 st.count else filler)
  | .reply st n bytes _ =>
    some (if k = 0 then st.code.byte
      else if k = 1 then BitVec.ofNat 8 st.count
      else if k < replyStart n then filler
      else bytes.getD (k - replyStart n) filler)
  | _ => none

/-! ### Commands without a reply -/

/-- What a settled command comes to: the state it leaves, its result code, and the slot it puts in the last-result
record (R174). -/
structure Taken where
  state : State
  code : Code
  slot : Option Slot

/-- A refused command leaves the state of the part as it was (R174). -/
def refuse (s : State) (c : Code) : Taken := ⟨s, c, none⟩

/-- A command taken with no slot in its record. -/
def taken (s : State) (c : Code) : Taken := ⟨s, c, none⟩

/-- DONE, or CLAMPED where an argument was replaced by the end of its range (R174). -/
def doneOr (clamped : Bool) : Code := if clamped then .clamped else .done

/-- A command without a reply: settled at the rise of chip select, which ends its frame and writes the last-result
record (R172, R174). The rise of a lost frame settles nothing and records nothing. -/
def State.command (s : State) (p : Port) (n : CommandName) (run : State → Taken) : State :=
  if s.frameLost p then s.setFrame p .idle
  else
    let t := run (s.setFrame p .idle)
    t.state.setLast p ⟨some n.code, t.code, t.slot⟩

/-! ### Authority (R173) -/

/-- The commands that only Port C may issue: DENIED elsewhere, else their owner's checks. -/
def canopyOnly (p : Port) (s : State) (run : Taken) : Taken :=
  if p = .C then run else refuse s .denied

/-- The boom that a claim or cycle command concerns, where the port may issue it for that boom: Port A and Port B for
their own boom while it is not in DRY mode, Port C for a named boom in DRY mode (R50, R173). -/
def State.authorised (s : State) (p : Port) (boom : Byte) : Option Boom :=
  match p with
  | .A => if (s.unit .A).dry then none else some .A
  | .B => if (s.unit .B).dry then none else some .B
  | .C =>
    match boomOf boom with
    | some b => if (s.unit b).dry then some b else none
    | none => none

/-- The boom of a port that issues CLAIM NEXT (R38, R173). -/
def State.claimNextBoom (s : State) (p : Port) : Option Boom :=
  match p with
  | .A => if (s.unit .A).dry then none else some .A
  | .B => if (s.unit .B).dry then none else some .B
  | .C => none

/-! ### Commands with a reply -/

/-- What a settled read comes to: its result code, its reply, and the effect held back to the rise of chip select
(R34, R172). -/
structure Answer where
  code : Code
  bytes : List Byte
  effect : ReadEffect
deriving DecidableEq, Repr

/-- A command with a reply settled: the reply is built from the state at the settling, and its effect held back
(R172). `argCount` is its number of argument bytes. -/
def State.settleRead (s : State) (p : Port) (argCount : Nat) (a : Answer) : State :=
  { s.setFrame p (.reply (s.port p).frameStatus argCount a.bytes a.effect) with readCount := s.readCount + 1 }

/-- A command with a reply, which writes the last-result record at its settling (R172, R174). -/
def State.read (s : State) (p : Port) (n : CommandName) (argCount : Nat) (a : Answer) : State :=
  if s.frameLost p then s
  else (s.settleRead p argCount a).setLast p ⟨some n.code, a.code, none⟩

/-- The answer of a read that holds no effect back. -/
def answerDone (bytes : List Byte) : Answer := ⟨.done, bytes, .nothing⟩

/-- The drained mark set (R14). -/
def Entry.drain (e : Entry) : Entry := { e with drained := true }

/-- The held-back effect of a read taken at the rise of chip select (R34, R170). -/
def State.takeEffect (s : State) (p : Port) : ReadEffect → State
  | .nothing => s
  | .cursor target drain =>
    let t := s.setPort p { s.port p with cursor := target }
    match drain with
    | some i => t.modEntry i Entry.drain
    | none => t
  | .clear reported reposted =>
    let q := s.port p
    s.setPort p (({ q with
      pending := q.pending.filter fun n => !(reported.contains n) || reposted.contains n }).withAtn s.resetLow)

/-- The rise of chip select on a reply of which `clocked` bytes were clocked out: the frame ends, and the held-back
effect is taken if the reply was clocked out whole and dropped if not (R34, R170, R172). -/
def State.riseAfterReply (s : State) (p : Port) (clocked : Nat) : State :=
  if s.frameLost p then s.setFrame p .idle
  else
    match (s.port p).frame with
    | .reply _ _ bytes effect =>
      let t := s.setFrame p .idle
      if bytes.length ≤ clocked then t.takeEffect p effect else t
    | _ => s.setFrame p .idle

/-! ### Best match and targets -/

/-- The slot that a target names for the port: NO_MATCH for a best match that is NONE, STATE for a byte that names no
slot (R29, R32, R178). -/
def State.targetSlot (s : State) (p : Port) (x : Byte) : Except Code Slot :=
  match targetOf x with
  | .slot i => .ok i
  | .best =>
    match (s.port p).context.best with
    | some i => .ok i
    | none => .error .noMatch
  | .matchSet | .nothing => .error .state

end Sys2Proof.Machine
end

