-- ==== Sys2Proof/Machine/Replies.lean ====
section
/-! DEFINITION. The layouts of replies (13_layouts.md, sections 13.3 and 13.4): record segments, the READ STATUS
snapshot, notices, match contexts and parameters. Bits that a layout gives no meaning are free values of Config
(notes/assumptions/3.md). -/

namespace Sys2Proof.Machine

/-! ### Bytes -/

/-- A number as one byte. -/
def byteOf (n : Nat) : Byte := BitVec.ofNat 8 n

/-- A number as two bytes, high byte first (R178). -/
def bytesOf (n : Nat) : List Byte := wordBytes (BitVec.ofNat 16 n)

/-- The value that an absent one-byte field reads as (R178). -/
def absentByte : Byte := 0xFF

/-- A slot, FFh when absent. -/
def slotByte : Option Slot → Byte
  | some i => byteOf i.val
  | none => absentByte

/-- A bit in place `k` of a byte. -/
def bitAt (k : Nat) (x : Bool) : Byte := if x then 1 <<< k else 0

/-- Byte `k` of the reply now settled: the bits of `mask` have the value given, the others are unstated. -/
def State.partByte (s : State) (k : Nat) (mask value : Byte) : Byte :=
  (value &&& mask) ||| (Config.unstatedByte s.readCount k &&& ~~~mask)

/-! ### Record segments (R31, section 13.3) -/

/-- The number of segments of a record: 2 and one for each two layers, rounded up (R31). -/
def Entry.segments (e : Entry) : Nat :=
  match e.result with
  | some r => 2 + (r.layers.length + 1) / 2
  | none => 2

/-- The marks and the verdict reason of a record's result part. -/
def Entry.resultMark (e : Entry) (f : Result → Bool) : Bool :=
  match e.result with
  | some r => f r
  | none => false

/-- The verdict reason as a byte, FFh when absent. -/
def Entry.verdictByte (e : Entry) : Byte :=
  match e.result with
  | some r =>
    match r.verdict with
    | some v => v.byte
    | none => absentByte
  | none => absentByte

/-- Segment 0, the plan part. -/
def State.segmentZero (s : State) (i : Slot) (e : Entry) : List Byte :=
  [byteOf i.val, e.validity.byte, e.holeState.byte,
    (match e.claimant with | some b => boomCode b | none => absentByte),
    e.row, byteOf e.position, e.reach.byte] ++ bytesOf e.offset ++
  [byteOf e.lengthClass, byteOf e.priority, e.origin.byte, slotByte e.parent, byteOf e.generation,
    s.partByte 14 0x07 (bitAt 0 e.drained ||| bitAt 1 (e.resultMark Result.supplementLost) |||
      bitAt 2 (e.resultMark Result.refer)),
    e.verdictByte]

/-- The three bytes of a 24-bit group. -/
def tripleBytes (x : BitVec 24) : List Byte := [x.extractLsb' 16 8, x.extractLsb' 8 8, x.extractLsb' 0 8]

/-- The unstated bits of the 24-bit group that starts at byte `k` of the reply. -/
def State.unstated24 (s : State) (k : Nat) : BitVec 24 :=
  Config.unstatedByte s.readCount k ++ Config.unstatedByte s.readCount (k + 1) ++
    Config.unstatedByte s.readCount (k + 2)

/-- Collar position (high 12 bits) and drilled depth (low 12 bits). An absent one is told by its bit in byte 0, and
its 12 bits are unstated. -/
def State.depthGroup (s : State) (r : Result) : BitVec 24 :=
  let u := s.unstated24 1
  (match r.collar with | some x => BitVec.ofNat 12 x | none => u.extractLsb' 12 12) ++
    (match r.drilledDepth with | some x => BitVec.ofNat 12 x | none => u.extractLsb' 0 12)

/-- Peak torque (high 10 bits) and final torque (low 10 bits), 3FFh when absent; the 4 bits between are unstated. -/
def State.torqueGroup (s : State) (r : Result) : BitVec 24 :=
  BitVec.ofNat 10 (r.peakTorque.getD 0x3FF) ++ (s.unstated24 11).extractLsb' 10 4 ++
    BitVec.ofNat 10 (r.finalTorque.getD 0x3FF)

/-- Segment 1, the result part. -/
def State.segmentOne (s : State) (e : Entry) : List Byte :=
  match e.result with
  | none => s.partByte 0 0x31 0x00 :: List.replicate 15 absentByte
  | some r =>
    [s.partByte 0 0x3F (bitAt 0 true ||| bitAt 1 r.unreliable ||| (byteOf r.extensions &&& 0x03) <<< 2 |||
      bitAt 4 r.collar.isSome ||| bitAt 5 r.drilledDepth.isSome)] ++
    tripleBytes (s.depthGroup r) ++
    [byteOf (r.target / 10), byteOf (r.profiledDepth / 10), byteOf (r.voidTotal / 10), byteOf r.incomplete,
      byteOf r.saturated,
      (byteOf (r.cartPlanned.getD 0x0) <<< 4) ||| (byteOf (r.cartDelivered.getD 0xF) &&& 0x0F),
      byteOf (r.spinRevs.getD 0xFF)] ++
    tripleBytes (s.torqueGroup r) ++ bytesOf (r.turnAfterSeat.getD 0xFFFF)

/-- The five bytes of a layer that starts at byte `k` of the reply; FFh in all five where there is no layer. -/
def State.layerBytes (s : State) (k : Nat) : Option Layer → List Byte
  | some x => bytesOf x.start ++ bytesOf x.length ++ [s.partByte (k + 4) 0x83 (x.cls.byte ||| bitAt 7 x.merged)]
  | none => List.replicate 5 absentByte

/-- Segment `n` of 2 and up: two layers, and filler. -/
def State.segmentLayers (s : State) (e : Entry) (n : Nat) : List Byte :=
  let layers := match e.result with
    | some r => r.layers
    | none => []
  s.layerBytes 0 layers[2 * n - 4]? ++ s.layerBytes 5 layers[2 * n - 3]? ++ List.replicate 6 filler

/-- A segment of a record (R31). -/
def State.segment (s : State) (i : Slot) (e : Entry) (n : Nat) : List Byte :=
  if n = 0 then s.segmentZero i e
  else if n = 1 then s.segmentOne e
  else s.segmentLayers e n

/-! ### READ STATUS (R175, section 13.4) -/

/-- The place of a boom's request in the flow wait queue: 0 none, 1 head, 2 second. -/
def Arbiter.place (a : Arbiter) (b : Boom) : Nat :=
  match a.queue.findIdx? fun r => r.boom == b with
  | some k => k + 1
  | none => 0

/-- The eight bytes of a boom, which start at byte `k` of the reply. -/
def State.statusBoom (s : State) (k : Nat) (b : Boom) : List Byte :=
  let u := s.unit b
  let g := s.arbiter.grants.get b
  [u.cycle.byte,
    (match u.stored with | some x => x.cycle.byte | none => absentByte),
    s.partByte (k + 2) 0x07 (bitAt 0 u.holds.flow ||| bitAt 1 u.holds.lane ||| bitAt 2 u.holds.flush),
    s.partByte (k + 3) 0x3F (bitAt 0 u.feed ||| bitAt 1 u.turn ||| bitAt 2 u.claimHeld ||| bitAt 3 u.dry |||
      bitAt 4 (u.activeSet == .set1) ||| bitAt 5 (u.pendingSet == .set1)),
    slotByte u.workSlot,
    byteOf (flowAmount g),
    (match g with | some x => x.stage.byte | none => absentByte),
    s.partByte (k + 7) 0x07 (bitAt 0 (match g with | some x => x.degraded | none => false) |||
      (byteOf (s.arbiter.place b) &&& 0x03) <<< 1)]

/-- The six bytes of a lane. -/
def State.statusLane (s : State) (b : Boom) : List Byte :=
  let l := s.lane b
  [l.health.byte] ++ bytesOf l.faults ++ bytesOf l.reportValue ++ [l.reportMode.byte]

/-- The eight bytes of the loader, which start at byte 30. Without a grant the grant's other fields are unstated. -/
def State.statusLoader (s : State) : List Byte :=
  let l := s.loader
  [l.state.byte] ++
  (match l.grant with
    | some g =>
      [s.partByte 31 0x07 (boomCode g.boom ||| bitAt 2 g.cancelled), byteOf g.delivered, byteOf g.planned, byteOf g.jams]
    | none => [s.partByte 31 0x03 0x03, s.partByte 32 0x00 0, s.partByte 33 0x00 0, s.partByte 34 0x00 0]) ++
  [(match l.queue[0]? with | some b => boomCode b | none => absentByte),
    (match l.queue[1]? with | some b => boomCode b | none => absentByte),
    byteOf l.magazine]

/-- The thirteen bytes of the table. -/
def State.statusTable (s : State) : List Byte :=
  [s.protection.byte, bitAt 0 s.guardPin, byteOf s.emptyCount, slotByte s.nextFree, byteOf s.backlog.length] ++
    (List.range 8).map fun k => slotByte s.backlog[k]?

/-- The six bytes of place `k` of the Row Table; FFh where it is unused. -/
def State.statusRow (s : State) (k : Nat) : List Byte :=
  match s.rows[k]? with
  | some r =>
    [r.id, r.state.byte, s.partByte (52 + 6 * k + 2) 0x01 (bitAt 0 r.planEnded), byteOf r.entries,
      byteOf r.accepted, byteOf r.rejected]
  | none => List.replicate 6 absentByte

/-- The READ STATUS snapshot, 76 bytes. -/
def State.statusReply (s : State) : List Byte :=
  s.statusBoom 0 .A ++ s.statusBoom 8 .B ++ [byteOf s.arbiter.capacity, byteOf s.arbiter.derate] ++
  s.statusLane .A ++ s.statusLane .B ++ s.statusLoader ++ s.statusTable ++
  [byteOf s.rows.length] ++ s.statusRow 0 ++ s.statusRow 1 ++ s.statusRow 2 ++ s.statusRow 3

/-! ### The other replies (R179) -/

/-- The LAST RESULT reply: command byte (00h absent), code, slot (FFh absent). -/
def lastResultReply (r : LastResult) : List Byte := [r.command.getD 0x00, r.code.byte, slotByte r.slot]

/-- A pair in a NOTICES reply: kind and subject, FFh for none. -/
def NoticePair.bytes (n : NoticePair) : List Byte :=
  [byteOf n.kind, match n.subject with | some b => boomCode b | none => absentByte]

/-- The NOTICES reply: the count, then each pair (R170). -/
def noticesReply (l : List NoticePair) : List Byte := byteOf l.length :: l.flatMap NoticePair.bytes

/-- The READ NOTICE SETTINGS reply: 13 masks and 5 edge modes, with the three mask bits that no kind has
unstated. -/
def State.settingsReply (s : State) (q : PortState) : List Byte :=
  let m := q.masks.setWidth 16
  [s.partByte 0 0x1F (Word16.hi m), Word16.lo m, q.edges.permit.byte, q.edges.void.byte, q.edges.lane.byte,
    q.edges.loader.byte, q.edges.magazineLow.byte]

/-- The READ MATCHES reply (R30). -/
def matchesReply (c : MatchContext) : List Byte :=
  [c.scope.byte, slotByte c.best, byteOf c.members.length] ++ c.members.map fun i => byteOf i.val

/-- The 46 value bytes of a parameter set (R165, R179). -/
def paramBytes (x : ParamSet) : List Byte :=
  bytesOf x.productShift ++ bytesOf x.tVoid ++ bytesOf x.tMedium ++ bytesOf x.tHard ++ wordBytes x.voidMode.word ++
  bytesOf x.voidLimit ++ bytesOf x.zone ++ bytesOf x.competent ++ bytesOf x.maxExtensions ++
  bytesOf x.collarAllowance ++ bytesOf x.freeLength ++ bytesOf x.cartridgeColumn ++ bytesOf x.maxCartridges ++
  bytesOf x.spinRevs ++ bytesOf x.spinMax ++ bytesOf x.setTime ++ bytesOf x.seatTorque ++ bytesOf x.targetTorque ++
  bytesOf x.maxTorque ++ bytesOf x.maxTurn ++ bytesOf x.torqueStage ++ bytesOf x.incompleteLimit ++
  bytesOf x.laneAbandon

/-- The 6 bytes of the machine settings (R165, R179). -/
def settingsBytes (x : Settings) : List Byte := bytesOf x.separation ++ bytesOf x.shift ++ bytesOf x.lowMark

end Sys2Proof.Machine
end

