-- ==== Sys2Proof/Machine/PortCommands.lean ====
section
/-! DEFINITION. The meanings of the frame events and of the read, search and notice commands (chapters 2, 11, 12). -/

namespace Sys2Proof.Machine

/-! ### Frame events -/

/-- FRAME_START (R171): chip select falls, and the two status bytes are latched. A frame that begins while RESET_N is
low or the supply is down settles nothing (R176). -/
def execFrameStart (p : Port) (s : State) : Host.Outcome State Fault Refusal :=
  .next (s.setFrame p (if s.isHeld then .dropped else .active (s.port p).latch))

/-- UNKNOWN (R172): the last-result record becomes the command byte with UNKNOWN. A byte that does name a command is
no such frame. -/
def execUnknown (p : Port) (command : Byte) (s : State) : Host.Outcome State Fault Refusal :=
  .next (
    if s.frameLost p then s.setFrame p .idle
    else if (CommandName.ofByte command).isSome then s
    else (s.setFrame p .idle).setLast p ⟨some command, .unknown, none⟩)

/-- TORN (R172): the command is discarded, and the last-result record becomes its command byte with TORN. A frame that
ends before its command byte is complete changes nothing, one whose command byte names no command is UNKNOWN, and
bytes that complete a command's arguments are no torn frame. -/
def execTorn (p : Port) (bytes : List Byte) (s : State) : Host.Outcome State Fault Refusal :=
  .next (
    if s.frameLost p then s.setFrame p .idle
    else
      match bytes with
      | [] => s.setFrame p .idle
      | c :: _ =>
        if (CommandName.ofByte c).isNone then (s.setFrame p .idle).setLast p ⟨some c, .unknown, none⟩
        else if frameTorn p bytes then (s.setFrame p .idle).setLast p ⟨some c, .torn, none⟩
        else s)

/-- READ_EFFECTS (R34, R170): chip select rises after `clocked` reply bytes; the held-back effect of the read is taken
after a whole reply, and dropped otherwise. -/
def execReadEffects (p : Port) (clocked : Nat) (s : State) : Host.Outcome State Fault Refusal :=
  .next (s.riseAfterReply p clocked)

/-! ### Reads without arguments -/

/-- LAST_RESULT (R174): the last-result record, left as it was. -/
def execLastResult (p : Port) (s : State) : Host.Outcome State Fault Refusal :=
  .next (if s.frameLost p then s else s.settleRead p 0 (answerDone (lastResultReply (s.port p).last)))

/-- READ_STATUS (R175). -/
def execReadStatus (p : Port) (s : State) : Host.Outcome State Fault Refusal :=
  .next (s.read p .readStatus 0 (answerDone s.statusReply))

/-- NOTICES (R170): the pending set is fixed into the reply; it is cleared at the rise of chip select. -/
def execNotices (p : Port) (s : State) : Host.Outcome State Fault Refusal :=
  .next (s.read p .notices 0
    ⟨.done, noticesReply (s.port p).pending, .clear (s.port p).pending []⟩)

/-- READ_NOTICE_SETTINGS (R168). -/
def execReadNoticeSettings (p : Port) (s : State) : Host.Outcome State Fault Refusal :=
  .next (s.read p .readNoticeSettings 0 (answerDone (s.settingsReply (s.port p))))

/-- READ_MATCHES (R30). -/
def execReadMatches (p : Port) (s : State) : Host.Outcome State Fault Refusal :=
  .next (s.read p .readMatches 0 (answerDone (matchesReply (s.port p).context)))

/-! ### Notice configuration -/

/-- The five edge modes of a CONFIGURE NOTICES, or none where a value is neither RISE nor ANY (R168). -/
def edgeModesOf (permit void lane loader magazineLow : Byte) : Option EdgeModes :=
  match edgeModeOf permit, edgeModeOf void, edgeModeOf lane, edgeModeOf loader, edgeModeOf magazineLow with
  | some a, some b, some c, some d, some e => some ⟨a, b, c, d, e⟩
  | _, _, _, _, _ => none

/-- CONFIGURE_NOTICES (R168, R169). -/
def execConfigureNotices (p : Port) (mask : Word16) (permit void lane loader magazineLow : Byte) (s : State) :
    Host.Outcome State Fault Refusal :=
  .next (s.command p .configureNotices fun s =>
    match edgeModesOf permit void lane loader magazineLow with
    | some e =>
      taken (s.setPort p ({ s.port p with masks := mask.setWidth 13, edges := e }.withAtn s.resetLow)) .done
    | none => refuse s .state)

/-! ### SEARCH -/

/-- The key of a SEARCH: for each field whose mask flag is set, the value to compare (R26, R27). -/
structure SearchKey where
  row : Option Byte
  position : Option Nat
  reach : Option Reach
  holeState : Option HoleState
  origin : Option Origin
  claimant : Option (Option Boom)
deriving DecidableEq, Repr

/-- A key field as the mask selects it: not looked at where its flag is clear; refused where the flag is set and the
value is outside its list (R26). -/
def keyField {α : Type} (flag : Bool) (value : Option α) : Option (Option α) :=
  if flag then value.map some else some none

/-- A position key: 0 to 7 (R26). -/
def positionOf (x : Byte) : Option Nat := if x.toNat ≤ 7 then some x.toNat else none

/-- The key that the argument bytes give; none where a selected field is outside its list (R26). -/
def searchKeyOf (row position reach holeState origin claimant mask : Byte) : Option SearchKey :=
  match keyField (mask.getLsbD 1) (positionOf position), keyField (mask.getLsbD 2) (reachOf reach),
    keyField (mask.getLsbD 3) (holeStateOf holeState), keyField (mask.getLsbD 4) (originOf origin),
    keyField (mask.getLsbD 5) (claimantKeyOf claimant) with
  | some p, some r, some h, some o, some c => some ⟨if mask.getLsbD 0 then some row else none, p, r, h, o, c⟩
  | _, _, _, _, _ => none

/-- A selected key field equals the entry's field; a field not selected matches (R27). -/
def fieldMatches {α : Type} [DecidableEq α] (key : Option α) (value : α) : Bool :=
  match key with
  | some k => k == value
  | none => true

/-- An entry matches the key (R27). -/
def SearchKey.matchesEntry (k : SearchKey) (e : Entry) : Bool :=
  fieldMatches k.row e.row && fieldMatches k.position e.position && fieldMatches k.reach e.reach &&
    fieldMatches k.holeState e.holeState && fieldMatches k.origin e.origin && fieldMatches k.claimant e.claimant

/-- The validity that a scope compares; none for EMPTY (R27). -/
def Scope.validity : Scope → Option Validity
  | .live => some .live
  | .skip => some .skip
  | .held => some .held
  | .empty => none

/-- The slots that a SEARCH of a validity finds, in ascending order (R27). -/
def State.findSlots (s : State) (v : Validity) (k : SearchKey) : List Slot :=
  allSlots.filter fun i => match s.entry i with
    | some e => e.validity == v && k.matchesEntry e
    | none => false

/-- The priority of the entry in a slot. -/
def State.priorityOf (s : State) (i : Slot) : Nat :=
  match s.entry i with
  | some e => e.priority
  | none => 0

/-- The slot with the lowest priority value, and among equals the lowest slot number, of a list in ascending order
(R28, R37). -/
def State.bestOf (s : State) (l : List Slot) : Option Slot :=
  l.foldl (fun best i =>
    match best with
    | none => some i
    | some j => if s.priorityOf i < s.priorityOf j then some i else some j) none

/-- The match context that a SEARCH leaves, or none where it is refused (R26, R27, R28). -/
def State.searchContext (s : State) (scope row position reach holeState origin claimant mask : Byte) :
    Option MatchContext :=
  match scopeOf scope with
  | none => none
  | some sc =>
    match sc.validity with
    | none => some ⟨sc, s.nextFree.toList, s.nextFree⟩
    | some v =>
      match searchKeyOf row position reach holeState origin claimant mask with
      | none => none
      | some k => some ⟨sc, s.findSlots v k, s.bestOf (s.findSlots v k)⟩

/-- SEARCH (R26 to R28). -/
def execSearch (p : Port) (scope row position reach holeState origin claimant mask : Byte) (s : State) :
    Host.Outcome State Fault Refusal :=
  .next (s.command p .search fun s =>
    match s.searchContext scope row position reach holeState origin claimant mask with
    | none => refuse s .state
    | some c =>
      ⟨s.setPort p { s.port p with context := c }, if c.members.isEmpty then .noMatch else .done, c.best⟩)

/-! ### Record reads -/

/-- The reply bytes of a refused record read: filler (R32, R178). -/
def fillerReply : List Byte := List.replicate 16 filler

/-- A read that is refused: its code, filler, and no effect (R32, R33). -/
def answerRefused (c : Code) : Answer := ⟨c, fillerReply, .nothing⟩

/-- Segment `n` of the entry in slot `i` read through port `p`, with its held-back effects: the cursor at the next
segment, and the drained mark for Port C at the last segment of a FROZEN row's entry (R14, R31, R32, R33). -/
def State.readSegment (s : State) (p : Port) (i : Slot) (n : Nat) : Answer :=
  match s.entry i with
  | none => answerRefused .state
  | some e =>
    if n < e.segments then
      ⟨.done, s.segment i e n,
        .cursor (some (i, n + 1)) (if p = .C ∧ n + 1 = e.segments ∧ s.rowIs e.row .frozen = true then some i else none)⟩
    else answerRefused .ended

/-- READ_ENTRY (R32). -/
def execReadEntry (p : Port) (target segment : Byte) (s : State) : Host.Outcome State Fault Refusal :=
  .next (s.read p .readEntry 2 (
    match s.targetSlot p target with
    | .error c => answerRefused c
    | .ok i => s.readSegment p i segment.toNat))

/-- READ_NEXT (R33). -/
def execReadNext (p : Port) (s : State) : Host.Outcome State Fault Refusal :=
  .next (s.read p .readNext 0 (
    match (s.port p).cursor with
    | none => answerRefused .state
    | some (i, n) => s.readSegment p i n))

/-- READ_PARAMETERS (R165): the reply of a refused selector is filler. -/
def execReadParameters (p : Port) (selector : Byte) (s : State) : Host.Outcome State Fault Refusal :=
  .next (s.read p .readParameters 1 (
    if selector = 0x00 then answerDone (paramBytes s.params.set0)
    else if selector = 0x01 then answerDone (paramBytes s.params.set1)
    else if selector = 0x02 then answerDone (settingsBytes s.params.settings)
    else ⟨.state, [], .nothing⟩))

end Sys2Proof.Machine
end

