-- ==== Sys2Proof/Machine/TableCommands.lean ====
section
/-! DEFINITION. The meanings of the plan, row and protection commands of the Hole Table (chapter 1). Port C issues
them; elsewhere they are DENIED (R173). -/

namespace Sys2Proof.Machine

/-- The most records of the Row Table (R7). -/
def rowTableSize : Nat := 4

/-- A new row record (R8). -/
def newRow (id : Byte) : RowRecord := ⟨id, .opened, false, 0, 0, 0⟩

/-- OPEN_ROW (R8). -/
def execOpenRow (p : Port) (row : Byte) (s : State) : Host.Outcome State Fault Refusal :=
  .next (s.command p .openRow fun s => canopyOnly p s (
    if (s.row row).isSome then refuse s .state
    else if rowTableSize ≤ s.rows.length then refuse s .full
    else taken (s.setRows (s.rows ++ [newRow row])) .done))

/-- A non-EMPTY entry of origin PLAN has this row and position (R9). -/
def State.planned (s : State) (row : Byte) (position : Nat) : Bool :=
  allSlots.any fun i => match s.entry i with
    | some e => e.origin == .plan && e.row == row && e.position == position
    | none => false

/-- The entry that PLAN HOLE writes, with its clamped values (R9). -/
def plannedEntry (row : Byte) (position : Nat) (reach : Reach) (offset lengthClass priority : Nat) : Entry where
  validity := .live
  row := row
  position := position
  reach := reach
  offset := min maxOffset offset
  lengthClass := min 4 lengthClass
  priority := min 15 priority
  origin := .plan
  parent := none
  generation := 0
  holeState := .planned
  claimant := none
  drained := false
  result := none

/-- An argument of PLAN HOLE is above its range (R9). -/
def planClamped (offset lengthClass priority : Nat) : Bool :=
  decide (maxOffset < offset) || decide (4 < lengthClass) || decide (15 < priority)

/-- PLAN_HOLE (R9). -/
def execPlanHole (p : Port) (row position reach : Byte) (offset : Word16) (lengthClass priority : Byte) (s : State) :
    Host.Outcome State Fault Refusal :=
  .next (s.command p .planHole fun s => canopyOnly p s (
    match s.nextFree with
    | none => refuse s .full
    | some i =>
      match s.row row with
      | none => refuse s .noRow
      | some r =>
        if r.state ≠ .opened ∨ r.planEnded = true then refuse s .state
        else
          match positionOf position, reachOf reach with
          | some pos, some rc =>
            if s.planned row pos then refuse s .state
            else
              ⟨s.writeSlot i (plannedEntry row pos rc offset.toNat lengthClass.toNat priority.toNat),
                doneOr (planClamped offset.toNat lengthClass.toNat priority.toNat), some i⟩
          | _, _ => refuse s .state))

/-- END_PLAN (R10). -/
def execEndPlan (p : Port) (row : Byte) (s : State) : Host.Outcome State Fault Refusal :=
  .next (s.command p .endPlan fun s => canopyOnly p s (
    match s.row row with
    | none => refuse s .noRow
    | some r =>
      if r.state ≠ .opened then refuse s .state
      else if r.planEnded then taken s .done
      else taken ((s.modRow row fun r => { r with planEnded := true }).closingCheck row) .done))

/-- Every drained mark of the row cleared (R12, R15). -/
def State.clearDrained (s : State) (row : Byte) : State :=
  (s.slotsOfRow row).foldl (fun acc i => acc.modEntry i fun e => { e with drained := false }) s

/-- FREEZE_ROW (R12). -/
def execFreezeRow (p : Port) (row : Byte) (s : State) : Host.Outcome State Fault Refusal :=
  .next (s.command p .freezeRow fun s => canopyOnly p s (
    match s.row row with
    | none => refuse s .noRow
    | some r =>
      if r.state ≠ .closed then refuse s .state
      else taken ((s.clearDrained row).modRow row fun r => { r with state := .frozen }) .done))

/-- The protection mode lets a frozen row be thawed (R15). -/
def State.mayThaw (s : State) : Bool :=
  match s.protection with
  | .opened => true
  | .guarded => s.guardPin
  | .shift => false

/-- THAW_ROW (R15). -/
def execThawRow (p : Port) (row : Byte) (s : State) : Host.Outcome State Fault Refusal :=
  .next (s.command p .thawRow fun s => canopyOnly p s (
    match s.row row with
    | none => refuse s .noRow
    | some r =>
      if r.state ≠ .frozen then refuse s .state
      else if s.mayThaw then taken ((s.clearDrained row).modRow row fun r => { r with state := .closed }) .done
      else refuse s .isProtected))

/-- A row is drained when every one of its entries carries the mark (R14). -/
def State.rowDrained (s : State) (row : Byte) : Bool :=
  (s.slotsOfRow row).all fun i => match s.entry i with
    | some e => e.drained
    | none => true

/-- RELEASE_ROW (R16): the row's slots emptied, its record removed, and the backlog drained. -/
def execReleaseRow (p : Port) (row : Byte) (s : State) : Host.Outcome State Fault Refusal :=
  .next (s.command p .releaseRow fun s => canopyOnly p s (
    match s.row row with
    | none => refuse s .noRow
    | some r =>
      if r.state ≠ .frozen then refuse s .state
      else if s.rowDrained row then
        let t := (s.slotsOfRow row).foldl State.emptySlot s
        taken (t.setRows (t.rows.filter fun x => x.id != row)).drainBacklog .done
      else refuse s .state))

/-- The order of the protection modes (R17). -/
def Protection.rank : Protection → Nat
  | .opened => 0
  | .guarded => 1
  | .shift => 2

/-- SET_PROTECTION (R17); a mode outside its list is refused STATE (R178). -/
def execSetProtection (p : Port) (mode : Byte) (s : State) : Host.Outcome State Fault Refusal :=
  .next (s.command p .setProtection fun s => canopyOnly p s (
    match protectionOf mode with
    | none => refuse s .state
    | some m =>
      if s.protection.rank ≤ m.rank then taken (s.setProtectionMode m) .done
      else if s.protection = .guarded ∧ s.guardPin = true then taken (s.setProtectionMode m) .done
      else refuse s .isProtected))

/-- ERASE (R18). -/
def execErase (p : Port) (slot : Byte) (s : State) : Host.Outcome State Fault Refusal :=
  .next (s.command p .erase fun s => canopyOnly p s (
    match slotOf slot with
    | none => refuse s .state
    | some i =>
      match s.entry i with
      | none => refuse s .state
      | some e =>
        if s.rowIs e.row .frozen then refuse s .isProtected
        else if s.rowIs e.row .opened then
          if e.holeState = .planned ∨ e.holeState = .tested then
            taken (((s.emptySlot i).drainBacklog).closingCheck e.row) .done
          else refuse s .state
        else refuse s .state))

/-- An entry is eligible for SET VALIDITY: PLANNED, in an OPEN row (R19). -/
def State.mayRevalidate (s : State) (e : Entry) : Bool := e.holeState == .planned && s.rowIs e.row .opened

/-- One entry judged and changed by SET VALIDITY (R19). -/
def State.setValidityAt (s : State) (i : Slot) (v : Validity) : Taken :=
  match s.entry i with
  | none => refuse s .state
  | some e =>
    if s.rowIs e.row .frozen then refuse s .isProtected
    else if s.mayRevalidate e then taken ((s.setEntry i (some { e with validity := v })).closingCheck e.row) .done
    else refuse s .state

/-- The members of a match set that are eligible for SET VALIDITY (R19). -/
def State.revalidatable (s : State) (l : List Slot) : List Slot :=
  l.filter fun i => match s.entry i with
    | some e => s.mayRevalidate e
    | none => false

/-- SET VALIDITY at the match set: every eligible member takes the new validity, and then the closing check is made
for each row that holds a changed entry (R19). -/
def State.setValidityAll (s : State) (l : List Slot) (v : Validity) : Taken :=
  let changed := s.revalidatable l
  if changed.isEmpty then refuse s .state
  else
    let t := changed.foldl (fun acc i => acc.modEntry i fun e => { e with validity := v }) s
    taken (changed.foldl (fun acc i => match acc.entry i with
      | some e => acc.closingCheck e.row
      | none => acc) t) .done

/-- SET_VALIDITY (R19). -/
def execSetValidity (p : Port) (target validity : Byte) (s : State) : Host.Outcome State Fault Refusal :=
  .next (s.command p .setValidity fun s => canopyOnly p s (
    match validityOf validity with
    | none => refuse s .state
    | some v =>
      match targetOf target with
      | .matchSet => s.setValidityAll (s.port p).context.members v
      | .slot i => s.setValidityAt i v
      | .best =>
        match (s.port p).context.best with
        | some i => s.setValidityAt i v
        | none => refuse s .noMatch
      | .nothing => refuse s .state))

/-- The backlog parents of a row (R22). -/
def State.parentsOf (s : State) (row : Byte) : List Slot :=
  s.backlog.filter fun i => match s.entry i with
    | some e => e.row == row
    | none => false

/-- CANCEL_SUPPLEMENTS (R22). -/
def execCancelSupplements (p : Port) (row : Byte) (s : State) : Host.Outcome State Fault Refusal :=
  .next (s.command p .cancelSupplements fun s => canopyOnly p s (
    match s.row row with
    | none => refuse s .noRow
    | some r =>
      if r.state = .frozen then refuse s .isProtected
      else
        let lost := s.parentsOf row
        if lost.isEmpty then taken s .done
        else
          let t := lost.foldl (fun acc i => acc.modEntry i Entry.markLost)
            (s.setBacklog (s.backlog.filter fun i => !(lost.contains i)))
          taken ((t.post .table).closingCheck row) .done))

end Sys2Proof.Machine
end

