-- ==== Sys2Proof/Machine/CycleCommands.lean ====
section
/-! DEFINITION. The meanings of the claim commands (chapter 2, section 2.4) and of the cycle reports (R50 to R56). -/

namespace Sys2Proof.Machine

/-! ### Claims -/

/-- The distance of two offsets, without sign (R36). -/
def offsetDistance (x y : Nat) : Nat := (x - y) + (y - x)

/-- The separation check of an entry for boom `b` (R36). -/
def State.separated (s : State) (b : Boom) (e : Entry) : Bool :=
  match s.claimedEntry b.other with
  | some (_, o) =>
    o.row != e.row || o.validity == .held ||
      decide (s.params.settings.separation ≤ offsetDistance e.offset o.offset)
  | none => true

/-- The reach of an entry lets boom `b` drill it (R2, R37). -/
def Reach.allows : Reach → Boom → Bool
  | .either, _ => true
  | .a, .A => true
  | .b, .B => true
  | _, _ => false

/-- The entry has this validity, is PLANNED, lies in an OPEN row, and its reach lets the boom drill it (R37, R39,
R40). -/
def State.claimable (s : State) (b : Boom) (v : Validity) (e : Entry) : Bool :=
  e.validity == v && e.holeState == .planned && s.rowIs e.row .opened && e.reach.allows b

/-- The entries of a row that CLAIM NEXT may choose for the boom (R37). -/
def State.eligibleIn (s : State) (b : Boom) (row : Byte) : List Slot :=
  (s.slotsOfRow row).filter fun i => match s.entry i with
    | some e => s.claimable b .live e && s.separated b e
    | none => false

/-- The choice of CLAIM NEXT: the oldest row with an eligible entry, and in it the lowest priority, then the lowest
slot number (R37). -/
def State.chooseNext (s : State) (b : Boom) : Option Slot :=
  match s.rows.find? fun r => !(s.eligibleIn b r.id).isEmpty with
  | some r => s.bestOf (s.eligibleIn b r.id)
  | none => none

/-- The entry claimed (R35). -/
def Entry.claimedBy (e : Entry) (b : Boom) : Entry := { e with holeState := .claimed, claimant := some b }

/-- A claim, whole (R35): the entry CLAIMED by the boom, the boom CLAIMED with its pending selection active, and the
engine cleared, with the fall of the VOID status offered where it was void (R100). -/
def State.takeClaim (s : State) (b : Boom) (i : Slot) : State :=
  s.acting fun s =>
    let t := (s.modEntry i fun e => e.claimedBy b).modUnit b fun u =>
      { u with workSlot := some i, claimHeld := true, activeSet := u.pendingSet }
    ((t.setEngine b .initial).offerChange (.void b) (s.engine b).voidState false).setCycle b .claimed

/-- CLAIM_NEXT (R37, R38). -/
def execClaimNext (p : Port) (s : State) : Host.Outcome State Fault Refusal :=
  .next (s.command p .claimNext fun s =>
    match s.claimNextBoom p with
    | none => refuse s .denied
    | some b =>
      if (s.unit b).cycle ≠ .idle then refuse s .state
      else
        match s.chooseNext b with
        | none => refuse s .noMatch
        | some i => ⟨s.takeClaim b i, .done, some i⟩)

/-- The validity that CLAIM SLOT asks of the entry: HELD for a boom in DRY mode, else LIVE (R39, R40). -/
def claimValidity (dry : Bool) : Validity := if dry then .held else .live

/-- CLAIM_SLOT (R39, R40). -/
def execClaimSlot (p : Port) (boom target : Byte) (s : State) : Host.Outcome State Fault Refusal :=
  .next (s.command p .claimSlot fun s =>
    match s.authorised p boom with
    | none => refuse s .denied
    | some b =>
      match s.targetSlot p target with
      | .error c => refuse s c
      | .ok i =>
        match s.entry i with
        | none => refuse s .state
        | some e =>
          if s.rowIs e.row .frozen then refuse s .isProtected
          else if (s.unit b).cycle ≠ .idle then refuse s .state
          else if s.claimable b (claimValidity (s.unit b).dry) e then
            if (s.unit b).dry || s.separated b e then ⟨s.takeClaim b i, .done, some i⟩
            else refuse s .tooClose
          else refuse s .state)

/-- CANCEL_CLAIM (R42). -/
def execCancelClaim (p : Port) (boom : Byte) (s : State) : Host.Outcome State Fault Refusal :=
  .next (s.command p .cancelClaim fun s =>
    match s.authorised p boom with
    | none => refuse s .denied
    | some b =>
      if (s.unit b).cycle ≠ .claimed then refuse s .state
      else
        match s.claimedEntry b with
        | none => refuse s .state
        | some (i, _) =>
          ⟨s.acting fun s =>
            ((s.returnEntry i).modUnit b fun u => { u with claimHeld := false }).setCycle b .idle, .done, some i⟩)

/-! ### Reports -/

/-- A report of the boom's cycle: authority, the cycle state that takes it, and DONE with the work slot (R50). -/
def State.report (s : State) (p : Port) (boom : Byte) (c : CycleState) (f : Boom → State → State) : Taken :=
  match s.authorised p boom with
  | none => refuse s .denied
  | some b =>
    if (s.unit b).cycle ≠ c then refuse s .state
    else ⟨s.acting (f b), .done, (s.unit b).workSlot⟩

/-- The bolt length of a class, mm (spec 00_scope.md, Units). -/
def classLength (c : Nat) : Nat := 1200 + 300 * c

/-- The result part that appears at COLLARED (R51). -/
def newResult (target : Nat) : Result where
  collar := none
  target := target
  drilledDepth := none
  profiledDepth := 0
  extensions := 0
  layers := []
  voidTotal := 0
  incomplete := 0
  saturated := 0
  unreliable := false
  cartPlanned := none
  cartDelivered := none
  spinRevs := none
  peakTorque := none
  finalTorque := none
  turnAfterSeat := none
  verdict := none
  supplementLost := false
  refer := false

/-- The start of drilling (R51, R109). -/
def State.startDrilling (b : Boom) (s : State) : State :=
  let t := s.updateClaimed b fun e =>
    { e with
      holeState := .drilling
      result := some (newResult (classLength e.lengthClass - (s.active b).collarAllowance)) }
  ((t.modUnit b fun u => { u with flushCount := 0 }).setCycle b .drilling).requestStage b .drilling

/-- COLLARED (R51). -/
def execCollared (p : Port) (boom : Byte) (s : State) : Host.Outcome State Fault Refusal :=
  .next (s.command p .collared fun s => s.report p boom .claimed State.startDrilling)

/-- The loss allowance of the cartridge count (R118 step 2). -/
def lossAllowance (r : Result) : Nat :=
  if r.unreliable then 8
  else min 8 (2 * (r.layers.countP fun x => x.cls == .void) +
    r.layers.countP fun x => x.cls == .soft && decide (50 ≤ x.length))

/-- The cartridge count (R118). -/
def cartridgeCount (p : ParamSet) (r : Result) : Nat :=
  let l := r.profiledDepth - p.freeLength
  let n := (l * (8 + lossAllowance r) + (8 * p.cartridgeColumn - 1)) / (8 * p.cartridgeColumn)
  if n = 0 then 1 else n

/-- BIT OUT of a dry run: the count is written where it is within the max cartridges, and the hole is TESTED DRY
(R67). -/
def State.endDryRun (s : State) (b : Boom) (n : Nat) : State :=
  let t :=
    if n ≤ (s.active b).maxCartridges then s.updateResult b fun r => { r with cartPlanned := some n } else s
  t.boomVerdict b .dry .idle

/-- BIT OUT of a hole that is not a dry run: AWAIT_RESIN with the loader request, or UNBONDABLE (R54, R118). -/
def State.beginResin (s : State) (b : Boom) (n : Nat) : State :=
  if n ≤ (s.active b).maxCartridges then
    ((s.updateResult b fun r => { r with cartPlanned := some n, cartDelivered := some 0 }).setCycle b
      .awaitResin).requestLoader b
  else s.boomVerdict b .unbondable .idle

/-- The end of the withdrawal (R54). -/
def State.endWithdrawal (b : Boom) (s : State) : State :=
  match s.claimedEntry b with
  | some (_, e) =>
    match e.result with
    | some r =>
      let n := cartridgeCount (s.active b) r
      if (s.unit b).dry then s.endDryRun b n else s.beginResin b n
    | none => s
  | none => s.setCycle b .idle

/-- BIT_OUT (R54). -/
def execBitOut (p : Port) (boom : Byte) (s : State) : Host.Outcome State Fault Refusal :=
  .next (s.command p .bitOut fun s => s.report p boom .withdrawing State.endWithdrawal)

/-- The start of the spin: BOLTED, the spin revolutions written as 0, SPINNING and its flow request (R56, R134). -/
def State.startSpin (b : Boom) (s : State) : State :=
  ((s.updateClaimed b fun e =>
    { e with holeState := .bolted, result := e.result.map fun r => { r with spinRevs := some 0 } }).setCycle b
      .spinning).requestStage b .spinning

/-- BOLT_IN (R56). -/
def execBoltIn (p : Port) (boom : Byte) (s : State) : Host.Outcome State Fault Refusal :=
  .next (s.command p .boltIn fun s => s.report p boom .awaitBolt State.startSpin)

end Sys2Proof.Machine
end

