-- ==== Sys2Proof/Machine/SuperviseCommands.lean ====
section
/-! DEFINITION. The meanings of the supervisory commands (section 3.4), DRY mode (section 3.5), and the resets (R23,
R24, R43, R68, R130, R148, R168, R176). -/

namespace Sys2Proof.Machine

/-- A supervisory command: Port C only, and a boom argument other than A or B refused STATE, checked first (R61). -/
def State.supervise (s : State) (p : Port) (boom : Byte) (run : Boom → Taken) : Taken :=
  canopyOnly p s (
    match boomOf boom with
    | none => refuse s .state
    | some b => run b)

/-! ### SUSPEND and RESUME -/

/-- The state that SUSPEND stores, in the states that take it (R61). -/
def CycleState.suspendable : CycleState → Option StoredState
  | .drilling => some .drilling
  | .torquing => some .torquing
  | _ => none

/-- A torque stage timer paused with its elapsed time (R61). -/
def TorqueTimer.pause : TorqueTimer → TorqueTimer
  | .running t => .paused t
  | x => x

/-- A paused torque stage timer running on (R63). -/
def TorqueTimer.goOn : TorqueTimer → TorqueTimer
  | .paused t => .running t
  | x => x

/-- The boom suspended (R61); in TORQUING the engine drops its seat run, engagement and slip run (R146). -/
def State.suspendBoom (b : Boom) (x : StoredState) (s : State) : State :=
  let t := (s.modUnit b fun u => { u with stored := some x, torqueTimer := u.torqueTimer.pause }).leaveStage b
    .suspended
  match x with
  | .drilling => t
  | .torquing => t.setEngine b (t.engine b).dropTorqueRun

/-- SUSPEND (R61). -/
def execSuspend (p : Port) (boom : Byte) (s : State) : Host.Outcome State Fault Refusal :=
  .next (s.command p .suspend fun s => s.supervise p boom fun b =>
    match (s.unit b).cycle.suspendable with
    | none => refuse s .state
    | some x => ⟨s.acting (State.suspendBoom b x), .done, (s.unit b).workSlot⟩)

/-- The flow stage of a stored state (R46, R63). -/
def StoredState.flowStage : StoredState → FlowStage
  | .drilling => .drilling
  | .torquing => .torquing

/-- The boom back in its stored state, with its flow request (R63). A torque stage timer that SUSPEND paused runs on from
here even where the request is queued (R59, R63): R151 says that a queued TORQUING boom has no stage timer running, and
the model takes that of a timer that has not started (DEDUCED, notes/assumptions/26.md). -/
def State.resumeBoom (b : Boom) (x : StoredState) (s : State) : State :=
  ((s.modUnit b fun u => { u with stored := none, torqueTimer := u.torqueTimer.goOn }).setCycle b
    x.cycle).requestStage b x.flowStage

/-- RESUME (R63). -/
def execResume (p : Port) (boom : Byte) (s : State) : Host.Outcome State Fault Refusal :=
  .next (s.command p .resume fun s => s.supervise p boom fun b =>
    match (s.unit b).cycle, (s.unit b).stored with
    | .suspended, some x => taken (s.acting (State.resumeBoom b x)) .done
    | _, _ => refuse s .state)

/-! ### ABORT and CLEAR -/

/-- The least depth at which an aborted hole is rejected, mm (R24, R64). -/
def rejectDepth : Nat := 100

/-- ABORT and RESTART return the hole to PLANNED: a dry-run claim, a CLAIMED hole, and a DRILLING hole of a depth
below 100 mm (R24, R64). -/
def Entry.goesBack (e : Entry) (depth : Nat) : Bool :=
  e.validity == .held || e.holeState == .claimed || (e.holeState == .drilling && decide (depth < rejectDepth))

/-- The drilled depth written where the disposition ends drilling (R3). -/
def State.noteDepth (s : State) (b : Boom) (e : Entry) : State :=
  if e.holeState = .drilling then s.writeDrilledDepth b else s

/-- The hole of a boom disposed of at ABORT: flow and loader given up, and the boom HALTED (R64). -/
def State.disposeAbort (s : State) (b : Boom) : State :=
  match s.claimedEntry b with
  | some (i, e) =>
    if e.goesBack (s.engine b).currentDepth then
      (((s.returnEntry i).releaseFlow b).cancelLoader b).setCycle b .halted
    else (s.noteDepth b e).boomVerdict b .aborted .halted
  | none => ((s.releaseFlow b).cancelLoader b).setCycle b .halted

/-- What ABORT clears in the unit (R64); the selections and the DRY flag are kept. -/
def BoomUnit.cleared (u : BoomUnit) : BoomUnit :=
  { u with
    holds := Holds.none
    workSlot := none
    claimHeld := false
    stored := none
    flushCount := 0
    abandonTimer := none
    spinTimer := none
    setTimer := none
    torqueTimer := .notStarted }

/-- ABORT of a boom (R64): the hole disposed of, the unit cleared, and the run of the engine dropped (R99, R115). -/
def State.abortBoom (b : Boom) (s : State) : State :=
  let t := (s.disposeAbort b).modUnit b BoomUnit.cleared
  t.setEngine b (t.engine b).dropRun

/-- The slot that ABORT disposes of (R64). -/
def State.claimedSlot (s : State) (b : Boom) : Option Slot := (s.claimedEntry b).map Prod.fst

/-- ABORT (R64). -/
def execAbort (p : Port) (boom : Byte) (s : State) : Host.Outcome State Fault Refusal :=
  .next (s.command p .abort fun s => s.supervise p boom fun b =>
    if (s.unit b).cycle = .idle ∨ (s.unit b).cycle = .halted then refuse s .state
    else ⟨s.acting (State.abortBoom b), .done, s.claimedSlot b⟩)

/-- CLEAR (R65). -/
def execClear (p : Port) (boom : Byte) (s : State) : Host.Outcome State Fault Refusal :=
  .next (s.command p .clear fun s => s.supervise p boom fun b =>
    if (s.unit b).cycle ≠ .halted then refuse s .state
    else taken (s.acting fun s => s.setCycle b .idle) .done)

/-! ### DRY mode -/

/-- A request for a DRY flag: taken in IDLE; a change resets the lane, and a flag already so changes nothing (R66,
R83). -/
def State.setDry (s : State) (b : Boom) (x : Bool) : Taken :=
  if (s.unit b).cycle ≠ .idle then refuse s .state
  else if (s.unit b).dry = x then taken s .done
  else
    taken (s.acting fun s => (s.modUnit b fun u => { u with dry := x }).setLane b (s.lane b).dryReset) .done

/-- DRY_ON (R66). -/
def execDryOn (p : Port) (boom : Byte) (s : State) : Host.Outcome State Fault Refusal :=
  .next (s.command p .dryOn fun s => s.supervise p boom fun b => s.setDry b true)

/-- DRY_OFF (R66). -/
def execDryOff (p : Port) (boom : Byte) (s : State) : Host.Outcome State Fault Refusal :=
  .next (s.command p .dryOff fun s => s.supervise p boom fun b => s.setDry b false)

/-! ### RESTART -/

/-- The pending sets emptied and the frames in progress dropped, before the dispositions of a RESTART post their
notices (R68, R168, R176). -/
def PortState.restartNotices (q : PortState) : PortState :=
  { q with pending := [], atn := false, frame := q.frame.drop }

/-- A boom's disposition at RESTART (R24). -/
def State.disposeRestart (s : State) (b : Boom) : State :=
  match s.claimedEntry b with
  | some (i, e) =>
    if e.goesBack (s.engine b).currentDepth then s.setEntry i (some e.returned)
    else ((s.noteDepth b e).tableVerdict i .restart).post (.verdict b)
  | none => s

/-- The closing check of the row of a boom's disposed entry (R24). -/
def State.closeDisposed (s before : State) (b : Boom) : State :=
  match before.claimedEntry b with
  | some (_, e) => s.closingCheck e.row
  | none => s

/-- The notices of a boom that RESTART moved: STAGE where its cycle state was not IDLE, and FLOW where its grant was
present (R68, R148). -/
def State.restartPosts (s before : State) (b : Boom) : State :=
  let t := if (before.unit b).cycle = .idle then s else s.post (.stage b)
  if (before.arbiter.grants.get b).isSome then t.post (.flow b) else t

/-- A unit after RESTART: the selections are kept (R43). -/
def BoomUnit.restarted (u : BoomUnit) : BoomUnit :=
  { BoomUnit.initial with activeSet := u.activeSet, pendingSet := u.pendingSet }

/-- A receiver after RESTART: the report mode is kept, and its period timer runs from 0 in AUTO (R69). -/
def Lane.restarted (l : Lane) : Lane :=
  { Lane.initial with
    reportMode := l.reportMode
    reportTimer := if l.reportMode = .auto then some 0 else none }

/-- The loader after RESTART: the magazine is kept, less 1 if it was FIRING, and DIVERT keeps its level (R119,
R130). -/
def Loader.restarted (l : Loader) : Loader :=
  { Loader.initial with
    magazine := if l.state = .firing then l.magazine - 1 else l.magazine
    divert := l.divert }

/-- The arbiter after RESTART: the derate target is kept (R148). -/
def Arbiter.restarted (a : Arbiter) : Arbiter := { Arbiter.initial with derate := a.derate }

/-- A port after RESTART; its notices, masks and edge modes are kept (R25, R168, R176). -/
def PortState.restarted (q : PortState) : PortState :=
  { q with last := ⟨none, .done, none⟩, context := .initial, cursor := none }

/-- RESTART, whole (R24, R68, R176): the dispositions, A before B, with their closing checks and notices, and then the
resets of the blocks. -/
def State.restartPart (s : State) : State :=
  let s0 := s.mapPorts PortState.restartNotices
  let s1 := (s0.disposeRestart .A).disposeRestart .B
  let s2 := (s1.closeDisposed s .A).closeDisposed s .B
  let s3 := (s2.restartPosts s .A).restartPosts s .B
  { s3 with
    units := ⟨(s3.unit .A).restarted, (s3.unit .B).restarted⟩
    lanes := ⟨(s3.lane .A).restarted, (s3.lane .B).restarted⟩
    engines := ⟨.initial, .initial⟩
    loader := s3.loader.restarted
    arbiter := s3.arbiter.restarted
    ports := s3.ports.map PortState.restarted }

/-- RESTART (R68, R176): taken at the rise of chip select on Port C, whose frame it ends. -/
def execRestart (p : Port) (s : State) : Host.Outcome State Fault Refusal :=
  .next (
    if s.frameLost p then s.setFrame p .idle
    else if p = .C then (s.setFrame p .idle).restartPart
    else s.command p .restart fun s => refuse s .denied)

/-! ### Power-on, RESET_N and the supply -/

/-- The values of a power-on or RESET_N, which the model's own items outlast: the input pins, the counters of the free
values and the waiting commands. Frames in progress are dropped (R176). -/
def State.hardReset (s : State) : State :=
  { State.reset with
    ports := ⟨{ PortState.initial with frame := (s.port .A).frame.drop },
      { PortState.initial with frame := (s.port .B).frame.drop },
      { PortState.initial with frame := (s.port .C).frame.drop }⟩
    guardPin := s.guardPin
    supplyUp := s.supplyUp
    resetLow := s.resetLow
    readCount := s.readCount
    tickCount := s.tickCount
    pending := s.pending }

/-- POWER_ON (R176): every block at its power-on values. -/
def execPowerOn (s : State) : Host.Outcome State Fault Refusal :=
  .next { s.hardReset with supplyUp := true }

/-- RESET_N (R176): every block at its RESET_N values; the protection mode stays SHIFT if it was SHIFT (R17). -/
def execResetN (s : State) : Host.Outcome State Fault Refusal :=
  .next { s.hardReset with
    resetLow := true
    protection := if s.protection = .shift then .shift else .opened }

/-- RESET_N_RELEASE (R176): the lines follow their conditions once more. -/
def execResetNRelease (s : State) : Host.Outcome State Fault Refusal :=
  .next ((s.acting fun s => { s with resetLow := false }).refreshAtn)

/-- SUPPLY_LOSS (R43): the permit outputs are held low until the next power-on. -/
def execSupplyLoss (s : State) : Host.Outcome State Fault Refusal :=
  .next (s.acting fun s => { s with supplyUp := false })

end Sys2Proof.Machine
end

