-- ==== Sys2Proof/Machine/StoreCommands.lean ====
section
/-! DEFINITION. The meanings of the Parameter Store's commands (chapter 10) and of DERATE (chapter 9). -/

namespace Sys2Proof.Machine

/-- A boom that is not IDLE has the set as its active set (R161). -/
def State.setInUse (s : State) (n : SetNo) : Bool :=
  ((s.unit .A).cycle != .idle && (s.unit .A).activeSet == n) ||
    ((s.unit .B).cycle != .idle && (s.unit .B).activeSet == n)

/-- One set written, in the order of R160. -/
def State.writeSet (s : State) (n : SetNo) (v : ParamValues) : Taken :=
  if s.setInUse n then refuse s .inUse
  else
    match voidModeOf v.voidMode with
    | none => refuse s .state
    | some m =>
      if (clampValues v m).ordered then
        taken (s.setParams (s.params.put n (clampValues v m))) (doneOr (valuesClamped v m))
      else refuse s .state

/-- Both sets written, in the order of R162. -/
def State.writeBoth (s : State) (v w : ParamValues) : Taken :=
  if s.setInUse .set0 || s.setInUse .set1 then refuse s .inUse
  else
    match voidModeOf v.voidMode, voidModeOf w.voidMode with
    | some m, some k =>
      if (clampValues v m).ordered && (clampValues w k).ordered then
        taken (s.setParams { s.params with set0 := clampValues v m, set1 := clampValues w k })
          (doneOr (valuesClamped v m || valuesClamped w k))
      else refuse s .state
    | _, _ => refuse s .state

/-- WRITE_PARAMETERS (R160, R162). -/
def execWriteParameters (p : Port) (set : Byte) (paired : Bool) (first second : ParamValues) (s : State) :
    Host.Outcome State Fault Refusal :=
  .next (s.command p .writeParameters fun s => canopyOnly p s (
    if paired then s.writeBoth first second
    else
      match setNoOf set with
      | none => refuse s .state
      | some n => s.writeSet n first))

/-- The boom byte that selects both booms (R163, R179). -/
def pairedBoom : Byte := 0x02

/-- A pending selection set (R163). -/
def BoomUnit.select (n : SetNo) (u : BoomUnit) : BoomUnit := { u with pendingSet := n }

/-- SELECT_SET (R163). -/
def execSelectSet (p : Port) (boom set : Byte) (s : State) : Host.Outcome State Fault Refusal :=
  .next (s.command p .selectSet fun s => canopyOnly p s (
    match setNoOf set with
    | none => refuse s .state
    | some n =>
      if boom = pairedBoom then
        taken ((s.modUnit .A (BoomUnit.select n)).modUnit .B (BoomUnit.select n)) .done
      else
        match boomOf boom with
        | some b => taken (s.modUnit b (BoomUnit.select n)) .done
        | none => refuse s .state))

/-- The machine settings of a write, clamped (R164). -/
def clampSettings (separation shift lowMark : Word16) : Settings :=
  ⟨clampTo 0 3000 separation.toNat, clampTo 100 1000 shift.toNat, clampTo 0 40 lowMark.toNat⟩

/-- An action that leaves the booms alone, with the offers of what it changed. -/
def State.announcing (s : State) (f : State → State) : State := (f s).offersSince s

/-- WRITE_MACHINE_SETTINGS (R164): the MAGAZINE_LOW status is worked out again in the same action (R131). -/
def execWriteMachineSettings (p : Port) (separation shift lowMark : Word16) (s : State) :
    Host.Outcome State Fault Refusal :=
  .next (s.command p .writeMachineSettings fun s => canopyOnly p s (
    if (s.unit .A).cycle ≠ .idle ∨ (s.unit .B).cycle ≠ .idle then refuse s .inUse
    else
      let x := clampSettings separation shift lowMark
      taken (s.announcing fun s => s.setParams { s.params with settings := x })
        (doneOr (x != ⟨separation.toNat, shift.toNat, lowMark.toNat⟩))))

/-- The target that a DERATE takes: brought into 60 to 100, and not below the floor (R155). -/
def Arbiter.derateTo (a : Arbiter) (x : Nat) : Nat := max (clampTo 60 100 x) a.floor

/-- DERATE (R155): an argument equal to the present target changes nothing. -/
def execDerate (p : Port) (target : Byte) (s : State) : Host.Outcome State Fault Refusal :=
  .next (s.command p .derate fun s => canopyOnly p s (
    if target.toNat = s.arbiter.derate then taken s .done
    else
      let x := s.arbiter.derateTo target.toNat
      taken (s.acting fun s => (s.setArbiter { s.arbiter with derate := x }).servicePass)
        (doneOr (x != target.toNat))))

end Sys2Proof.Machine
end

