-- ==== Sys2Proof/Machine/LoaderCommands.lean ====
section
/-! DEFINITION. The meanings of the loader's commands, edges and expiries (chapter 7). -/

namespace Sys2Proof.Machine

/-- An event that no port issues: ignored while RESET_N is low or the supply is down (notes/assumptions/6.md), else an
action whole. -/
def State.event (s : State) (f : State → State) : State := if s.isHeld then s else s.acting f

/-! ### Firing -/

/-- A firing that is due: with a cartridge the FIRE pulse, FIRING and the DONE timeout; with none WAIT_MAGAZINE
(R123). -/
def State.fireLoader (s : State) : State :=
  if 0 < s.loader.magazine then
    s.setLoader { s.loader with state := .firing, stageTimer := some 0, fire := true, pulseTimer := some 0 }
  else s.setLoader { s.loader with state := .waitMagazine, stageTimer := none }

/-- SETTLE_EXPIRY (R123). -/
def execSettleExpiry (s : State) : Host.Outcome State Fault Refusal :=
  .next (s.event fun s =>
    if s.loader.state = .diverting ∧ expired settleTime s.loader.stageTimer = true then s.fireLoader else s)

/-- LOADER_GAP_EXPIRY (R125). -/
def execLoaderGapExpiry (s : State) : Host.Outcome State Fault Refusal :=
  .next (s.event fun s =>
    if s.loader.state = .gap ∧ expired loaderGapTime s.loader.stageTimer = true then s.fireLoader else s)

/-- FIRE_PULSE_END (R120): the FIRE line returns low. -/
def execFirePulseEnd (s : State) : Host.Outcome State Fault Refusal :=
  .next (s.event fun s =>
    if expired firePulse s.loader.pulseTimer then s.setLoader { s.loader with fire := false, pulseTimer := none } else s)

/-! ### DONE -/

/-- The magazine with one cartridge gone, not below 0 (R124, R127, R130). -/
def State.spendCartridge (s : State) : State := s.setLoader { s.loader with magazine := s.loader.magazine - 1 }

/-- A delivered cartridge written into the boom's hole; the last planned one takes the hole to RESINED and the boom to
AWAIT_BOLT (R55, R124). -/
def State.deliver (s : State) (g : LoaderGrant) : State :=
  let n := g.delivered + 1
  let t := s.updateResult g.boom fun r => { r with cartDelivered := some n }
  if n = g.planned then
    ((((t.updateClaimed g.boom fun e => { e with holeState := .resined }).endGrant).setCycle g.boom
      .awaitBolt).serveLoader)
  else
    t.setLoader { t.loader with grant := some { g with delivered := n }, state := .gap, stageTimer := some 0 }

/-- DONE in FIRING (R124): a cancelled firing settles without a count (R130). -/
def State.loaderDone (s : State) : State :=
  match s.spendCartridge.loader.grant with
  | some g => if g.cancelled then s.spendCartridge.endGrant.serveLoader else s.spendCartridge.deliver g
  | none => s.spendCartridge.serveLoader

/-- DONE_EDGE (R120, R124). -/
def execDoneEdge (s : State) : Host.Outcome State Fault Refusal :=
  .next (s.event fun s => if s.loader.state = .firing then s.loaderDone else s)

/-! ### Jams -/

/-- A jam in FIRING (R127): a cancelled firing settles, and its grant ends (R130). -/
def State.loaderJam (s : State) : State :=
  let l := s.spendCartridge.loader
  match l.grant with
  | some g =>
    if g.cancelled then s.setLoader { l with state := .jammed, grant := none, stageTimer := none }
    else s.setLoader { l with state := .jammed, grant := some { g with jams := g.jams + 1 }, stageTimer := none }
  | none => s.setLoader { l with state := .jammed, stageTimer := none }

/-- JAM_EDGE (R120, R127). -/
def execJamEdge (s : State) : Host.Outcome State Fault Refusal :=
  .next (s.event fun s => if s.loader.state = .firing then s.loaderJam else s)

/-- DONE_TIMEOUT_EXPIRY (R127). -/
def execDoneTimeoutExpiry (s : State) : Host.Outcome State Fault Refusal :=
  .next (s.event fun s =>
    if s.loader.state = .firing ∧ expired doneTimeout s.loader.stageTimer = true then s.loaderJam else s)

/-- The jam count that rejects the hole at CLEAR JAM (R128). -/
def jamLimit : Nat := 2

/-- The tube cleared in JAMMED, by the grant (R128, R129, R130). -/
def State.clearLoader (s : State) : State :=
  match s.loader.grant with
  | none => s.serveLoader
  | some g =>
    if g.cancelled then s.endGrant.serveLoader
    else if jamLimit ≤ g.jams then (s.endGrant.boomVerdict g.boom .jam .idle).serveLoader
    else s.setLoader { s.loader with state := .gap, stageTimer := some 0 }

/-- CLEAR_JAM (R128). -/
def execClearJam (p : Port) (s : State) : Host.Outcome State Fault Refusal :=
  .next (s.command p .clearJam fun s => canopyOnly p s (
    if s.loader.state = .jammed then taken (s.acting State.clearLoader) .done else refuse s .state))

/-! ### REFILL -/

/-- The most cartridges of the magazine (R119). -/
def magazineTop : Nat := 40

/-- The magazine set; in WAIT_MAGAZINE a count above 0 fires at once (R125, R126). -/
def State.refillTo (n : Nat) (s : State) : State :=
  let t := s.setLoader { s.loader with magazine := n }
  if s.loader.state = .waitMagazine ∧ 0 < n then t.fireLoader else t

/-- REFILL (R125). -/
def execRefill (p : Port) (count : Byte) (s : State) : Host.Outcome State Fault Refusal :=
  .next (s.command p .refill fun s => canopyOnly p s (
    if s.loader.state = .firing then refuse s .busy
    else
      taken (s.announcing (State.refillTo (min magazineTop count.toNat)))
        (doneOr (decide (magazineTop < count.toNat)))))

end Sys2Proof.Machine
end

