-- ==== Sys2Proof/Machine/LaneCommands.lean ====
section
/-! DEFINITION. The meanings of the lane commands and events (chapter 4) and of the stage timers' expiries (chapters 3
and 8). An expiry is met by its timer: one that has stopped, or has not run its time since it last started, has not
expired, and nothing happens (notes/assumptions/7.md). -/

namespace Sys2Proof.Machine

/-! ### Lane events -/

/-- LANE_CHARACTER (R70). -/
def execLaneCharacter (lane : Boom) (char : Byte) (stopGood : Bool) (s : State) : Host.Outcome State Fault Refusal :=
  .next (s.event fun s => s.takeCharacter lane char stopGood)

/-- GAP_TIMER_EXPIRY (R70): the frame is torn, where 1 ms has gone by since its last byte. -/
def execGapTimerExpiry (lane : Boom) (s : State) : Host.Outcome State Fault Refusal :=
  .next (s.event fun s =>
    if expired gapTime (s.lane lane).framer.gap then s.tearFrame lane else s)

/-- LOSS_TIMER_EXPIRY (R78): the lane is lost, where 50 ms have gone by since its last received frame. A frame taken
before the expiry has started the timer again, and the expiry does not happen. -/
def execLossTimerExpiry (lane : Boom) (s : State) : Host.Outcome State Fault Refusal :=
  .next (s.event fun s => if expired lossTime (s.lane lane).lossTimer then s.loseLane lane else s)

/-- The report period timer started again from 0 (R81). -/
def Lane.restartReport (l : Lane) : Lane := { l with reportTimer := some 0 }

/-- REPORT_PERIOD_EXPIRY (R81). -/
def execReportPeriodExpiry (lane : Boom) (s : State) : Host.Outcome State Fault Refusal :=
  .next (s.event fun s =>
    if expired reportPeriod (s.lane lane).reportTimer then
      let t := s.transferCount lane
      t.setLane lane (t.lane lane).restartReport
    else s)

/-! ### Lane commands -/

/-- TAKE_COUNT (R82). -/
def execTakeCount (p : Port) (lane : Byte) (s : State) : Host.Outcome State Fault Refusal :=
  .next (s.command p .takeCount fun s => canopyOnly p s (
    match boomOf lane with
    | none => refuse s .state
    | some b => if (s.lane b).reportMode = .auto then refuse s .state else taken (s.transferCount b) .done))

/-- A taken change of the report mode (R82). -/
def Lane.withMode (l : Lane) (m : ReportMode) : Lane :=
  if l.reportMode = m then l
  else { l with reportMode := m, reportTimer := if m = .auto then some 0 else none }

/-- SET_REPORT_MODE (R82). -/
def execSetReportMode (p : Port) (lane mode : Byte) (s : State) : Host.Outcome State Fault Refusal :=
  .next (s.command p .setReportMode fun s => canopyOnly p s (
    match boomOf lane, reportModeOf mode with
    | some b, some m => taken (s.setLane b ((s.lane b).withMode m)) .done
    | _, _ => refuse s .state))

/-- FEED_SAMPLE (R84): treated as a received frame of the boom's lane, without a CRC check. -/
def execFeedSample (p : Port) (boom seq : Byte) (position thrust speed torque : Word16) (flags : Byte) (s : State) :
    Host.Outcome State Fault Refusal :=
  .next (s.command p .feedSample fun s => canopyOnly p s (
    match boomOf boom with
    | none => refuse s .state
    | some b =>
      if (s.unit b).dry then
        let x : RawSample := ⟨seq, position.toNat, thrust.toNat, speed.toNat, torque.toNat, flags⟩
        taken (s.acting fun s => s.admitSample b x) (doneOr (decide (0 < x.clampCount)))
      else refuse s .state))

/-! ### Stage timers -/

/-- LANE_ABANDON_EXPIRY (R47, R53): REJECTED LANE_LOST, or the end of a dry run's drilling (R67). -/
def execLaneAbandonExpiry (boom : Boom) (s : State) : Host.Outcome State Fault Refusal :=
  .next (s.event fun s =>
    if (s.unit boom).cycle = .drilling ∧ expired (s.active boom).laneAbandon (s.unit boom).abandonTimer = true then
      s.rejectDrilling boom .laneLost
    else s)

/-- SPIN_MAX_EXPIRY (R57). -/
def execSpinMaxExpiry (boom : Boom) (s : State) : Host.Outcome State Fault Refusal :=
  .next (s.event fun s =>
    if (s.unit boom).cycle = .spinning ∧ expired (s.active boom).spinMax (s.unit boom).spinTimer = true then
      s.boomVerdict boom .spinShort .idle
    else s)

/-- SET_TIMER_EXPIRY (R58). -/
def execSetTimerExpiry (boom : Boom) (s : State) : Host.Outcome State Fault Refusal :=
  .next (s.event fun s =>
    if (s.unit boom).cycle = .setting ∧ expired (s.active boom).setTime (s.unit boom).setTimer = true then
      s.enterTorquing boom
    else s)

/-- TORQUE_STAGE_EXPIRY (R59, R144): TORQUE_LOW of a seated bolt, NO_SEAT otherwise. -/
def execTorqueStageExpiry (boom : Boom) (s : State) : Host.Outcome State Fault Refusal :=
  .next (s.event fun s =>
    if (s.unit boom).cycle = .torquing ∧
        expired (s.active boom).torqueStage (s.unit boom).torqueTimer.elapsed = true then
      s.boomVerdict boom (if (s.engine boom).seated then .torqueLow else .noSeat) .idle
    else s)

end Sys2Proof.Machine
end

