-- ==== Sys2Proof/Machine/Timebase.lean ====
section
/-! DEFINITION. The Timebase: what a 1 ms tick does to the timers, and the expiries that it brings. The command table
has no row for a tick; it is what a step does when no command waits (notes/assumptions/1.md). -/

namespace Sys2Proof.Machine

/-! ### One tick -/

/-- A timer one tick on, where it runs. -/
def tickTimer (t : Option Nat) : Option Nat := t.map (· + 1)

/-- The gap timer of a framer one tick on (R70). -/
def Framer.tick : Framer → Framer
  | .hunting => .hunting
  | .inFrame held t => .inFrame held (t + 1)

/-- The torque stage timer one tick on; paused it stands (R59). -/
def TorqueTimer.tick : TorqueTimer → TorqueTimer
  | .running t => .running (t + 1)
  | x => x

/-- The timers of a unit one tick on (R43). -/
def BoomUnit.tick (u : BoomUnit) : BoomUnit :=
  { u with
    abandonTimer := tickTimer u.abandonTimer
    spinTimer := tickTimer u.spinTimer
    setTimer := tickTimer u.setTimer
    torqueTimer := u.torqueTimer.tick }

/-- The timers of a receiver one tick on (R69). -/
def Lane.tick (l : Lane) : Lane :=
  { l with
    framer := l.framer.tick
    lossTimer := tickTimer l.lossTimer
    reportTimer := tickTimer l.reportTimer }

/-- The timers of the loader one tick on (R119, R120). -/
def Loader.tick (l : Loader) : Loader :=
  { l with stageTimer := tickTimer l.stageTimer, pulseTimer := tickTimer l.pulseTimer }

/-- An event, where its timer has expired. -/
def dueIf (x : Bool) (i : Instr) : List Instr := if x then [i] else []

/-- The expiries of a lane. -/
def Lane.due (l : Lane) (b : Boom) : List Instr :=
  dueIf (expired gapTime l.framer.gap) (.gapTimerExpiry b) ++
  dueIf (expired lossTime l.lossTimer) (.lossTimerExpiry b) ++
  dueIf (expired reportPeriod l.reportTimer) (.reportPeriodExpiry b)

/-- The expiries of a unit, by the times of its active set. -/
def BoomUnit.due (u : BoomUnit) (p : ParamSet) (b : Boom) : List Instr :=
  dueIf (expired p.laneAbandon u.abandonTimer) (.laneAbandonExpiry b) ++
  dueIf (expired p.spinMax u.spinTimer) (.spinMaxExpiry b) ++
  dueIf (expired p.setTime u.setTimer) (.setTimerExpiry b) ++
  dueIf (expired p.torqueStage u.torqueTimer.elapsed) (.torqueStageExpiry b)

/-- The expiries of the loader, its stage timer read by its state (R119). -/
def Loader.due (l : Loader) : List Instr :=
  (match l.state with
    | .diverting => dueIf (expired settleTime l.stageTimer) .settleExpiry
    | .firing => dueIf (expired doneTimeout l.stageTimer) .doneTimeoutExpiry
    | .gap => dueIf (expired loaderGapTime l.stageTimer) .loaderGapExpiry
    | _ => []) ++
  dueIf (expired firePulse l.pulseTimer) .firePulseEnd

/-- Every expiry of the state. -/
def State.due (s : State) : List Instr :=
  (s.lane .A).due .A ++ (s.lane .B).due .B ++ (s.unit .A).due (s.active .A) .A ++
    (s.unit .B).due (s.active .B) .B ++ s.loader.due

/-- The expiries of one tick in some order: each after the first is put at a place that Config leaves free. -/
def anyOrder (tick : Nat) (l : List Instr) : List Instr :=
  l.foldl (fun acc i =>
    match acc with
    | [] => [i]
    | _ :: _ => acc.insertIdx (Config.expiryPlace tick acc.length % (acc.length + 1)) i) []

/-- The timers one tick on, and the GUARD input at its new level. -/
def State.advance (s : State) : State :=
  { s with
    lanes := ⟨(s.lane .A).tick, (s.lane .B).tick⟩
    units := ⟨(s.unit .A).tick, (s.unit .B).tick⟩
    loader := s.loader.tick
    guardPin := Config.guardLevel s.tickCount
    tickCount := s.tickCount + 1 }

/-- A tick: the timers advance, and the expiries it brings wait as commands. A part that is held stands still. -/
def State.tick (s : State) : State :=
  if s.isHeld then s
  else { s.advance with pending := s.advance.pending ++ anyOrder s.tickCount s.advance.due }

end Sys2Proof.Machine
end

