-- ==== Sys2Proof/Machine/Dispatch.lean ====
section
/-! DEFINITION. The dispatch: one arm for each command or event of the part, each calling its meaning. -/

namespace Sys2Proof.Machine

/-- The effect of a command or event on everything but the queue of waiting commands. -/
def exec (i : Instr) (s : State) : Host.Outcome State Fault Refusal :=
  match i with
  | .powerOn => Sys2Proof.Machine.execPowerOn s
  | .resetN => Sys2Proof.Machine.execResetN s
  | .frameStart p => Sys2Proof.Machine.execFrameStart p s
  | .unknown p command => Sys2Proof.Machine.execUnknown p command s
  | .torn p bytes => Sys2Proof.Machine.execTorn p bytes s
  | .readEffects p clocked => Sys2Proof.Machine.execReadEffects p clocked s
  | .lastResult p => Sys2Proof.Machine.execLastResult p s
  | .readStatus p => Sys2Proof.Machine.execReadStatus p s
  | .notices p => Sys2Proof.Machine.execNotices p s
  | .configureNotices p mask permit void lane loader magazineLow => Sys2Proof.Machine.execConfigureNotices p mask permit void lane loader magazineLow s
  | .readNoticeSettings p => Sys2Proof.Machine.execReadNoticeSettings p s
  | .search p scope row position reach holeState origin claimant mask => Sys2Proof.Machine.execSearch p scope row position reach holeState origin claimant mask s
  | .readMatches p => Sys2Proof.Machine.execReadMatches p s
  | .readEntry p target segment => Sys2Proof.Machine.execReadEntry p target segment s
  | .readNext p => Sys2Proof.Machine.execReadNext p s
  | .readParameters p selector => Sys2Proof.Machine.execReadParameters p selector s
  | .claimNext p => Sys2Proof.Machine.execClaimNext p s
  | .claimSlot p boom target => Sys2Proof.Machine.execClaimSlot p boom target s
  | .cancelClaim p boom => Sys2Proof.Machine.execCancelClaim p boom s
  | .collared p boom => Sys2Proof.Machine.execCollared p boom s
  | .bitOut p boom => Sys2Proof.Machine.execBitOut p boom s
  | .boltIn p boom => Sys2Proof.Machine.execBoltIn p boom s
  | .openRow p row => Sys2Proof.Machine.execOpenRow p row s
  | .planHole p row position reach offset lengthClass priority => Sys2Proof.Machine.execPlanHole p row position reach offset lengthClass priority s
  | .endPlan p row => Sys2Proof.Machine.execEndPlan p row s
  | .freezeRow p row => Sys2Proof.Machine.execFreezeRow p row s
  | .thawRow p row => Sys2Proof.Machine.execThawRow p row s
  | .releaseRow p row => Sys2Proof.Machine.execReleaseRow p row s
  | .setProtection p mode => Sys2Proof.Machine.execSetProtection p mode s
  | .erase p slot => Sys2Proof.Machine.execErase p slot s
  | .setValidity p target validity => Sys2Proof.Machine.execSetValidity p target validity s
  | .cancelSupplements p row => Sys2Proof.Machine.execCancelSupplements p row s
  | .suspend p boom => Sys2Proof.Machine.execSuspend p boom s
  | .resume p boom => Sys2Proof.Machine.execResume p boom s
  | .abort p boom => Sys2Proof.Machine.execAbort p boom s
  | .clear p boom => Sys2Proof.Machine.execClear p boom s
  | .dryOn p boom => Sys2Proof.Machine.execDryOn p boom s
  | .dryOff p boom => Sys2Proof.Machine.execDryOff p boom s
  | .restart p => Sys2Proof.Machine.execRestart p s
  | .writeParameters p set paired first second => Sys2Proof.Machine.execWriteParameters p set paired first second s
  | .selectSet p boom set => Sys2Proof.Machine.execSelectSet p boom set s
  | .writeMachineSettings p separation shift lowMark => Sys2Proof.Machine.execWriteMachineSettings p separation shift lowMark s
  | .refill p count => Sys2Proof.Machine.execRefill p count s
  | .clearJam p => Sys2Proof.Machine.execClearJam p s
  | .derate p target => Sys2Proof.Machine.execDerate p target s
  | .takeCount p lane => Sys2Proof.Machine.execTakeCount p lane s
  | .setReportMode p lane mode => Sys2Proof.Machine.execSetReportMode p lane mode s
  | .feedSample p boom seq position thrust speed torque flags => Sys2Proof.Machine.execFeedSample p boom seq position thrust speed torque flags s
  | .laneCharacter lane char stopGood => Sys2Proof.Machine.execLaneCharacter lane char stopGood s
  | .gapTimerExpiry lane => Sys2Proof.Machine.execGapTimerExpiry lane s
  | .lossTimerExpiry lane => Sys2Proof.Machine.execLossTimerExpiry lane s
  | .reportPeriodExpiry lane => Sys2Proof.Machine.execReportPeriodExpiry lane s
  | .laneAbandonExpiry boom => Sys2Proof.Machine.execLaneAbandonExpiry boom s
  | .spinMaxExpiry boom => Sys2Proof.Machine.execSpinMaxExpiry boom s
  | .setTimerExpiry boom => Sys2Proof.Machine.execSetTimerExpiry boom s
  | .torqueStageExpiry boom => Sys2Proof.Machine.execTorqueStageExpiry boom s
  | .settleExpiry => Sys2Proof.Machine.execSettleExpiry s
  | .loaderGapExpiry => Sys2Proof.Machine.execLoaderGapExpiry s
  | .doneEdge => Sys2Proof.Machine.execDoneEdge s
  | .jamEdge => Sys2Proof.Machine.execJamEdge s
  | .doneTimeoutExpiry => Sys2Proof.Machine.execDoneTimeoutExpiry s
  | .supplyLoss => Sys2Proof.Machine.execSupplyLoss s
  | .resetNRelease => Sys2Proof.Machine.execResetNRelease s
  | .firePulseEnd => Sys2Proof.Machine.execFirePulseEnd s

end Sys2Proof.Machine
end

