-- ==== Sys2Proof/Safety.lean ====
section
/-! DEFINITION. What the statements about the part speak of: the ports that take frames, who may issue a command, what
a refused or taken command leaves, and the invariants that the spec's prose gives the part. -/

namespace Sys2Proof

/-! ### Authority (R173) -/

/-- The port and command of a command that only Port C may issue (the last rows of the table of R173). -/
def Instr.canopyCommand : Instr → Option (Port × CommandName)
  | .openRow p _ => some (p, .openRow)
  | .planHole p _ _ _ _ _ _ => some (p, .planHole)
  | .endPlan p _ => some (p, .endPlan)
  | .freezeRow p _ => some (p, .freezeRow)
  | .thawRow p _ => some (p, .thawRow)
  | .releaseRow p _ => some (p, .releaseRow)
  | .setProtection p _ => some (p, .setProtection)
  | .erase p _ => some (p, .erase)
  | .setValidity p _ _ => some (p, .setValidity)
  | .cancelSupplements p _ => some (p, .cancelSupplements)
  | .suspend p _ => some (p, .suspend)
  | .resume p _ => some (p, .resume)
  | .abort p _ => some (p, .abort)
  | .clear p _ => some (p, .clear)
  | .dryOn p _ => some (p, .dryOn)
  | .dryOff p _ => some (p, .dryOff)
  | .restart p => some (p, .restart)
  | .writeParameters p _ _ _ _ => some (p, .writeParameters)
  | .selectSet p _ _ => some (p, .selectSet)
  | .writeMachineSettings p _ _ _ => some (p, .writeMachineSettings)
  | .refill p _ => some (p, .refill)
  | .clearJam p => some (p, .clearJam)
  | .derate p _ => some (p, .derate)
  | .takeCount p _ => some (p, .takeCount)
  | .setReportMode p _ _ => some (p, .setReportMode)
  | .feedSample p _ _ _ _ _ _ _ => some (p, .feedSample)
  | .powerOn | .resetN | .frameStart _ | .unknown _ _ | .torn _ _ | .readEffects _ _ => none
  | .lastResult _ | .readStatus _ | .notices _ | .configureNotices _ _ _ _ _ _ _ | .readNoticeSettings _ => none
  | .search _ _ _ _ _ _ _ _ _ | .readMatches _ | .readEntry _ _ _ | .readNext _ | .readParameters _ _ => none
  | .claimNext _ | .claimSlot _ _ _ | .cancelClaim _ _ | .collared _ _ | .bitOut _ _ | .boltIn _ _ => none
  | .laneCharacter _ _ _ | .gapTimerExpiry _ | .lossTimerExpiry _ | .reportPeriodExpiry _ => none
  | .laneAbandonExpiry _ | .spinMaxExpiry _ | .setTimerExpiry _ | .torqueStageExpiry _ => none
  | .settleExpiry | .loaderGapExpiry | .doneEdge | .jamEdge | .doneTimeoutExpiry => none
  | .supplyLoss | .resetNRelease | .firePulseEnd => none

/-- The port, boom byte and command of a claim or cycle command that names a boom on Port C (R173). -/
def Instr.boomCommand : Instr → Option (Port × Byte × CommandName)
  | .claimSlot p b _ => some (p, b, .claimSlot)
  | .cancelClaim p b => some (p, b, .cancelClaim)
  | .collared p b => some (p, b, .collared)
  | .bitOut p b => some (p, b, .bitOut)
  | .boltIn p b => some (p, b, .boltIn)
  | _ => none

/-- The boom of Port A and Port B (R173). -/
def Port.boom : Port → Option Boom
  | .A => some .A
  | .B => some .B
  | .C => none

end Sys2Proof

namespace Sys2Proof.Machine

/-! ### Ports and answers -/

/-- The port takes the frame that is ending: the part is not held, and no reset dropped the frame (R172, R176). -/
def State.Takes (s : State) (p : Port) : Prop := s.frameLost p = false

/-- The port's frame ended, and this answer in its last-result record: nothing else of the part is different (R172,
R174). -/
def State.answered (s : State) (p : Port) (n : CommandName) (c : Code) (slot : Option Slot) : State :=
  s.setPort p { s.port p with frame := .idle, last := ⟨some n.code, c, slot⟩ }

/-- A command with a reply settled on the port: its reply and held-back effect stand in the port's frame, and its
answer in the last-result record. `k` is its number of argument bytes (R171, R172, R174). -/
def State.replied (s : State) (p : Port) (n : CommandName) (k : Nat) (c : Code) (bytes : List Byte)
    (effect : ReadEffect) : State :=
  { s.setPort p { s.port p with
      frame := .reply (s.port p).frameStatus k bytes effect
      last := ⟨some n.code, c, none⟩ } with
    readCount := s.readCount + 1 }

/-- The command ends the port's frame with this answer and changes nothing else. -/
def Answers (i : Instr) (s : State) (p : Port) (n : CommandName) (c : Code) : Prop :=
  exec i s = .next (s.answered p n c none)

/-- The notice is pending at every port. -/
def State.Posted (t : State) (n : NoticePair) : Prop := ∀ q, n ∈ (t.port q).pending

/-- No port lost a pending pair, and none gained a pair outside the list. -/
def State.NoticesWithin (s t : State) (l : List NoticePair) : Prop :=
  ∀ q, (∀ n ∈ (s.port q).pending, n ∈ (t.port q).pending) ∧
    ∀ n ∈ (t.port q).pending, n ∈ (s.port q).pending ∨ n ∈ l

/-- Every port keeps its masks, edge modes, match context and read cursor, and every port but `p` its last-result
record. -/
def State.PortsKept (s t : State) (p : Option Port) : Prop :=
  ∀ q, (t.port q).masks = (s.port q).masks ∧ (t.port q).edges = (s.port q).edges ∧
    (t.port q).context = (s.port q).context ∧ (t.port q).cursor = (s.port q).cursor ∧
    (p ≠ some q → (t.port q).last = (s.port q).last)

/-- Every port keeps its masks, edge modes, read cursor and last-result record, and its match context where that is not
of scope EMPTY: a supplement that is written leaves the contexts of scope EMPTY (R29). -/
def State.PortsBeside (s t : State) : Prop :=
  ∀ q, (t.port q).masks = (s.port q).masks ∧ (t.port q).edges = (s.port q).edges ∧
    (t.port q).cursor = (s.port q).cursor ∧ (t.port q).last = (s.port q).last ∧
    ((s.port q).context.scope ≠ .empty → (t.port q).context = (s.port q).context)

/-- The input pins, the model's own counters and the waiting commands are as they were. -/
def State.OwnKept (s t : State) : Prop :=
  t.guardPin = s.guardPin ∧ t.supplyUp = s.supplyUp ∧ t.resetLow = s.resetLow ∧ t.readCount = s.readCount ∧
    t.tickCount = s.tickCount ∧ t.pending = s.pending

/-- The whole Hole Table is as it was: slots, rows, backlog and protection mode. -/
def State.TableKept (s t : State) : Prop :=
  t.slots = s.slots ∧ t.rows = s.rows ∧ t.backlog = s.backlog ∧ t.protection = s.protection

/-- The identity of a boom's work is as it was: all of its unit but the hold set, the timers and the lines, which
follow their conditions. -/
def BoomUnit.SameWork (u v : BoomUnit) : Prop :=
  v.cycle = u.cycle ∧ v.workSlot = u.workSlot ∧ v.claimHeld = u.claimHeld ∧ v.stored = u.stored ∧
    v.flushCount = u.flushCount ∧ v.activeSet = u.activeSet ∧ v.pendingSet = u.pendingSet ∧ v.dry = u.dry

/-- The stage timers of a unit that has come from `u` to `v` in one action, its hold set now that of `v` (R47, R56 to
R59, R62): a timer that was running keeps its elapsed time while its stage lasts, and one that had not started starts
from 0 where its condition holds now. -/
structure BoomUnit.TimersRunOn (u v : BoomUnit) : Prop where
  abandon : u.cycle = .drilling → v.holds.lane = true → v.abandonTimer = some (u.abandonTimer.getD 0)
  spin : u.cycle = .spinning → ∀ n, u.spinTimer = some n → v.spinTimer = some n
  spinStarts : u.cycle = .spinning → u.spinTimer = none → v.spinTimer = if v.holds.present then none else some 0
  set : u.cycle = .setting → v.setTimer = u.setTimer
  torque : u.cycle = .torquing → u.torqueTimer ≠ .notStarted → v.torqueTimer = u.torqueTimer
  torqueStarts : u.cycle = .torquing → u.torqueTimer = .notStarted →
    v.torqueTimer = if v.holds.present then .notStarted else .running 0
  paused : u.cycle = .suspended → v.torqueTimer = u.torqueTimer

/-! ### Issuing -/

/-- Port `p` may issue a claim or cycle command for boom `b`: Port A and Port B for their own boom while it is not in
DRY mode, and Port C for the boom that it names while that is in DRY mode (R173). -/
def State.MayIssue (s : State) (p : Port) (boom : Byte) (b : Boom) : Prop :=
  (p = .A ∧ b = .A ∧ (s.unit b).dry = false) ∨ (p = .B ∧ b = .B ∧ (s.unit b).dry = false) ∨
    (p = .C ∧ boom = boomCode b ∧ (s.unit b).dry = true)

/-! ### The booms -/

/-- What the unit of boom `b` holds follows its conditions at every moment: the hold set (R45 to R48), the permit lines
(R43, R49), the stage timers (R47, R56, R58, R59), and in a held torque stage the dropped runs (R137). -/
structure State.BoomFollows (s : State) (b : Boom) : Prop where
  flow : (s.unit b).holds.flow = ((s.unit b).cycle.holdable && s.arbiter.queue.any fun r => r.boom == b)
  lane : (s.unit b).holds.lane = ((s.unit b).cycle.holdable && !s.laneInStep b)
  flush : (s.unit b).holds.flush = ((s.unit b).cycle == .drilling && (s.unit b).flushCount == 10)
  feed : (s.unit b).feed =
    ((s.unit b).cycle == .drilling && !(s.unit b).holds.present && !(s.unit b).dry && !s.isHeld)
  turn : (s.unit b).turn =
    ((s.unit b).cycle.holdable && !(s.unit b).holds.present && !(s.unit b).dry && !s.isHeld)
  abandon : (s.unit b).abandonTimer.isSome = ((s.unit b).cycle == .drilling && (s.unit b).holds.lane)
  spin : (s.unit b).cycle ≠ .spinning → (s.unit b).spinTimer = none
  spinRuns : (s.unit b).cycle = .spinning → (s.unit b).holds.present = false → (s.unit b).spinTimer.isSome = true
  set : (s.unit b).cycle ≠ .setting → (s.unit b).setTimer = none
  torque : (s.unit b).cycle ≠ .torquing → (s.unit b).cycle ≠ .suspended → (s.unit b).torqueTimer = .notStarted
  torqueRuns : (s.unit b).cycle = .torquing → (s.unit b).holds.present = false → (s.unit b).torqueTimer ≠ .notStarted
  runs : (s.unit b).cycle = .torquing → (s.unit b).holds.present = true →
    (s.engine b).seatRun = 0 ∧ (s.engine b).engaged = false ∧ (s.engine b).slipRun = 0

/-- Both booms follow their conditions. -/
def State.Followed (s : State) : Prop := ∀ b, s.BoomFollows b

/-! ### The Hole Table -/

/-- The states in which an entry names a claimant (R2, R4). -/
def HoleState.isClaimed : HoleState → Bool
  | .claimed | .drilling | .drilled | .resined | .bolted => true
  | .planned | .accepted | .rejected | .tested => false

/-- The number of entries of a row in one hole state. -/
def State.countIn (s : State) (id : Byte) (h : HoleState) : Nat :=
  (s.slotsOfRow id).countP fun i => match s.entry i with
    | some e => e.holeState == h
    | none => false

/-- Rows and entries agree (R7): at most 4 records, no id twice, every entry's row present, and the counts of a record
the numbers of the row's entries, of its ACCEPTED and of its REJECTED ones. -/
structure State.RowsAgree (s : State) : Prop where
  size : s.rows.length ≤ 4
  distinct : (s.rows.map RowRecord.id).Nodup
  present : ∀ i e, s.entry i = some e → ∃ r ∈ s.rows, r.id = e.row
  counted : ∀ r ∈ s.rows, r.entries = (s.slotsOfRow r.id).length ∧ r.accepted = s.countIn r.id .accepted ∧
    r.rejected = s.countIn r.id .rejected

/-- Claims and entries agree (R4, R12, R21, R60): an entry names a claimant in the claimed states only and that
claimant's unit holds the claim on it; a boom that holds a claim has its entry and is neither IDLE nor HALTED; a row
that is not OPEN has only settled entries; the parents in the backlog are ACCEPTED or REJECTED entries of OPEN rows,
and no slot is in it twice. -/
structure State.ClaimsAgree (s : State) : Prop where
  rows : (s.rows.map RowRecord.id).Nodup
  present : ∀ i e, s.entry i = some e → ∃ r ∈ s.rows, r.id = e.row
  named : ∀ i e, s.entry i = some e → (e.claimant.isSome = e.holeState.isClaimed)
  held : ∀ i e b, s.entry i = some e → e.claimant = some b → (s.unit b).claimHeld = true ∧ (s.unit b).workSlot = some i
  working : ∀ b, (s.unit b).claimHeld = true →
    (s.unit b).cycle ≠ .idle ∧ (s.unit b).cycle ≠ .halted ∧
      ∃ i e, (s.unit b).workSlot = some i ∧ s.entry i = some e ∧ e.claimant = some b
  settled : ∀ r ∈ s.rows, r.state ≠ .opened → ∀ i e, s.entry i = some e → e.row = r.id → e.settled = true
  parents : ∀ i ∈ s.backlog, ∃ e r, s.entry i = some e ∧ (e.holeState = .accepted ∨ e.holeState = .rejected) ∧
    r ∈ s.rows ∧ r.id = e.row ∧ r.state = .opened
  once : s.backlog.Nodup

/-- The holes that both booms have claimed in one row are the min separation apart, but where one of the claims is a
dry run (R36). -/
def State.ClaimsApart (s : State) : Prop :=
  ∀ i j e f, s.entry i = some e → s.entry j = some f → e.claimant = some .A → f.claimant = some .B →
    e.row = f.row → e.validity ≠ .held → f.validity ≠ .held →
    s.params.settings.separation ≤ e.offset - f.offset ∨ s.params.settings.separation ≤ f.offset - e.offset

/-- The layers, the profiled depth and the void total of a hole agree (R3, R106, R108): the layers run from depth 0
without a gap, at most 8 of them, in steps of 10 mm, up to the profiled depth, and the void total is the length of the
VOID ones. -/
structure Result.LayersAgree (r : Result) : Prop where
  size : r.layers.length ≤ 8
  run : ∀ k, ∀ x ∈ r.layers[k]?, x.start = ((r.layers.take k).map Layer.length).sum ∧ 0 < x.length ∧ 10 ∣ x.length
  sum : r.profiledDepth = (r.layers.map Layer.length).sum
  voids : r.voidTotal = ((r.layers.filter fun x => x.cls == .void).map Layer.length).sum

/-- Every profile in the table is one that agrees with itself. -/
def State.ProfilesAgree (s : State) : Prop := ∀ i e r, s.entry i = some e → e.result = some r → r.LayersAgree

/-! ### Flow and loader -/

/-- The cycle state that a flow stage belongs to (R46). -/
def FlowStage.cycle : FlowStage → CycleState
  | .drilling => .drilling
  | .spinning => .spinning
  | .torquing => .torquing

/-- Flow and loader belong to the booms that are in their stages (R121, R148): a grant or a waiting request is one of
R46 for the boom's own stage, a boom has one or the other and is not in DRY mode; the drilling order lists the DRILLING
grants; a boom in the loader's queue is in AWAIT_RESIN, and the boom of a grant that is not cancelled is LOADING. -/
structure State.StagesAgree (s : State) : Prop where
  grant : ∀ b g, s.arbiter.grants.get b = some g →
    (s.unit b).cycle = g.stage.cycle ∧ (s.unit b).dry = false ∧ (∀ r ∈ s.arbiter.queue, r.boom ≠ b) ∧
      g.demand = (FlowRequest.ofStage b g.stage).demand ∧ g.minimum = (FlowRequest.ofStage b g.stage).minimum ∧
      g.minimum ≤ g.amount ∧ g.amount ≤ g.demand ∧ g.degraded = decide (g.amount < g.demand)
  waiting : ∀ r ∈ s.arbiter.queue, r = FlowRequest.ofStage r.boom r.stage ∧ (s.unit r.boom).cycle = r.stage.cycle ∧
    (s.unit r.boom).dry = false
  queueOnce : (s.arbiter.queue.map FlowRequest.boom).Nodup
  order : ∀ b, b ∈ s.arbiter.order ↔ ∃ g, s.arbiter.grants.get b = some g ∧ g.stage = .drilling
  orderOnce : s.arbiter.order.Nodup
  derate : 60 ≤ s.arbiter.derate ∧ s.arbiter.derate ≤ 100
  sum : s.arbiter.total ≤ s.arbiter.capacity
  resin : ∀ b ∈ s.loader.queue, (s.unit b).cycle = .awaitResin
  resinOnce : s.loader.queue.Nodup
  loading : ∀ g, s.loader.grant = some g → g.cancelled = false → (s.unit g.boom).cycle = .loading

/-! ### Parameters and notices -/

/-- A stored set meets its ranges and its ordering (R158). -/
structure ParamSet.Sound (x : ParamSet) : Prop where
  shift : x.productShift ≤ 7
  thresholds : x.tVoid < x.tMedium ∧ x.tMedium < x.tHard ∧ x.tHard ≤ 65535
  voidLimit : x.voidLimit ≤ 500
  zone : 300 ≤ x.zone ∧ x.zone ≤ 1200
  competent : x.competent ≤ x.zone
  extensions : x.maxExtensions ≤ 2
  allowance : x.collarAllowance ≤ 200 ∧ 10 ∣ x.collarAllowance
  freeLength : x.freeLength ≤ 600
  column : 200 ≤ x.cartridgeColumn ∧ x.cartridgeColumn ≤ 1200
  cartridges : 1 ≤ x.maxCartridges ∧ x.maxCartridges ≤ 6
  spin : 5 ≤ x.spinRevs ∧ x.spinRevs ≤ 60 ∧ 2000 ≤ x.spinMax ∧ x.spinMax ≤ 30000
  set : x.setTime ≤ 60000
  torque : 20 ≤ x.seatTorque ∧ x.seatTorque ≤ 400 ∧ 50 ≤ x.targetTorque ∧ x.targetTorque ≤ 600 ∧ 60 ≤ x.maxTorque ∧
    x.maxTorque ≤ 800
  torqueOrder : x.seatTorque < x.targetTorque ∧ x.targetTorque < x.maxTorque
  turn : 900 ≤ x.maxTurn ∧ x.maxTurn ≤ 14400
  stage : 2000 ≤ x.torqueStage ∧ x.torqueStage ≤ 60000
  incomplete : x.incompleteLimit ≤ 255
  abandon : 500 ≤ x.laneAbandon ∧ x.laneAbandon ≤ 30000

/-- Every stored figure meets its range and its ordering (R158). -/
structure State.StoreSound (s : State) : Prop where
  set0 : s.params.set0.Sound
  set1 : s.params.set1.Sound
  separation : s.params.settings.separation ≤ 3000
  shift : 100 ≤ s.params.settings.shift ∧ s.params.settings.shift ≤ 1000
  lowMark : s.params.settings.lowMark ≤ 40

/-- The pending set of a port is in reply order, so it holds no pair twice, and the attention line is asserted exactly
while RESET_N is high and the set holds an unmasked pair (R168, R169). -/
structure State.PortNotices (s : State) (p : Port) : Prop where
  sorted : ((s.port p).pending.map NoticePair.rank).Pairwise (· < ·)
  atn : (s.port p).atn = true ↔ s.resetLow = false ∧ ∃ n ∈ (s.port p).pending, (s.port p).masks.getLsbD n.kind = false

/-- The notices of every port. -/
def State.NoticesSound (s : State) : Prop := ∀ p, s.PortNotices p

/-- Every match context has its members in ascending order, and a best match that is one of them (R25 to R29). -/
def State.ContextsOrdered (s : State) : Prop :=
  ∀ p, (s.port p).context.members.Pairwise (· < ·) ∧
    ∀ i, (s.port p).context.best = some i → i ∈ (s.port p).context.members

/-- The bounds of the counts that the part keeps: the backlog (R21), the magazine (R124), the fault counters (R80), the
flush counts (R48), the accumulator and the counts of an engine (R85), and its sums, runs and peak (R133). A seat run of
3 seats the bolt, so a bolt that is not seated has less (R138). -/
structure State.CountsBounded (s : State) : Prop where
  backlog : s.backlog.length ≤ 8
  magazine : s.loader.magazine ≤ 40
  faults : ∀ b, (s.lane b).faults ≤ 65535 ∧ (s.lane b).reportValue ≤ 65535
  window : ∀ b, (s.lane b).windowCount < 64 ∧ (s.lane b).windowTally ≤ 255
  flush : ∀ b, (s.unit b).flushCount ≤ 10
  engine : ∀ b, (s.engine b).accumulator ≤ 16777215 ∧ (s.engine b).incomplete ≤ 255 ∧ (s.engine b).saturated ≤ 255
  sums : ∀ b, (s.engine b).revolutionSum ≤ 1048575 ∧ (s.engine b).turnSum ≤ 1048575
  seat : ∀ b, (s.engine b).seatRun ≤ 3 ∧ ((s.engine b).seated = false → (s.engine b).seatRun ≤ 2)
  slip : ∀ b, (s.engine b).slipRun ≤ 3
  peak : ∀ b x, (s.engine b).peak = some x → x ≤ 800

/-- Every invariant of the part together. -/
structure State.Sound (s : State) : Prop where
  followed : s.Followed
  rows : s.RowsAgree
  claims : s.ClaimsAgree
  apart : s.ClaimsApart
  profiles : s.ProfilesAgree
  stages : s.StagesAgree
  store : s.StoreSound
  notices : s.NoticesSound
  contexts : s.ContextsOrdered
  counts : s.CountsBounded

/-! ### Eligibility and verdicts -/

/-- Boom `b` may drill a hole of this reach (R2). -/
def Reach.Lets (r : Reach) (b : Boom) : Prop :=
  r = .either ∨ (r = .a ∧ b = .A) ∨ (r = .b ∧ b = .B)

/-- The entry passes the separation check for boom `b` (R36). -/
def State.PassesSeparation (s : State) (b : Boom) (e : Entry) : Prop :=
  ∀ i f, s.entry i = some f → (s.unit b.other).claimHeld = true → (s.unit b.other).workSlot = some i →
    f.row = e.row → f.validity ≠ .held →
    s.params.settings.separation ≤ e.offset - f.offset ∨ s.params.settings.separation ≤ f.offset - e.offset

/-- The entry in slot `i` is eligible for CLAIM NEXT of boom `b`, in the row at place `k` of the Row Table (R37). -/
def State.EligibleAt (s : State) (b : Boom) (k : Nat) (i : Slot) (e : Entry) : Prop :=
  s.entry i = some e ∧ e.validity = .live ∧ e.holeState = .planned ∧
    (∃ r, s.rows[k]? = some r ∧ r.id = e.row ∧ r.state = .opened) ∧ e.reach.Lets b ∧ s.PassesSeparation b e

/-- What a claim of boom `b` on the entry `e` in slot `i` leaves, beside the port's answer (R35): the entry CLAIMED by
the boom, the boom CLAIMED with its pending selection active, the engine cleared, the fall of a VOID status offered, and
STAGE posted. -/
def State.claimTaken (s : State) (b : Boom) (i : Slot) (e : Entry) : State :=
  ((((s.setEntry i (some { e with holeState := .claimed, claimant := some b })).setUnit b
    { s.unit b with
      cycle := .claimed, workSlot := some i, claimHeld := true, activeSet := (s.unit b).pendingSet }).setEngine b
    Engine.initial).offerChange (.void b) (s.engine b).voidState false).post (.stage b)

/-- The result part at COLLARED (R51): the target, zeros, and nothing else written. -/
def collarResult (target : Nat) : Result :=
  ⟨none, target, none, 0, 0, [], 0, 0, 0, false, none, none, none, none, none, none, none, false, false⟩

/-- What a verdict of boom `b`'s hole in slot `i` leaves, beside the boom's engine and the ports' answers (R5, R60): the
table's own verdict, the unit without its claim in cycle state `next`, the flow released, the notices, and the lanes, the
parameters and the protection mode as they were. The loader and the other boom go on with what they do, but where the
boom had a place at the loader. -/
structure VerdictGiven (s t : State) (b : Boom) (i : Slot) (v : VerdictReason) (next : CycleState) : Prop where
  slots : t.slots = (s.tableVerdict i v).slots
  rows : t.rows = (s.tableVerdict i v).rows
  backlog : t.backlog = (s.tableVerdict i v).backlog
  unit : t.unit b = { s.unit b with
    cycle := next, claimHeld := false, workSlot := if next = .withdrawing then (s.unit b).workSlot else none,
    holds := ⟨false, false, false⟩, abandonTimer := none, spinTimer := none, setTimer := none,
    torqueTimer := .notStarted, feed := false, turn := false }
  arbiter : t.arbiter = (s.releaseFlow b).arbiter
  beside : s.StagesAgree → (s.unit b).cycle ≠ .loading → (s.unit b).cycle ≠ .awaitResin →
    t.loader = s.loader ∧ (s.unit b.other).SameWork (t.unit b.other) ∧
      (s.unit b.other).TimersRunOn (t.unit b.other)
  otherEngine : s.Followed → t.engine b.other = s.engine b.other
  verdict : t.Posted (.verdict b)
  stage : t.Posted (.stage b)
  followed : t.Followed
  lanes : t.lanes = s.lanes
  params : t.params = s.params
  protection : t.protection = s.protection
  ports : s.PortsBeside t
  within : s.NoticesWithin t
    [.verdict b, .stage .A, .stage .B, .flow .A, .flow .B, .permit .A, .permit .B, .table, .row, .loader]
  own : s.OwnKept t

/-! ### Samples and the loader's queue -/

/-- The sequence check of an admitted frame finds a gap: outside SILENT and LOST, a number that is not one more than
the last, which wraps from 255 to 0 (R72, R76). -/
def Lane.Gap (l : Lane) (seq : Byte) : Prop :=
  l.health ≠ .silent ∧ l.health ≠ .lost ∧ ∃ n, l.lastSeq = some n ∧ seq ≠ n + 1

/-- The advance check of an admitted frame finds a fault: outside SILENT and LOST, a clamped position more than 40 mm
past the last (R74, R76). -/
def Lane.FarAdvance (l : Lane) (position : Nat) : Prop :=
  l.health ≠ .silent ∧ l.health ≠ .lost ∧ ∃ n, l.lastPosition = some n ∧ n + 40 < min 4095 position

/-- The number of faults of an admitted frame: one for a sequence gap, one for each field above its range, and one for a
far advance (R72 to R74, R80). -/
def RawSample.FaultsAt (x : RawSample) (l : Lane) (n : Nat) : Prop :=
  ∃ gap far : Nat, (l.Gap x.seq → gap = 1) ∧ (¬ l.Gap x.seq → gap = 0) ∧ (l.FarAdvance x.position → far = 1) ∧
    (¬ l.FarAdvance x.position → far = 0) ∧
    n = gap + ([decide (4095 < x.position), decide (1000 < x.thrust), decide (1200 < x.speed),
      decide (800 < x.torque)].filter id).length + far

/-- What an admitted frame of these fields leaves in the receiver of lane `b` of a boom that is DRY or not, and in the
blocks that its sample reaches (R72 to R78, R80). The first frame out of SILENT or LOST opens a fresh window. The
sample's fields reach the engine clamped, and the mark of a sequence gap goes before it (R73, R75). What the engine makes
of the sample, `State.engineSample`, stands in the boom's unit and engine but for what follows the hold set then: the
timers and lines, and in a held torque stage the dropped runs (R137). -/
structure Admitted (s t : State) (b : Boom) (x : RawSample) : Prop where
  faults : ∃ n, x.FaultsAt (s.lane b) n ∧
    (t.lane b).faults = min 65535 ((s.lane b).faults + n) ∧
    ((s.lane b).faults < 65535 → 65535 ≤ (s.lane b).faults + n → t.Posted (.countOver b)) ∧
    ∀ count tally, (count, tally) = (if (s.lane b).health = .silent ∨ (s.lane b).health = .lost then (0, 0)
        else ((s.lane b).windowCount, (s.lane b).windowTally)) →
      (count < 63 → (t.lane b).windowCount = count + 1 ∧ (t.lane b).windowTally = min 255 (tally + n) ∧
        (t.lane b).health = if (s.lane b).health = .silent ∨ (s.lane b).health = .lost then .outOfStep
          else (s.lane b).health) ∧
      (63 ≤ count → (t.lane b).windowCount = 0 ∧ (t.lane b).windowTally = 0 ∧
        (t.lane b).health = if min 255 (tally + n) ≤ 6 then .inStep else .outOfStep)
  sequence : (t.lane b).lastSeq = some x.seq
  position : (t.lane b).lastPosition = some (min 4095 x.position)
  loss : (t.lane b).lossTimer = if (s.unit b).dry then none else some 0
  framer : (t.lane b).framer = (s.lane b).framer
  report : (t.lane b).reportValue = (s.lane b).reportValue ∧ (t.lane b).reportMode = (s.lane b).reportMode ∧
    (t.lane b).reportTimer = (s.lane b).reportTimer
  other : t.lane b.other = s.lane b.other
  reached : ∀ v u, ((s.lane b).Gap x.seq → (s.unit b).cycle = .drilling →
        v = s.setEngine b { s.engine b with openIncomplete := true }) →
      (¬ (s.lane b).Gap x.seq ∨ (s.unit b).cycle ≠ .drilling → v = s) →
      u = v.engineSample b ⟨x.seq, min 4095 x.position, min 1000 x.thrust, min 1200 x.speed, min 800 x.torque,
        x.flags.getLsbD 0⟩ →
    t.slots = u.slots ∧ t.rows = u.rows ∧ t.backlog = u.backlog ∧ t.arbiter = u.arbiter ∧ t.loader = u.loader ∧
      t.unit b = { u.unit b with
        holds := (t.unit b).holds, flushCount := (t.unit b).flushCount, abandonTimer := (t.unit b).abandonTimer
        spinTimer := (t.unit b).spinTimer, setTimer := (t.unit b).setTimer, torqueTimer := (t.unit b).torqueTimer
        feed := (t.unit b).feed, turn := (t.unit b).turn } ∧
      (u.unit b).TimersRunOn (t.unit b) ∧
      ((u.unit b).cycle ≠ .drilling → (t.unit b).flushCount = (u.unit b).flushCount) ∧
      t.engine b = if (u.unit b).cycle = .torquing ∧ (t.unit b).holds.present = true then
        { u.engine b with seatRun := 0, engaged := false, slipRun := 0 } else u.engine b
  flush : (s.unit b).cycle = .drilling → (t.unit b).cycle = .drilling →
    (t.unit b).flushCount = if x.flags.getLsbD 0 then 0 else min 10 ((s.unit b).flushCount + 1)
  followed : t.Followed
  otherBoom : s.Followed → s.StagesAgree → t.engine b.other = s.engine b.other ∧
    (s.unit b.other).SameWork (t.unit b.other) ∧ (s.unit b.other).TimersRunOn (t.unit b.other)
  ports : s.PortsBeside t
  within : s.NoticesWithin t
    [.countOver b, .lane b, .permit .A, .permit .B, .stage .A, .stage .B, .flow .A, .flow .B, .extend b, .void b,
      .verdict b, .loader, .row, .table]
  kept : t.params = s.params ∧ t.protection = s.protection ∧ s.OwnKept t

/-- What a discard fault leaves (R70, R71, R77, R80, R95): HUNTING, one fault more, the tally of an open health window,
COUNT_OVER at 65535, and the open increment of a DRILLING boom marked incomplete. -/
structure Discarded (s t : State) (b : Boom) : Prop where
  lane : t.lane b = { s.lane b with
    framer := .hunting
    faults := min 65535 ((s.lane b).faults + 1)
    windowTally := if (s.lane b).health.fresh then (s.lane b).windowTally
      else min 255 ((s.lane b).windowTally + 1) }
  other : t.lane b.other = s.lane b.other
  engine : t.engine b =
    if (s.unit b).cycle = .drilling then { s.engine b with openIncomplete := true } else s.engine b
  otherEngine : t.engine b.other = s.engine b.other
  counted : (s.lane b).faults = 65534 → t.Posted (.countOver b)
  quiet : (s.lane b).faults ≠ 65534 → t.ports = s.ports
  within : s.NoticesWithin t [.countOver b]
  ports : s.PortsKept t none
  rest : t = { s with lanes := t.lanes, engines := t.engines, ports := t.ports }

/-! ### Drilling runs -/

/-- The run that a sample finds: the engine of boom `b`, and the class and result part of its hole (R86). -/
def State.runOf (s : State) (b : Boom) (e : Entry) (r : Result) : DrillRun where
  engine := s.engine b
  lengthClass := e.lengthClass
  result := r
  voidChanges := []
  overVoid := false

/-- The end of a run at the target: no window is left, and no window came before the next one (R110). -/
def DrillRun.runEnded (d : DrillRun) : DrillRun :=
  { d with engine := { d.engine with window := [], heldWindow := none, previousOpen := false } }

/-- An engine with its run dropped: the open increment with its work and marks, and the windows (R99, R115). That the
index of the dropped increment stays, with a work of 0 and clear marks, is the model's choice
(notes/assumptions/29.md). -/
def Engine.RunDropped (g h : Engine) : Prop :=
  h = { g with accumulator := 0, openIncomplete := false, openSaturated := false, window := [], heldWindow := none }

/-! ### Dispositions of RESTART -/

/-- Boom `b`'s disposition at RESTART takes the table from `u` to `v`, judged on the part `s` that RESTART found (R24): a
hole that goes back to PLANNED, or the verdict RESTART with its drilled depth and supplement. -/
structure State.Disposes (s u v : State) (b : Boom) : Prop where
  unclaimed : (s.unit b).claimHeld = false → v = u
  back : ∀ i e, (s.unit b).claimHeld = true → (s.unit b).workSlot = some i → s.entry i = some e →
    (e.validity = .held ∨ e.holeState = .claimed ∨ (e.holeState = .drilling ∧ (s.engine b).currentDepth < 100)) →
    v = u.setEntry i (some { e with holeState := .planned, claimant := none, result := none })
  verdict : ∀ i e, (s.unit b).claimHeld = true → (s.unit b).workSlot = some i → s.entry i = some e →
    e.validity ≠ .held → e.holeState ≠ .claimed →
    (e.holeState = .drilling → 100 ≤ (s.engine b).currentDepth) →
    v = (u.setEntry i (some { e with result := e.result.map fun r =>
      if e.holeState = .drilling then { r with drilledDepth := some (s.engine b).currentDepth } else r })).tableVerdict i
      .restart

/-- The closing check of the row of the hole that boom `b` had claimed, where it had one (R24). -/
def State.closedFor (u s : State) (b : Boom) : State :=
  match s.claimedEntry b with
  | some (_, e) => u.closingCheck e.row
  | none => u

/-! ### Record segments (section 13.3) -/

/-- Segment 0 of a record: the plan part. -/
structure Entry.PlanPart (e : Entry) (i : Slot) (bytes : List Byte) : Prop where
  slot : argAt bytes 0 = BitVec.ofNat 8 i.val
  validity : argAt bytes 1 = e.validity.byte
  holeState : argAt bytes 2 = e.holeState.byte
  claimant : argAt bytes 3 = match e.claimant with
    | some .A => 0x00
    | some .B => 0x01
    | none => 0xFF
  row : argAt bytes 4 = e.row
  position : argAt bytes 5 = BitVec.ofNat 8 e.position
  reach : argAt bytes 6 = e.reach.byte
  offset : wordAt bytes 7 = BitVec.ofNat 16 e.offset
  lengthClass : argAt bytes 9 = BitVec.ofNat 8 e.lengthClass
  priority : argAt bytes 10 = BitVec.ofNat 8 e.priority
  origin : argAt bytes 11 = e.origin.byte
  parent : argAt bytes 12 = match e.parent with
    | some j => BitVec.ofNat 8 j.val
    | none => 0xFF
  generation : argAt bytes 13 = BitVec.ofNat 8 e.generation
  drained : (argAt bytes 14).getLsbD 0 = e.drained
  marks : ∀ r, e.result = some r →
    (argAt bytes 14).getLsbD 1 = r.supplementLost ∧ (argAt bytes 14).getLsbD 2 = r.refer ∧
      argAt bytes 15 = match r.verdict with
        | some v => v.byte
        | none => 0xFF
  unmarked : e.result = none →
    (argAt bytes 14).getLsbD 1 = false ∧ (argAt bytes 14).getLsbD 2 = false ∧ argAt bytes 15 = 0xFF

/-- Segment 1 of a record: the result part. -/
structure Entry.ResultPart (e : Entry) (bytes : List Byte) : Prop where
  absent : e.result = none → (argAt bytes 0).getLsbD 0 = false ∧ ∀ k : Fin 15, argAt bytes (k.val + 1) = 0xFF
  flags : ∀ r, e.result = some r → (argAt bytes 0).getLsbD 0 = true ∧ (argAt bytes 0).getLsbD 1 = r.unreliable ∧
    (argAt bytes 0).extractLsb' 2 2 = BitVec.ofNat 2 r.extensions ∧
    (argAt bytes 0).getLsbD 4 = r.collar.isSome ∧ (argAt bytes 0).getLsbD 5 = r.drilledDepth.isSome
  depths : ∀ r, e.result = some r →
    (∀ x, r.collar = some x → (wordAt bytes 1).extractLsb' 4 12 = BitVec.ofNat 12 x) ∧
    (∀ x, r.drilledDepth = some x → (wordAt bytes 2).extractLsb' 0 12 = BitVec.ofNat 12 x)
  tenths : ∀ r, e.result = some r → argAt bytes 4 = BitVec.ofNat 8 (r.target / 10) ∧
    argAt bytes 5 = BitVec.ofNat 8 (r.profiledDepth / 10) ∧ argAt bytes 6 = BitVec.ofNat 8 (r.voidTotal / 10)
  counts : ∀ r, e.result = some r →
    argAt bytes 7 = BitVec.ofNat 8 r.incomplete ∧ argAt bytes 8 = BitVec.ofNat 8 r.saturated
  cartridges : ∀ r, e.result = some r → (argAt bytes 9).extractLsb' 4 4 = BitVec.ofNat 4 (r.cartPlanned.getD 0) ∧
    (argAt bytes 9).extractLsb' 0 4 = BitVec.ofNat 4 (r.cartDelivered.getD 15)
  bolt : ∀ r, e.result = some r → argAt bytes 10 = BitVec.ofNat 8 (r.spinRevs.getD 255) ∧
    (wordAt bytes 11).extractLsb' 6 10 = BitVec.ofNat 10 (r.peakTorque.getD 1023) ∧
    (wordAt bytes 12).extractLsb' 0 10 = BitVec.ofNat 10 (r.finalTorque.getD 1023) ∧
    wordAt bytes 14 = BitVec.ofNat 16 (r.turnAfterSeat.getD 65535)

/-- Segment `n` of 2 and up: its two layers, FFh in the place of a layer that there is not, and filler. -/
structure Entry.LayerPart (e : Entry) (n : Nat) (bytes : List Byte) : Prop where
  layer : ∀ r (k : Fin 2) x, e.result = some r → r.layers[2 * (n - 2) + k.val]? = some x →
    wordAt bytes (5 * k.val) = BitVec.ofNat 16 x.start ∧ wordAt bytes (5 * k.val + 2) = BitVec.ofNat 16 x.length ∧
      (argAt bytes (5 * k.val + 4)).extractLsb' 0 2 = x.cls.byte.extractLsb' 0 2 ∧
      (argAt bytes (5 * k.val + 4)).getLsbD 7 = x.merged
  empty : ∀ r (k : Fin 2) (m : Fin 5), e.result = some r → r.layers[2 * (n - 2) + k.val]? = none →
    argAt bytes (5 * k.val + m.val) = 0xFF
  filler : ∀ m : Fin 6, argAt bytes (10 + m.val) = 0x00

/-- The 16 bytes are segment `n` of the entry's record. -/
structure Entry.SegmentHolds (e : Entry) (i : Slot) (n : Nat) (bytes : List Byte) : Prop where
  size : bytes.length = 16
  plan : n = 0 → e.PlanPart i bytes
  result : n = 1 → e.ResultPart bytes
  layers : 2 ≤ n → e.LayerPart n bytes

/-! ### The loader's queue -/

/-- The loader that has served its queue from `l`: IDLE where no boom waits, else DIVERTING for the oldest (R122). -/
def State.loaderServed (s : State) (l : Loader) : Loader :=
  match l.queue with
  | [] => { l with state := .idle, grant := none, stageTimer := none }
  | c :: rest =>
    { l with
      state := .diverting, grant := some ⟨c, s.plannedFor c, 0, 0, false⟩, divert := c, queue := rest,
      stageTimer := some 0 }

end Sys2Proof.Machine
end

