-- ==== Sys2Proof/WellFormed.lean ====
section
/-! DEFINITION. The well-formed commands: the operands that a frame or an event of the part can have. -/

namespace Sys2Proof

/-- A boom byte that the port's frame does not carry stands as 0 (R178). -/
def boomByteOk (p : Port) (b : Byte) : Bool :=
  match p with
  | .C => true
  | _ => b == 0

/-- The operands are ones that the row's event can have: an UNKNOWN frame has a command byte that names no command,
a TORN frame ends before its arguments are complete (R172), a claim or cycle command on Port A or Port B has no boom
byte (R178), and an unpaired write carries one block of values (R179). -/
def Instr.wf : Instr → Bool
  | .unknown _ c => (CommandName.ofByte c).isNone
  | .torn p bytes => frameTorn p bytes
  | .claimSlot p b _ => boomByteOk p b
  | .cancelClaim p b => boomByteOk p b
  | .collared p b => boomByteOk p b
  | .bitOut p b => boomByteOk p b
  | .boltIn p b => boomByteOk p b
  | .writeParameters _ _ paired _ second => paired || second == noValues
  | _ => true

end Sys2Proof
end

