-- ==== Sys2Proof/Certificates/Slice0/Obligations.lean ====
section
/-! DEFINITION. The statements about the part, for the provers. Each docstring names what the statement formalises, and
where a clause rests on a choice of the model, the log entry that makes it. -/

open Sys2Proof Sys2Proof.Machine

/-! ### Steps and frames -/

/-- A step runs the command at the front of the queue on the state with the queue's rest. -/
def Obligations.StepRunsFrontCommand : Prop :=
  ∀ (c : Instr) (rest : List Instr) (s : State),
    step { s with pending := c :: rest } = exec c { s with pending := rest }

/-- A step on an empty queue is one Timebase tick (the model's choice, notes/assumptions/1.md): every running timer
counts 1 ms, a gap timer with the bytes of its frame held, and exactly the timers that have then run their time bring
their expiries, each once, in some order (log entry 5). Nothing else moves but the model's own count of ticks, and the
GUARD level, which is free at each tick (notes/assumptions/4.md). A part that is held stands still (log entry 1). -/
def Obligations.IdleStepTicksTimers : Prop :=
  ∀ s : State, s.pending = [] →
    (s.isHeld = true → step s = .next s) ∧
    (s.isHeld = false → ∃ t, step s = .next t ∧
      (∀ b, (t.unit b).abandonTimer = (s.unit b).abandonTimer.map (· + 1) ∧
        (t.unit b).spinTimer = (s.unit b).spinTimer.map (· + 1) ∧
        (t.unit b).setTimer = (s.unit b).setTimer.map (· + 1) ∧
        (∀ n, (s.unit b).torqueTimer = .running n → (t.unit b).torqueTimer = .running (n + 1)) ∧
        ((∀ n, (s.unit b).torqueTimer ≠ .running n) → (t.unit b).torqueTimer = (s.unit b).torqueTimer) ∧
        (t.lane b).lossTimer = (s.lane b).lossTimer.map (· + 1) ∧
        (t.lane b).reportTimer = (s.lane b).reportTimer.map (· + 1) ∧
        ((s.lane b).framer = .hunting → (t.lane b).framer = .hunting) ∧
        (∀ held n, (s.lane b).framer = .inFrame held n → (t.lane b).framer = .inFrame held (n + 1)) ∧
        t.unit b = { s.unit b with
          abandonTimer := (t.unit b).abandonTimer, spinTimer := (t.unit b).spinTimer
          setTimer := (t.unit b).setTimer, torqueTimer := (t.unit b).torqueTimer } ∧
        t.lane b = { s.lane b with
          framer := (t.lane b).framer, lossTimer := (t.lane b).lossTimer
          reportTimer := (t.lane b).reportTimer }) ∧
      t.loader = { s.loader with stageTimer := t.loader.stageTimer, pulseTimer := t.loader.pulseTimer } ∧
      t = { s with
        units := t.units, lanes := t.lanes, loader := t.loader, guardPin := t.guardPin
        tickCount := s.tickCount + 1, pending := t.pending } ∧
      t.loader.stageTimer = s.loader.stageTimer.map (· + 1) ∧
      t.loader.pulseTimer = s.loader.pulseTimer.map (· + 1) ∧
      t.pending.Nodup ∧
      (∀ b,
        (.gapTimerExpiry b ∈ t.pending ↔ ∃ held n, (s.lane b).framer = .inFrame held n) ∧
        (.lossTimerExpiry b ∈ t.pending ↔ ∃ n, (s.lane b).lossTimer = some n ∧ 50 ≤ n + 1) ∧
        (.reportPeriodExpiry b ∈ t.pending ↔ ∃ n, (s.lane b).reportTimer = some n ∧ 1000 ≤ n + 1) ∧
        (.laneAbandonExpiry b ∈ t.pending ↔
          ∃ n, (s.unit b).abandonTimer = some n ∧ (s.active b).laneAbandon ≤ n + 1) ∧
        (.spinMaxExpiry b ∈ t.pending ↔ ∃ n, (s.unit b).spinTimer = some n ∧ (s.active b).spinMax ≤ n + 1) ∧
        (.setTimerExpiry b ∈ t.pending ↔ ∃ n, (s.unit b).setTimer = some n ∧ (s.active b).setTime ≤ n + 1) ∧
        (.torqueStageExpiry b ∈ t.pending ↔
          ∃ n, (s.unit b).torqueTimer = .running n ∧ (s.active b).torqueStage ≤ n + 1)) ∧
      (.settleExpiry ∈ t.pending ↔
        s.loader.state = .diverting ∧ ∃ n, s.loader.stageTimer = some n ∧ 300 ≤ n + 1) ∧
      (.doneTimeoutExpiry ∈ t.pending ↔
        s.loader.state = .firing ∧ ∃ n, s.loader.stageTimer = some n ∧ 3000 ≤ n + 1) ∧
      (.loaderGapExpiry ∈ t.pending ↔ s.loader.state = .gap ∧ ∃ n, s.loader.stageTimer = some n ∧ 200 ≤ n + 1) ∧
      (.firePulseEnd ∈ t.pending ↔ ∃ n, s.loader.pulseTimer = some n ∧ 20 ≤ n + 1) ∧
      s.TableKept t ∧ t.engines = s.engines ∧ t.ports = s.ports ∧ t.arbiter = s.arbiter ∧ t.params = s.params)

/-- The frame that carries a well-formed command is read as that command, with every operand at every value. -/
def Obligations.FramesRoundTrip : Prop :=
  ∀ (i : Instr) (p : Port) (bytes : List Byte),
    i.wf = true → encodeFrame i = some (p, bytes) → decodeFrame p bytes = i

/-- A frame that ends before its arguments are complete is torn, whatever its command: it changes nothing but the
port's last-result record. A command byte that names no command is UNKNOWN, however many bytes follow it. A frame
without a whole command byte keeps the record. Bytes after the arguments are not looked at. -/
def Obligations.ShortUnknownAndLongFrames : Prop :=
  ∀ (p : Port) (c : Byte) (args extra : List Byte) (s : State), s.Takes p →
    (∀ n, CommandName.ofByte c = some n → args.length < n.argCount p args →
      decodeFrame p (c :: args) = .torn p (c :: args) ∧ exec (.torn p (c :: args)) s =
        .next (s.setPort p { s.port p with frame := .idle, last := ⟨some c, .torn, none⟩ })) ∧
    (CommandName.ofByte c = none →
      decodeFrame p (c :: args) = .unknown p c ∧ exec (.unknown p c) s =
        .next (s.setPort p { s.port p with frame := .idle, last := ⟨some c, .unknown, none⟩ })) ∧
    decodeFrame p [] = .torn p [] ∧ exec (.torn p []) s = .next (s.setPort p { s.port p with frame := .idle }) ∧
    (∀ n, CommandName.ofByte c = some n → n.argCount p args ≤ args.length →
      decodeFrame p (c :: args ++ extra) = decodeFrame p (c :: args))

/-! ### Resets -/

/-- The part after reset, in the values that the chapters give for power-on: an empty table, both booms IDLE on set 0,
silent lanes in AUTO, cleared engines, an empty magazine with DIVERT toward A, a derate target of 100, ports with an
empty match context of scope LIVE, every notice kind masked and every edge mode RISE, and the default figures of R158.
It meets every invariant of the part. Four things here are the model's own: that the supply is up, RESET_N is high, no
frame is in progress, and the queue and the model's counters are empty and 0 (notes/assumptions/21.md), and that GUARD
is not asserted (notes/assumptions/4.md). -/
def Obligations.ResetValues : Prop :=
  State.reset.Sound ∧
  (∀ i, State.reset.entry i = none) ∧ State.reset.rows = [] ∧ State.reset.backlog = [] ∧
  State.reset.protection = .opened ∧
  (∀ b, State.reset.unit b = {
      cycle := .idle, holds := ⟨false, false, false⟩, workSlot := none, claimHeld := false, stored := none
      flushCount := 0, abandonTimer := none, spinTimer := none, setTimer := none, torqueTimer := .notStarted
      feed := false, turn := false, activeSet := .set0, pendingSet := .set0, dry := false } ∧
    State.reset.lane b = {
      health := .silent, framer := .hunting, lastSeq := none, lastPosition := none, windowCount := 0, windowTally := 0
      lossTimer := none, faults := 0, reportValue := 0, reportMode := .auto, reportTimer := some 0 } ∧
    State.reset.engine b = {
      collar := none, reference := none, currentDepth := 0, frontDepth := 0, openIncrement := 0, accumulator := 0
      openIncomplete := false, openSaturated := false, heldClass := none, incomplete := 0, saturated := 0
      unreliable := false, windowBase := 0, window := [], heldWindow := none, previousOpen := false
      voidState := false, weakAnchor := false, revolutionSum := 0, seatRun := 0, seated := false, turnSum := 0
      engaged := false, slipRun := 0, peak := none }) ∧
  State.reset.loader = {
    state := .idle, grant := none, queue := [], magazine := 0, stageTimer := none, divert := .A, fire := false
    pulseTimer := none } ∧
  State.reset.arbiter = { derate := 100, grants := ⟨none, none⟩, order := [], queue := [] } ∧
  (∀ p, State.reset.port p = PortState.initial) ∧
  PortState.initial = {
    last := ⟨none, .done, none⟩, context := ⟨.live, [], none⟩, cursor := none, pending := [], masks := 0x1FFF#13
    edges := ⟨.rise, .rise, .rise, .rise, .rise⟩, atn := false, frame := .idle } ∧
  State.reset.params.settings = ⟨600, 300, 6⟩ ∧
  State.reset.params.set0 =
    ⟨2, 150, 1200, 4000, .two, 250, 600, 300, 1, 100, 150, 600, 4, 25, 12000, 15000, 150, 270, 340, 7200, 20000, 20,
      5000⟩ ∧
  State.reset.params.set1 =
    ⟨2, 150, 1400, 4000, .one, 250, 600, 300, 1, 100, 150, 600, 4, 25, 12000, 15000, 150, 270, 340, 7200, 20000, 20,
      5000⟩ ∧
  State.reset.guardPin = false ∧ State.reset.supplyUp = true ∧ State.reset.resetLow = false ∧
  State.reset.readCount = 0 ∧ State.reset.tickCount = 0 ∧ State.reset.pending = []

/-- Power-on and RESET_N put every block at its reset values from any state and drop the frames in progress; RESET_N
leaves a protection mode of SHIFT and keeps the lines down while it is low. A loss of the supply lowers the permit
lines, and the end of RESET_N lets the lines follow their conditions once more. Three things here are the model's own:
that a loss of the supply changes nothing but the permit lines (notes/assumptions/6.md), that the waiting commands and
the model's counters outlast a reset (notes/assumptions/21.md), and that the GUARD level does
(notes/assumptions/4.md). -/
def Obligations.ResetsAndSupply : Prop :=
  ∀ s : State,
    (∃ t, exec .powerOn s = .next t ∧ t.supplyUp = true ∧ t.resetLow = s.resetLow ∧ t.protection = .opened ∧
      (∀ p, t.port p = { PortState.initial with
        frame := if (s.port p).frame = .idle then .idle else .dropped }) ∧
      t = { State.reset with
        ports := t.ports, guardPin := s.guardPin, resetLow := s.resetLow,
        readCount := s.readCount, tickCount := s.tickCount, pending := s.pending }) ∧
    (∃ t, exec .resetN s = .next t ∧
      (∀ p, t.port p = { PortState.initial with
        frame := if (s.port p).frame = .idle then .idle else .dropped }) ∧
      t = { State.reset with
        ports := t.ports, guardPin := s.guardPin, resetLow := true, supplyUp := s.supplyUp,
        readCount := s.readCount, tickCount := s.tickCount, pending := s.pending,
        protection := if s.protection = .shift then .shift else .opened }) ∧
    (s.Followed → ∃ t, exec .supplyLoss s = .next t ∧
      (∀ b, t.unit b = { s.unit b with feed := false, turn := false }) ∧
      s.PortsKept t none ∧ s.NoticesWithin t [.permit .A, .permit .B] ∧
      t = { s with supplyUp := false, units := t.units, ports := t.ports }) ∧
    (s.Followed → ∃ t, exec .resetNRelease s = .next t ∧ t.Followed ∧
      (∀ b, t.unit b = { s.unit b with feed := (t.unit b).feed, turn := (t.unit b).turn }) ∧
      (∀ p, (t.port p).atn = true ↔
        ∃ n ∈ (t.port p).pending, (t.port p).masks.getLsbD n.kind = false) ∧
      s.PortsKept t none ∧ s.NoticesWithin t [.permit .A, .permit .B] ∧
      t = { s with resetLow := false, units := t.units, ports := t.ports })

/-- What RESTART does with the hole that a boom has claimed (R24): a dry run, a CLAIMED hole and a DRILLING hole of
less than 100 mm go back to PLANNED; any other is REJECTED with the reason RESTART. The dispositions are made A before
B, each with its row counts, supplement and backlog, and after them the closing check of each row. That the drilled
depth of a rejected DRILLING hole is written is read from R3 (notes/assumptions/14.md). A frame in progress on Port A or
Port B is dropped, and an idle port stays idle (R172). -/
def Obligations.RestartDisposesAndResets : Prop :=
  ∀ s : State, s.Takes .C → s.ClaimsAgree → ∃ t, exec (.restart .C) s = .next t ∧
    (∀ b i e, s.entry i = some e → e.claimant = some b →
      (e.validity = .held ∨ e.holeState = .claimed ∨ (e.holeState = .drilling ∧ (s.engine b).currentDepth < 100) →
        t.entry i = some { e with holeState := .planned, claimant := none, result := none }) ∧
      (e.validity ≠ .held → e.holeState ≠ .claimed →
        (e.holeState = .drilling → 100 ≤ (s.engine b).currentDepth) →
        (∃ r, t.entry i = some { e with holeState := .rejected, claimant := none, result := r } ∧
          ∀ x, e.result = some x → ∃ y, r = some y ∧ y.verdict = some .restart) ∧ t.Posted (.verdict b))) ∧
    (∀ i e, s.entry i = some e → e.claimant = none → t.entry i = some e) ∧
    (∃ u v : State, s.Disposes s u .A ∧ s.Disposes u v .B ∧ t.slots = v.slots ∧ t.backlog = v.backlog ∧
      t.rows = ((v.closedFor s .A).closedFor s .B).rows) ∧
    (∀ b, t.unit b = { BoomUnit.initial with
        activeSet := (s.unit b).activeSet, pendingSet := (s.unit b).pendingSet } ∧
      t.lane b = { Lane.initial with
        reportMode := (s.lane b).reportMode
        reportTimer := if (s.lane b).reportMode = .auto then some 0 else none } ∧
      t.engine b = Engine.initial ∧
      ((s.unit b).cycle ≠ .idle → t.Posted (.stage b)) ∧
      ((s.arbiter.grants.get b).isSome = true → t.Posted (.flow b))) ∧
    t.loader = { Loader.initial with
      divert := s.loader.divert
      magazine := if s.loader.state = .firing then s.loader.magazine - 1 else s.loader.magazine } ∧
    t.arbiter = { Arbiter.initial with derate := s.arbiter.derate } ∧
    t.params = s.params ∧ t.protection = s.protection ∧ s.OwnKept t ∧
    (∀ p, (t.port p).last = ⟨none, .done, none⟩ ∧ (t.port p).context = ⟨.live, [], none⟩ ∧
      (t.port p).cursor = none ∧ (t.port p).masks = (s.port p).masks ∧ (t.port p).edges = (s.port p).edges ∧
      (t.port p).frame = (if p = .C ∨ (s.port p).frame = .idle then .idle else .dropped) ∧
      ∀ n ∈ (t.port p).pending, n = .row ∨ n = .table ∨
        ∃ b, n = .verdict b ∨ n = .stage b ∨ n = .flow b)

/-! ### Frames of a port -/

/-- The fall of chip select latches the two status bytes: the code of the last-result record and the number of pending
pairs. A frame that begins while RESET_N is low shifts nothing out. At its end a lost frame settles nothing and records
nothing, whatever it carries and however many bytes were clocked out; a read in it is not taken, and the frame stays
until its end. That a frame which begins while the supply is down is lost too is the model's choice
(notes/assumptions/6.md), as is the filler from byte 2 on of a frame without a reply (notes/assumptions/27.md), and that
a frame which RESTART dropped shifts nothing out (notes/assumptions/28.md). -/
def Obligations.FrameStartLatchesStatus : Prop :=
  ∀ (p : Port) (s : State),
    (s.isHeld = false → ∃ f, exec (.frameStart p) s = .next (s.setPort p { s.port p with frame := f }) ∧
      f.outByte 0 = some (s.port p).last.code.byte ∧
      f.outByte 1 = some (BitVec.ofNat 8 (s.port p).pending.length) ∧ ∀ k, f.outByte (k + 2) = some 0x00) ∧
    (s.isHeld = true → ∃ f, exec (.frameStart p) s = .next (s.setPort p { s.port p with frame := f }) ∧
      ∀ k, f.outByte k = none) ∧
    ((s.port p).frame = .dropped → s.frameLost p = true ∧ ∀ k, (s.port p).frame.outByte k = none) ∧
    (s.frameLost p = true →
      (∀ c, ((∃ n, c.canopyCommand = some (p, n)) ∨ (∃ boom n, c.boomCommand = some (p, boom, n)) ∨ c = .claimNext p ∨
          (∃ scope row position reach holeState origin claimant mask,
            c = .search p scope row position reach holeState origin claimant mask) ∨
          (∃ mask e1 e2 e3 e4 e5, c = .configureNotices p mask e1 e2 e3 e4 e5) ∨ (∃ bytes, c = .torn p bytes) ∨
          (∃ x, c = .unknown p x) ∨ ∃ clocked, c = .readEffects p clocked) →
        exec c s = .next (s.setPort p { s.port p with frame := .idle })) ∧
      (∀ c, (c = .lastResult p ∨ c = .readStatus p ∨ c = .notices p ∨ c = .readNoticeSettings p ∨ c = .readMatches p ∨
          (∃ target segment, c = .readEntry p target segment) ∨ c = .readNext p ∨ ∃ x, c = .readParameters p x) →
        exec c s = .next s))

/-- A read takes its effect when its whole reply was clocked out before the rise of chip select, and only then: the
read cursor, the drained mark of the entry read, and the clearing of the reported notices. The frame ends either
way. -/
def Obligations.ReadsTakeEffectWhole : Prop :=
  ∀ (p : Port) (clocked k : Nat) (s : State) (st : StatusLatch) (bytes : List Byte) (effect : ReadEffect),
    s.Takes p → (s.port p).frame = .reply st k bytes effect →
    (clocked < bytes.length ∨ effect = .nothing →
      exec (.readEffects p clocked) s = .next (s.setPort p { s.port p with frame := .idle })) ∧
    (bytes.length ≤ clocked →
      (∀ target, effect = .cursor target none →
        exec (.readEffects p clocked) s = .next (s.setPort p { s.port p with frame := .idle, cursor := target })) ∧
      (∀ target i e, effect = .cursor target (some i) → s.entry i = some e →
        exec (.readEffects p clocked) s =
          .next ((s.setPort p { s.port p with frame := .idle, cursor := target }).setEntry i
            (some { e with drained := true }))) ∧
      (∀ reported reposted, effect = .clear reported reposted →
        ∃ q, exec (.readEffects p clocked) s = .next (s.setPort p q) ∧
          q = { s.port p with frame := .idle, pending := q.pending, atn := q.atn } ∧
          (∀ n, n ∈ q.pending ↔ n ∈ (s.port p).pending ∧ (n ∈ reported → n ∈ reposted)) ∧
          (q.atn = true ↔ ∃ n ∈ q.pending, q.masks.getLsbD n.kind = false)))

/-! ### Authority -/

/-- A command that the port may not issue, or not for the boom that it concerns, is answered DENIED before any check of
its owner, and changes nothing. -/
def Obligations.AuthorityDenied : Prop :=
  (∀ c p n (s : State), c.canopyCommand = some (p, n) → p ≠ .C → s.Takes p → Answers c s p n .denied) ∧
  (∀ c p boom n (s : State), c.boomCommand = some (p, boom, n) → s.Takes p → (∀ b, ¬ s.MayIssue p boom b) →
    Answers c s p n .denied) ∧
  (∀ (s : State), s.Takes .C → Answers (.claimNext .C) s .C .claimNext .denied) ∧
  (∀ p b (s : State), Port.boom p = some b → (s.unit b).dry = true → s.Takes p →
    Answers (.claimNext p) s p .claimNext .denied)

/-- A refused command writes its refusing code into the port's last-result record and changes nothing else. -/
def Obligations.RefusedChangesNothing : Prop :=
  ∀ (c : Instr) (p : Port) (n : CommandName) (s t : State),
    (c.canopyCommand = some (p, n) ∨ (∃ boom, c.boomCommand = some (p, boom, n)) ∨
      (c = .claimNext p ∧ n = .claimNext)) →
    s.Takes p → exec c s = .next t → (t.port p).last.code ≠ .done → (t.port p).last.code ≠ .clamped →
    t = s.answered p n (t.port p).last.code none

/-! ### Reads -/

/-- READ MATCHES returns the port's match context: scope, best match or FFh, the number of members, and the members in
the order of the set, which StepKeepsFigures says is ascending. It is always answered DONE, and a reply cut short, after
any byte, loses nothing. -/
def Obligations.ReadMatchesReturnsContext : Prop :=
  ∀ (p : Port) (clocked : Nat) (s : State), s.Takes p → ∃ t,
    exec (.readMatches p) s = .next t ∧
    t = s.replied p .readMatches 0 .done
      ([(s.port p).context.scope.byte, (match (s.port p).context.best with
          | some i => BitVec.ofNat 8 i.val
          | none => 0xFF), BitVec.ofNat 8 (s.port p).context.members.length] ++
        (s.port p).context.members.map fun i => BitVec.ofNat 8 i.val) .nothing ∧
    exec (.readEffects p clocked) t = .next (t.setPort p { t.port p with frame := .idle })

/-- LAST RESULT returns the three fields of the record and leaves it; READ NOTICE SETTINGS returns the port's masks
and edge modes; READ PARAMETERS returns the 23 values of a set, or the 3 machine settings, high byte first, and filler
for any other selector, which is refused STATE: its reply is empty, and filler stands where it would
(notes/assumptions/3.md). None holds an effect back. -/
def Obligations.PlainReadsReply : Prop :=
  ∀ (p : Port) (s : State), s.Takes p →
    exec (.lastResult p) s = .next { s.setPort p { s.port p with
        frame := .reply (s.port p).frameStatus 0
          [(s.port p).last.command.getD 0x00, (s.port p).last.code.byte, (match (s.port p).last.slot with
            | some i => BitVec.ofNat 8 i.val
            | none => 0xFF)] .nothing } with readCount := s.readCount + 1 } ∧
    (∃ bytes, exec (.readNoticeSettings p) s = .next (s.replied p .readNoticeSettings 0 .done bytes .nothing) ∧
      bytes.length = 7 ∧
      (∀ k : Fin 13, (joinBytes (argAt bytes 0) (argAt bytes 1)).getLsbD k.val = (s.port p).masks.getLsbD k.val) ∧
      bytes.drop 2 = [(s.port p).edges.permit.byte, (s.port p).edges.void.byte, (s.port p).edges.lane.byte,
        (s.port p).edges.loader.byte, (s.port p).edges.magazineLow.byte]) ∧
    (∀ n : SetNo, ∃ bytes,
      exec (.readParameters p n.byte) s = .next (s.replied p .readParameters 1 .done bytes .nothing) ∧
      bytes.length = 46 ∧
      (s.StoreSound → ∀ k : Fin 23, some (wordAt bytes (2 * k.val)).toNat =
        [(s.params.get n).productShift, (s.params.get n).tVoid, (s.params.get n).tMedium, (s.params.get n).tHard,
          (match (s.params.get n).voidMode with | .one => 0 | .two => 1), (s.params.get n).voidLimit,
          (s.params.get n).zone, (s.params.get n).competent, (s.params.get n).maxExtensions,
          (s.params.get n).collarAllowance, (s.params.get n).freeLength, (s.params.get n).cartridgeColumn,
          (s.params.get n).maxCartridges, (s.params.get n).spinRevs, (s.params.get n).spinMax,
          (s.params.get n).setTime, (s.params.get n).seatTorque, (s.params.get n).targetTorque,
          (s.params.get n).maxTorque, (s.params.get n).maxTurn, (s.params.get n).torqueStage,
          (s.params.get n).incompleteLimit, (s.params.get n).laneAbandon][k.val]?)) ∧
    (∃ bytes, exec (.readParameters p 0x02) s = .next (s.replied p .readParameters 1 .done bytes .nothing) ∧
      bytes.length = 6 ∧
      (s.StoreSound → (wordAt bytes 0).toNat = s.params.settings.separation ∧
        (wordAt bytes 2).toNat = s.params.settings.shift ∧ (wordAt bytes 4).toNat = s.params.settings.lowMark)) ∧
    (∀ x : Byte, 3 ≤ x.toNat → ∃ t bytes, exec (.readParameters p x) s = .next t ∧
      t = s.replied p .readParameters 1 .state bytes .nothing ∧
      ∀ k, 2 ≤ k → (t.port p).frame.outByte k = some 0x00)

/-- READ STATUS is answered DONE with 76 bytes in the layout of section 13.4, worked out from the state at its settling,
and holds no effect back. The bits that the layout leaves open are free, and that GUARD not asserted reads 00h is the
model's reading of the layout (notes/assumptions/3.md). -/
def Obligations.ReadStatusSnapshot : Prop :=
  ∀ (p : Port) (s : State), s.Takes p → ∃ bytes,
    exec (.readStatus p) s = .next (s.replied p .readStatus 0 .done bytes .nothing) ∧ bytes.length = 76 ∧
    (∀ b, ∀ k, k = (match b with | .A => 0 | .B => 8) →
      argAt bytes k = (s.unit b).cycle.byte ∧
      argAt bytes (k + 1) = (match (s.unit b).stored with
        | some .drilling => 0x02
        | some .torquing => 0x09
        | none => 0xFF) ∧
      (argAt bytes (k + 2)).getLsbD 0 = (s.unit b).holds.flow ∧
      (argAt bytes (k + 2)).getLsbD 1 = (s.unit b).holds.lane ∧
      (argAt bytes (k + 2)).getLsbD 2 = (s.unit b).holds.flush ∧
      (argAt bytes (k + 3)).getLsbD 0 = (s.unit b).feed ∧ (argAt bytes (k + 3)).getLsbD 1 = (s.unit b).turn ∧
      (argAt bytes (k + 3)).getLsbD 2 = (s.unit b).claimHeld ∧ (argAt bytes (k + 3)).getLsbD 3 = (s.unit b).dry ∧
      (argAt bytes (k + 3)).getLsbD 4 = ((s.unit b).activeSet == .set1) ∧
      (argAt bytes (k + 3)).getLsbD 5 = ((s.unit b).pendingSet == .set1) ∧
      argAt bytes (k + 4) = (match (s.unit b).workSlot with
        | some i => BitVec.ofNat 8 i.val
        | none => 0xFF) ∧
      argAt bytes (k + 5) = BitVec.ofNat 8 (match s.arbiter.grants.get b with
        | some g => g.amount
        | none => 0) ∧
      argAt bytes (k + 6) = (match s.arbiter.grants.get b with
        | some g => g.stage.byte
        | none => 0xFF) ∧
      (argAt bytes (k + 7)).getLsbD 0 = (match s.arbiter.grants.get b with
        | some g => g.degraded
        | none => false) ∧
      ((∀ r ∈ s.arbiter.queue, r.boom ≠ b) → (argAt bytes (k + 7)).extractLsb' 1 2 = 0x0#2) ∧
      (∀ r rest, s.arbiter.queue = r :: rest → r.boom = b → (argAt bytes (k + 7)).extractLsb' 1 2 = 0x1#2) ∧
      (∀ q r rest, s.arbiter.queue = q :: r :: rest → q.boom ≠ b → r.boom = b →
        (argAt bytes (k + 7)).extractLsb' 1 2 = 0x2#2)) ∧
    argAt bytes 16 = BitVec.ofNat 8 s.arbiter.capacity ∧ argAt bytes 17 = BitVec.ofNat 8 s.arbiter.derate ∧
    (∀ b, ∀ k, k = (match b with | .A => 18 | .B => 24) →
      argAt bytes k = (s.lane b).health.byte ∧ wordAt bytes (k + 1) = BitVec.ofNat 16 (s.lane b).faults ∧
      wordAt bytes (k + 3) = BitVec.ofNat 16 (s.lane b).reportValue ∧
      argAt bytes (k + 5) = (s.lane b).reportMode.byte) ∧
    argAt bytes 30 = s.loader.state.byte ∧
    (s.loader.grant = none → (argAt bytes 31).extractLsb' 0 2 = 0x3#2) ∧
    (∀ g, s.loader.grant = some g → (argAt bytes 31).extractLsb' 0 3 =
        (if g.cancelled then 0x1#1 else 0x0#1) ++ (match g.boom with | .A => 0x0#2 | .B => 0x1#2) ∧
      argAt bytes 32 = BitVec.ofNat 8 g.delivered ∧ argAt bytes 33 = BitVec.ofNat 8 g.planned ∧
      argAt bytes 34 = BitVec.ofNat 8 g.jams) ∧
    (∀ k : Fin 2, argAt bytes (35 + k.val) = (match s.loader.queue[k.val]? with
      | some .A => 0x00
      | some .B => 0x01
      | none => 0xFF)) ∧
    argAt bytes 37 = BitVec.ofNat 8 s.loader.magazine ∧
    argAt bytes 38 = s.protection.byte ∧ argAt bytes 39 = (if s.guardPin then 0x01 else 0x00) ∧
    argAt bytes 40 = BitVec.ofNat 8 ((List.finRange 48).countP fun i => (s.entry i).isNone) ∧
    (∀ i, s.entry i = none → (∀ j, j < i → s.entry j ≠ none) → argAt bytes 41 = BitVec.ofNat 8 i.val) ∧
    ((∀ i, s.entry i ≠ none) → argAt bytes 41 = 0xFF) ∧
    argAt bytes 42 = BitVec.ofNat 8 s.backlog.length ∧
    (∀ k : Fin 8, argAt bytes (43 + k.val) = (match s.backlog[k.val]? with
      | some i => BitVec.ofNat 8 i.val
      | none => 0xFF)) ∧
    argAt bytes 51 = BitVec.ofNat 8 s.rows.length ∧
    (∀ (k : Fin 4) (r : RowRecord), s.rows[k.val]? = some r →
      argAt bytes (52 + 6 * k.val) = r.id ∧ argAt bytes (53 + 6 * k.val) = r.state.byte ∧
      (argAt bytes (54 + 6 * k.val)).getLsbD 0 = r.planEnded ∧
      argAt bytes (55 + 6 * k.val) = BitVec.ofNat 8 r.entries ∧
      argAt bytes (56 + 6 * k.val) = BitVec.ofNat 8 r.accepted ∧
      argAt bytes (57 + 6 * k.val) = BitVec.ofNat 8 r.rejected) ∧
    (∀ (k : Fin 4) (m : Fin 6), s.rows[k.val]? = none → argAt bytes (52 + 6 * k.val + m.val) = 0xFF)

/-- READ ENTRY and READ NEXT deliver one segment, in the layout of section 13.3, and hold back the cursor at the next
segment, with the drained mark for Port C at the last segment of a FROZEN row's entry. A best match that is NONE is
NO_MATCH, a slot above 47 or EMPTY and a cursor of NONE are STATE, and a segment past the last is END, with filler and
no effect. The bits that the layout leaves open are free (notes/assumptions/3.md), and that the marks and the verdict
reason read as clear and absent without a result part is the model's reading (notes/assumptions/16.md). -/
def Obligations.RecordReadsDeliverSegments : Prop :=
  ∀ (p : Port) (target segment : Byte) (s : State), s.Takes p →
    (∀ i e, s.entry i = some e →
      (target.toNat = i.val ∨ (target = 0xFF ∧ (s.port p).context.best = some i)) →
      (segment.toNat < e.segments →
        (∃ bytes, exec (.readEntry p target segment) s = .next (s.replied p .readEntry 2 .done bytes
          (.cursor (some (i, segment.toNat + 1))
            (if p = .C ∧ segment.toNat + 1 = e.segments ∧ s.rowIs e.row .frozen = true then some i else none))) ∧
          e.SegmentHolds i segment.toNat bytes)) ∧
      (e.segments ≤ segment.toNat →
        exec (.readEntry p target segment) s =
          .next (s.replied p .readEntry 2 .ended (List.replicate 16 0x00) .nothing))) ∧
    (target = 0xFF → (s.port p).context.best = none →
      exec (.readEntry p target segment) s =
        .next (s.replied p .readEntry 2 .noMatch (List.replicate 16 0x00) .nothing)) ∧
    (((48 ≤ target.toNat ∧ target ≠ 0xFF) ∨ (∃ i, (target.toNat = i.val ∨
        (target = 0xFF ∧ (s.port p).context.best = some i)) ∧ s.entry i = none)) →
      exec (.readEntry p target segment) s =
        .next (s.replied p .readEntry 2 .state (List.replicate 16 0x00) .nothing)) ∧
    ((s.port p).cursor = none → exec (.readNext p) s =
      .next (s.replied p .readNext 0 .state (List.replicate 16 0x00) .nothing)) ∧
    (∀ i n e, (s.port p).cursor = some (i, n) → s.entry i = some e →
      (n < e.segments → ∃ bytes, exec (.readNext p) s = .next (s.replied p .readNext 0 .done bytes
        (.cursor (some (i, n + 1))
          (if p = .C ∧ n + 1 = e.segments ∧ s.rowIs e.row .frozen = true then some i else none))) ∧
        e.SegmentHolds i n bytes) ∧
      (e.segments ≤ n → exec (.readNext p) s =
        .next (s.replied p .readNext 0 .ended (List.replicate 16 0x00) .nothing)) ∧
      e.segments = 2 + (match e.result with | some r => (r.layers.length + 1) / 2 | none => 0))

/-! ### Notices -/

/-- NOTICES fixes the port's pending set into its reply and holds its clearing back. A pair recorded while the reply is
clocked out is still pending after it, whether it was in the reply or not. -/
def Obligations.NoticesReportAndClear : Prop :=
  ∀ (p : Port) (s : State), s.Takes p → ∃ t,
    exec (.notices p) s = .next t ∧
    t = s.replied p .notices 0 .done
      (BitVec.ofNat 8 (s.port p).pending.length :: (s.port p).pending.flatMap fun n =>
        [BitVec.ofNat 8 n.kind, (match n.subject with | some .A => 0x00 | some .B => 0x01 | none => 0xFF)])
      (.clear (s.port p).pending []) ∧
    (∀ clocked, 1 + 2 * (s.port p).pending.length ≤ clocked → ∃ u,
      exec (.readEffects p clocked) t = .next u ∧ (u.port p).pending = [] ∧ (u.port p).atn = false) ∧
    (∀ n clocked, ∃ u, exec (.readEffects p clocked) (t.post n) = .next u ∧ n ∈ (u.port p).pending)

/-- CONFIGURE NOTICES replaces the port's own 13 masks and 5 edge modes in one action, with the attention line worked
out again; a value that is neither RISE nor ANY refuses the whole command. -/
def Obligations.NoticesConfigured : Prop :=
  ∀ (p : Port) (mask : Word16) (e1 e2 e3 e4 e5 : Byte) (s : State), s.Takes p →
    (∀ m : EdgeModes, m.permit.byte = e1 → m.void.byte = e2 → m.lane.byte = e3 → m.loader.byte = e4 →
      m.magazineLow.byte = e5 → ∃ q,
        exec (.configureNotices p mask e1 e2 e3 e4 e5) s =
          .next ((s.setPort p q).answered p .configureNotices .done none) ∧
        q = { s.port p with masks := q.masks, edges := m, atn := q.atn } ∧
        (∀ k : Fin 13, q.masks.getLsbD k.val = mask.getLsbD k.val) ∧
        (q.atn = true ↔ ∃ n ∈ q.pending, mask.getLsbD n.kind = false)) ∧
    (1 < e1.toNat ∨ 1 < e2.toNat ∨ 1 < e3.toNat ∨ 1 < e4.toNat ∨ 1 < e5.toNat →
      Answers (.configureNotices p mask e1 e2 e3 e4 e5) s p .configureNotices .state)

/-- A posting is recorded at each of the three ports. An offer is recorded at the ports that it concerns: a rise at
all, a fall at those in ANY mode for its kind. Recording adds the one pair, changes nothing else of the part, and
follows no mask, but the attention line rises only for an unmasked pair. -/
def Obligations.NoticesRecorded : Prop :=
  ∀ (s : State) (n : NoticePair) (p : Port), s.NoticesSound →
    (∀ m, m ∈ ((s.post n).port p).pending ↔ m = n ∨ m ∈ (s.port p).pending) ∧
    (s.post n).NoticesSound ∧ (∀ rise, (s.offer n rise).NoticesSound) ∧ s.PortsKept (s.post n) none ∧
    s.post n = { s with ports := (s.post n).ports } ∧
    (∀ rise, (rise = true ∨ (s.port p).edges.mode n = .any →
        ∀ m, m ∈ ((s.offer n rise).port p).pending ↔ m = n ∨ m ∈ (s.port p).pending) ∧
      (rise = false → (s.port p).edges.mode n = .rise → (s.offer n rise).port p = s.port p) ∧
      s.PortsKept (s.offer n rise) none ∧ s.offer n rise = { s with ports := (s.offer n rise).ports })

/-! ### SEARCH -/

/-- SEARCH replaces the port's match context: for a validity, exactly the slots of that validity whose fields equal the
key's selected ones, with the best match of lowest priority value and then lowest slot; for EMPTY, the next free slot. A
scope outside its list, or a key field that is selected for a validity and outside its list, refuses it with STATE. That
a SEARCH of scope EMPTY does not look at its key, and takes one with a bad field, is read from R27 beside R26
(notes/assumptions/12.md). -/
def Obligations.SearchReplacesContext : Prop :=
  ∀ (p : Port) (scope row position reach holeState origin claimant mask : Byte) (s : State), s.Takes p →
    (∀ v : Validity, scope = v.byte - 1 →
      (mask.getLsbD 1 = true → position.toNat ≤ 7) → (mask.getLsbD 2 = true → reach.toNat ≤ 2) →
      (mask.getLsbD 3 = true → holeState.toNat ≤ 8) → (mask.getLsbD 4 = true → origin.toNat ≤ 1) →
      (mask.getLsbD 5 = true → claimant.toNat ≤ 2) →
      ∃ c, exec (.search p scope row position reach holeState origin claimant mask) s =
          .next ((s.setPort p { s.port p with context := c }).answered p .search
            (if c.members = [] then .noMatch else .done) c.best) ∧
        c.scope.byte = scope ∧ c.members.Pairwise (· < ·) ∧
        (∀ i, i ∈ c.members ↔ ∃ e, s.entry i = some e ∧ e.validity = v ∧
          (mask.getLsbD 0 = true → e.row = row) ∧ (mask.getLsbD 1 = true → e.position = position.toNat) ∧
          (mask.getLsbD 2 = true → e.reach.byte = reach) ∧ (mask.getLsbD 3 = true → e.holeState.byte = holeState) ∧
          (mask.getLsbD 4 = true → e.origin.byte = origin) ∧
          (mask.getLsbD 5 = true →
            (match e.claimant with | some .A => 0x00 | some .B => 0x01 | none => 0x02) = claimant)) ∧
        (c.best = none ↔ c.members = []) ∧
        (∀ i, c.best = some i → i ∈ c.members ∧ ∀ j ∈ c.members,
          s.priorityOf i < s.priorityOf j ∨ (s.priorityOf i = s.priorityOf j ∧ i ≤ j))) ∧
    (scope = 0x03 →
      exec (.search p scope row position reach holeState origin claimant mask) s =
        .next ((s.setPort p { s.port p with context := ⟨.empty, s.nextFree.toList, s.nextFree⟩ }).answered p .search
          (if s.nextFree = none then .noMatch else .done) s.nextFree)) ∧
    (4 ≤ scope.toNat ∨ (scope.toNat ≤ 2 ∧
        ((mask.getLsbD 1 = true ∧ 8 ≤ position.toNat) ∨ (mask.getLsbD 2 = true ∧ 3 ≤ reach.toNat) ∨
          (mask.getLsbD 3 = true ∧ 9 ≤ holeState.toNat) ∨ (mask.getLsbD 4 = true ∧ 2 ≤ origin.toNat) ∨
          (mask.getLsbD 5 = true ∧ 3 ≤ claimant.toNat))) →
      Answers (.search p scope row position reach holeState origin claimant mask) s p .search .state)

/-! ### Plan and rows -/

/-- OPEN ROW appends an OPEN record with its flag clear and counts of 0 at the end of the Row Table: STATE if the id is
present in any state, then FULL if 4 records are present. -/
def Obligations.OpenRowAppends : Prop :=
  ∀ (p : Port) (row : Byte) (s : State), s.Takes p → p = .C →
    ((∃ r ∈ s.rows, r.id = row) → Answers (.openRow p row) s p .openRow .state) ∧
    ((∀ r ∈ s.rows, r.id ≠ row) → 4 ≤ s.rows.length → Answers (.openRow p row) s p .openRow .full) ∧
    ((∀ r ∈ s.rows, r.id ≠ row) → s.rows.length < 4 →
      exec (.openRow p row) s =
        .next (({ s with rows := s.rows ++ [⟨row, .opened, false, 0, 0, 0⟩] } : State).answered p .openRow .done none))

/-- PLAN HOLE writes the clamped hole in the next free slot, and answers with the slot; its checks answer FULL, NO_ROW
and STATE, in that order. -/
def Obligations.PlanHoleWritesEntry : Prop :=
  ∀ (row position reach : Byte) (offset : Word16) (lengthClass priority : Byte) (s : State), s.Takes .C →
    (s.nextFree = none → Answers (.planHole .C row position reach offset lengthClass priority) s .C .planHole .full) ∧
    (s.nextFree ≠ none → s.row row = none →
      Answers (.planHole .C row position reach offset lengthClass priority) s .C .planHole .noRow) ∧
    (∀ r, s.nextFree ≠ none → s.row row = some r →
      (r.state ≠ .opened ∨ r.planEnded = true ∨ 7 < position.toNat ∨ 2 < reach.toNat ∨
        (∃ i e, s.entry i = some e ∧ e.origin = .plan ∧ e.row = row ∧ e.position = position.toNat)) →
      Answers (.planHole .C row position reach offset lengthClass priority) s .C .planHole .state) ∧
    (∀ i r x, s.nextFree = some i → s.row row = some r → r.state = .opened → r.planEnded = false →
      position.toNat ≤ 7 → Reach.byte x = reach →
      (∀ j e, s.entry j = some e → e.origin = .plan → e.row = row → e.position ≠ position.toNat) →
      exec (.planHole .C row position reach offset lengthClass priority) s =
        .next ((s.writeSlot i
          { validity := .live, row := row, position := position.toNat, reach := x,
            offset := min 7000 offset.toNat, lengthClass := min 4 lengthClass.toNat,
            priority := min 15 priority.toNat, origin := .plan, parent := none, generation := 0,
            holeState := .planned, claimant := none, drained := false, result := none }).answered .C .planHole
          (if 7000 < offset.toNat ∨ 4 < lengthClass.toNat ∨ 15 < priority.toNat then .clamped else .done) (some i)))

/-- A write into a slot adds 1 to the row's entry count, drops the slot out of the match contexts of scope EMPTY, and
posts TABLE when it takes the last EMPTY slot. A slot becoming EMPTY takes the counts down, drops out of the other match
contexts, and makes a read cursor at it NONE, also one that a reply holds back. Neither touches another slot or another
row. -/
def Obligations.SlotsWrittenAndEmptied : Prop :=
  ∀ (s : State) (i : Slot) (e : Entry) (p : Port),
    ((s.writeSlot i e).entry i = some e ∧ (∀ j, j ≠ i → (s.writeSlot i e).entry j = s.entry j) ∧
      (s.writeSlot i e).rows = s.rows.map (fun r => if r.id = e.row then { r with entries := r.entries + 1 } else r) ∧
      ((∀ j, j ≠ i → s.entry j ≠ none) → (s.writeSlot i e).Posted .table) ∧
      ((∃ j, j ≠ i ∧ s.entry j = none) → ((s.writeSlot i e).port p).pending = (s.port p).pending) ∧
      ((s.port p).context.scope ≠ .empty → ((s.writeSlot i e).port p).context = (s.port p).context) ∧
      ((s.port p).context.scope = .empty →
        ((s.writeSlot i e).port p).context.members = (s.port p).context.members.filter (fun j => j != i) ∧
        ((s.writeSlot i e).port p).context.best =
          (if (s.port p).context.best = some i then none else (s.port p).context.best)) ∧
      s.writeSlot i e = { s with
        slots := (s.writeSlot i e).slots, rows := (s.writeSlot i e).rows, ports := (s.writeSlot i e).ports }) ∧
    (s.entry i = some e →
      (s.emptySlot i).entry i = none ∧ (∀ j, j ≠ i → (s.emptySlot i).entry j = s.entry j) ∧
      (s.emptySlot i).rows = s.rows.map (fun r => if r.id = e.row then
        { r with
          entries := r.entries - 1
          accepted := if e.holeState = .accepted then r.accepted - 1 else r.accepted
          rejected := if e.holeState = .rejected then r.rejected - 1 else r.rejected } else r) ∧
      ((s.port p).context.scope = .empty → ((s.emptySlot i).port p).context = (s.port p).context) ∧
      ((s.port p).context.scope ≠ .empty →
        ((s.emptySlot i).port p).context.members = (s.port p).context.members.filter (fun j => j != i) ∧
        ((s.emptySlot i).port p).context.best =
          (if (s.port p).context.best = some i then none else (s.port p).context.best)) ∧
      (∀ j n, (s.port p).cursor = some (j, n) →
        ((s.emptySlot i).port p).cursor = if j = i then none else some (j, n)) ∧
      (∀ st k bytes j n drain, (s.port p).frame = .reply st k bytes (.cursor (some (j, n)) drain) →
        ((s.emptySlot i).port p).frame = if j = i then .reply st k bytes (.cursor none none) else (s.port p).frame) ∧
      ((∀ st k bytes j n drain, (s.port p).frame ≠ .reply st k bytes (.cursor (some (j, n)) drain)) →
        ((s.emptySlot i).port p).frame = (s.port p).frame) ∧
      s.emptySlot i = { s with
        slots := (s.emptySlot i).slots, rows := (s.emptySlot i).rows, ports := (s.emptySlot i).ports })

/-- END PLAN sets the plan-ended flag of an OPEN row and makes its closing check: the row closes, and ROW is posted,
when all its entries are settled and the backlog holds no parent of it. It is NO_ROW for an absent row, STATE for a
row that is not OPEN, and changes nothing where the flag is set. That a parent in the backlog keeps the row open here
too, as in every closing check, is read from R11 beside R10 (notes/assumptions/18.md). -/
def Obligations.EndPlanAndClosing : Prop :=
  ∀ (row : Byte) (s : State), s.Takes .C →
    (s.row row = none → Answers (.endPlan .C row) s .C .endPlan .noRow) ∧
    (∀ r, s.row row = some r →
      (r.state ≠ .opened → Answers (.endPlan .C row) s .C .endPlan .state) ∧
      (r.state = .opened → r.planEnded = true → Answers (.endPlan .C row) s .C .endPlan .done) ∧
      (r.state = .opened → r.planEnded = false → ∃ t : State,
        exec (.endPlan .C row) s = .next (t.answered .C .endPlan .done none) ∧
        t = { s with rows := t.rows, ports := t.ports } ∧ s.PortsKept t none ∧ s.NoticesWithin t [.row] ∧
        ((∀ i e, s.entry i = some e → e.row = row → e.settled = true) →
          (∀ i ∈ s.backlog, ∀ e, s.entry i = some e → e.row ≠ row) →
          t.row row = some { r with planEnded := true, state := .closed } ∧ t.Posted .row) ∧
        ((∃ i e, s.entry i = some e ∧ e.row = row ∧ e.settled = false) ∨
          (∃ i ∈ s.backlog, ∃ e, s.entry i = some e ∧ e.row = row) →
          t.row row = some { r with planEnded := true } ∧ t.ports = s.ports) ∧
        (∀ x, x ≠ row → t.row x = s.row x)))

/-- FREEZE ROW turns a CLOSED row into a FROZEN one and THAW ROW a FROZEN one into a CLOSED one, both with every drained
mark of the row clear. THAW ROW is taken in OPEN mode, and in GUARDED mode while GUARD is asserted, and is PROTECTED
otherwise. An absent row is NO_ROW, and a row in another state STATE. -/
def Obligations.RowsFrozenAndThawed : Prop :=
  ∀ (row : Byte) (s : State), s.Takes .C →
    (s.row row = none → Answers (.freezeRow .C row) s .C .freezeRow .noRow ∧
      Answers (.thawRow .C row) s .C .thawRow .noRow) ∧
    (∀ r, s.row row = some r →
      (r.state ≠ .closed → Answers (.freezeRow .C row) s .C .freezeRow .state) ∧
      (r.state ≠ .frozen → Answers (.thawRow .C row) s .C .thawRow .state) ∧
      (r.state = .frozen → (s.protection = .shift ∨ (s.protection = .guarded ∧ s.guardPin = false)) →
        Answers (.thawRow .C row) s .C .thawRow .isProtected) ∧
      (r.state = .closed → ∃ t : State, exec (.freezeRow .C row) s = .next (t.answered .C .freezeRow .done none) ∧
        t.row row = some { r with state := .frozen } ∧ (∀ x, x ≠ row → t.row x = s.row x) ∧
        (∀ i, t.entry i = (s.entry i).map fun e => if e.row = row then { e with drained := false } else e) ∧
        t = { s with slots := t.slots, rows := t.rows }) ∧
      (r.state = .frozen → (s.protection = .opened ∨ (s.protection = .guarded ∧ s.guardPin = true)) →
        ∃ t : State, exec (.thawRow .C row) s = .next (t.answered .C .thawRow .done none) ∧
        t.row row = some { r with state := .closed } ∧ (∀ x, x ≠ row → t.row x = s.row x) ∧
        (∀ i, t.entry i = (s.entry i).map fun e => if e.row = row then { e with drained := false } else e) ∧
        t = { s with slots := t.slots, rows := t.rows }))

/-- RELEASE ROW, of a FROZEN row whose every entry is drained, empties the row's slots, removes its record, and drains
the backlog into the freed slots. Before the draining, the match contexts of the other scopes lose the row's slots and
nothing else, a read cursor at one of them is NONE, also one that a reply holds back, and everything else of the ports
is as it was. -/
def Obligations.ReleaseRowFreesSlots : Prop :=
  ∀ (row : Byte) (s : State), s.Takes .C →
    (s.row row = none → Answers (.releaseRow .C row) s .C .releaseRow .noRow) ∧
    (∀ r, s.row row = some r →
      (r.state ≠ .frozen ∨ (∃ i e, s.entry i = some e ∧ e.row = row ∧ e.drained = false) →
        Answers (.releaseRow .C row) s .C .releaseRow .state) ∧
      (r.state = .frozen → (∀ i e, s.entry i = some e → e.row = row → e.drained = true) → ∃ u : State,
        exec (.releaseRow .C row) s = .next (u.drainBacklog.answered .C .releaseRow .done none) ∧
        (∀ i e, s.entry i = some e → u.entry i = if e.row = row then none else some e) ∧
        (∀ i, s.entry i = none → u.entry i = none) ∧
        u.rows = s.rows.filter (fun x => x.id != row) ∧
        (∀ p i e, s.entry i = some e → e.row = row →
          ((u.port p).context.scope ≠ .empty → i ∉ (u.port p).context.members ∧ (u.port p).context.best ≠ some i) ∧
          ∀ n, (u.port p).cursor ≠ some (i, n)) ∧
        (∀ p, (u.port p).pending = (s.port p).pending ∧ (u.port p).context.scope = (s.port p).context.scope ∧
          (u.port p).masks = (s.port p).masks ∧ (u.port p).edges = (s.port p).edges ∧
          (u.port p).atn = (s.port p).atn ∧ (u.port p).last = (s.port p).last ∧
          ((s.port p).context.scope = .empty → (u.port p).context = (s.port p).context) ∧
          ((s.port p).context.scope ≠ .empty →
            (u.port p).context.members = (s.port p).context.members.filter (fun i => match s.entry i with
              | some e => e.row != row
              | none => true) ∧
            ((∀ i e, (s.port p).context.best = some i → s.entry i = some e → e.row ≠ row) →
              (u.port p).context.best = (s.port p).context.best) ∧
            ∀ i e, (s.port p).context.best = some i → s.entry i = some e → e.row = row →
              (u.port p).context.best = none) ∧
          ((∀ i n e, (s.port p).cursor = some (i, n) → s.entry i = some e → e.row ≠ row) →
            (u.port p).cursor = (s.port p).cursor) ∧
          (∀ i n e, (s.port p).cursor = some (i, n) → s.entry i = some e → e.row = row →
            (u.port p).cursor = none) ∧
          ((∀ st k bytes i n drain e, (s.port p).frame = .reply st k bytes (.cursor (some (i, n)) drain) →
              s.entry i = some e → e.row ≠ row) →
            (u.port p).frame = (s.port p).frame) ∧
          ∀ st k bytes i n drain e, (s.port p).frame = .reply st k bytes (.cursor (some (i, n)) drain) →
            s.entry i = some e → e.row = row → (u.port p).frame = .reply st k bytes (.cursor none none)) ∧
        u = { s with slots := u.slots, rows := u.rows, ports := u.ports }))

/-- The draining of the backlog: while a parent waits and a slot is free, the oldest parent is taken off and its
supplement written in the next free slot, with the closing check of its row; it stops at an empty backlog or a full
table, with the rest of the backlog in its order. -/
def Obligations.BacklogDrains : Prop :=
  ∀ (s : State),
    (s.backlog = [] ∨ s.nextFree = none → s.drainBacklog = s) ∧
    (∀ i rest j e, s.backlog = i :: rest → s.nextFree = some j → s.entry i = some e →
      s.drainBacklog = ((({ s with backlog := rest } : State).writeSlot j
        { validity := .live, row := e.row, position := e.position, reach := e.reach,
          offset := (if e.offset + s.params.settings.shift ≤ 7000 then e.offset + s.params.settings.shift
            else e.offset - s.params.settings.shift),
          lengthClass := e.lengthClass, priority := 0, origin := .supplement, parent := some i,
          generation := e.generation + 1, holeState := .planned, claimant := none, drained := false,
          result := none }).closingCheck e.row).drainBacklog) ∧
    (s.drainBacklog.backlog = [] ∨ s.drainBacklog.nextFree = none) ∧
    (∃ k, s.drainBacklog.backlog = s.backlog.drop k)

/-! ### Protection, erasing and validity -/

/-- SET PROTECTION raises or keeps the mode, lowers it from GUARDED while GUARD is asserted, and is PROTECTED otherwise;
a mode outside its list is STATE, which is read from section 13.2, since R17 names no answer for it
(notes/assumptions/15.md). -/
def Obligations.ProtectionSet : Prop :=
  ∀ (m : Protection) (x : Byte) (s : State), s.Takes .C →
    (2 < x.toNat → Answers (.setProtection .C x) s .C .setProtection .state) ∧
    ((s.protection = .opened ∨ s.protection = m ∨ (s.protection = .guarded ∧ m = .shift) ∨
        (s.protection = .guarded ∧ s.guardPin = true)) →
      exec (.setProtection .C m.byte) s =
        .next (({ s with protection := m } : State).answered .C .setProtection .done none)) ∧
    ((s.protection = .shift ∧ m ≠ .shift) ∨ (s.protection = .guarded ∧ m = .opened ∧ s.guardPin = false) →
      Answers (.setProtection .C m.byte) s .C .setProtection .isProtected)

/-- SHIFT lasts until the next power-on: no other step of the part leaves it. -/
def Obligations.ShiftLastsUntilPowerOn : Prop :=
  ∀ s t : State, step s = .next t → s.protection = .shift → s.pending.head? ≠ some .powerOn → t.protection = .shift

/-- ERASE empties the slot of a PLANNED or TESTED entry of an OPEN row, drains the backlog into it, and makes the row's
closing check. Its checks answer STATE for an EMPTY slot or one above 47, PROTECTED for a FROZEN row, and STATE for a
row that is not OPEN or a hole in another state. -/
def Obligations.EraseEmptiesSlot : Prop :=
  ∀ (x : Byte) (s : State), s.Takes .C →
    (47 < x.toNat → Answers (.erase .C x) s .C .erase .state) ∧
    (∀ i : Slot, x.toNat = i.val →
      (s.entry i = none → Answers (.erase .C x) s .C .erase .state) ∧
      (∀ e, s.entry i = some e →
        (s.rowIs e.row .frozen = true → Answers (.erase .C x) s .C .erase .isProtected) ∧
        (s.rowIs e.row .frozen = false →
          (s.rowIs e.row .opened = false ∨ (e.holeState ≠ .planned ∧ e.holeState ≠ .tested)) →
          Answers (.erase .C x) s .C .erase .state) ∧
        (s.rowIs e.row .opened = true → (e.holeState = .planned ∨ e.holeState = .tested) →
          exec (.erase .C x) s =
            .next ((((s.emptySlot i).drainBacklog).closingCheck e.row).answered .C .erase .done none))))

/-- SET VALIDITY gives an eligible entry (PLANNED, in an OPEN row) the new validity: the entry of a slot or of the best
match, or every eligible member of the match set, with the closing check of each row that holds a changed entry. EMPTY
or any other value is STATE, a best match that is NONE NO_MATCH, a frozen single entry PROTECTED, any other ineligible
one STATE, and a match set without an eligible member STATE. That a bad validity is met before a frozen entry, and a
best match that is NONE before the entry's own checks, is the model's reading (notes/assumptions/17.md). -/
def Obligations.ValiditySet : Prop :=
  ∀ (target x : Byte) (v : Validity) (s : State), s.Takes .C →
    (x = 0x00 ∨ 3 < x.toNat → Answers (.setValidity .C target x) s .C .setValidity .state) ∧
    ((s.port .C).context.best = none → Answers (.setValidity .C 0xFF v.byte) s .C .setValidity .noMatch) ∧
    (48 ≤ target.toNat → target ≠ 0xFF → target ≠ 0xFE →
      Answers (.setValidity .C target v.byte) s .C .setValidity .state) ∧
    (∀ i : Slot, (target.toNat = i.val ∨ (target = 0xFF ∧ (s.port .C).context.best = some i)) →
      (s.entry i = none → Answers (.setValidity .C target v.byte) s .C .setValidity .state) ∧
      (∀ e, s.entry i = some e →
        (s.rowIs e.row .frozen = true → Answers (.setValidity .C target v.byte) s .C .setValidity .isProtected) ∧
        (s.rowIs e.row .frozen = false → (e.holeState ≠ .planned ∨ s.rowIs e.row .opened = false) →
          Answers (.setValidity .C target v.byte) s .C .setValidity .state) ∧
        (e.holeState = .planned → s.rowIs e.row .opened = true →
          exec (.setValidity .C target v.byte) s =
            .next (((s.setEntry i (some { e with validity := v })).closingCheck e.row).answered .C .setValidity .done
              none)))) ∧
    ((∀ i ∈ (s.port .C).context.members, ∀ e, s.entry i = some e →
        e.holeState ≠ .planned ∨ s.rowIs e.row .opened = false) →
      Answers (.setValidity .C 0xFE v.byte) s .C .setValidity .state) ∧
    ((∃ i ∈ (s.port .C).context.members, ∃ e, s.entry i = some e ∧ e.holeState = .planned ∧
        s.rowIs e.row .opened = true) →
      ∃ t : State, exec (.setValidity .C 0xFE v.byte) s = .next (t.answered .C .setValidity .done none) ∧
        (∀ i, t.entry i = (s.entry i).map fun e =>
          if i ∈ (s.port .C).context.members ∧ e.holeState = .planned ∧ s.rowIs e.row .opened = true then
            { e with validity := v } else e) ∧
        t.rows.map RowRecord.id = s.rows.map RowRecord.id ∧
        (∀ x, t.row x =
          if ∃ i ∈ (s.port .C).context.members, ∃ e ∈ s.entry i, e.row = x ∧ e.holeState = .planned ∧
              s.rowIs x .opened = true then
            (({ s with slots := t.slots } : State).closingCheck x).row x
          else s.row x) ∧
        ((∃ x, t.row x ≠ s.row x) → t.Posted .row) ∧ (t.rows = s.rows → t.ports = s.ports) ∧
        s.PortsKept t none ∧ s.NoticesWithin t [.row] ∧ t = { s with slots := t.slots, rows := t.rows, ports := t.ports })

/-- CANCEL SUPPLEMENTS removes the row's parents from the backlog, each with its SUPPLEMENT_LOST mark, with a TABLE
notice and the row's closing check; with none to remove it changes nothing. The entries of other rows keep their order.
An absent row is NO_ROW, and a FROZEN one PROTECTED. -/
def Obligations.SupplementsCancelled : Prop :=
  ∀ (row : Byte) (s : State), s.Takes .C →
    (s.row row = none → Answers (.cancelSupplements .C row) s .C .cancelSupplements .noRow) ∧
    (∀ r, s.row row = some r →
      (r.state = .frozen → Answers (.cancelSupplements .C row) s .C .cancelSupplements .isProtected) ∧
      (r.state ≠ .frozen → (∀ i ∈ s.backlog, ∀ e, s.entry i = some e → e.row ≠ row) →
        Answers (.cancelSupplements .C row) s .C .cancelSupplements .done) ∧
      (r.state ≠ .frozen → (∃ i ∈ s.backlog, ∃ e, s.entry i = some e ∧ e.row = row) → ∃ u : State,
        exec (.cancelSupplements .C row) s =
          .next (((u.post .table).closingCheck row).answered .C .cancelSupplements .done none) ∧
        u.backlog = s.backlog.filter (fun i => match s.entry i with
          | some e => e.row != row
          | none => true) ∧
        (∀ i, u.entry i = (s.entry i).map fun e =>
          if i ∈ s.backlog ∧ e.row = row then
            { e with result := e.result.map fun x => { x with supplementLost := true } } else e) ∧
        u = { s with slots := u.slots, backlog := u.backlog }))

/-- What the table does at a verdict: the final state and reason, the claimant, the row's counts, its closing check
last, and, where a supplement is due, REFER for generation 2, the backlog or SUPPLEMENT_LOST for a full table, and the
supplement in the next free slot otherwise. Every other entry and every other row is as it was. -/
def Obligations.TableVerdictGiven : Prop :=
  ∀ (s : State) (i : Slot) (e : Entry) (v : VerdictReason), s.entry i = some e →
    (v.final = (match v with
      | .good | .weakAnchor => .accepted
      | .dry => .tested
      | _ => .rejected) ∧ (v.supplementDue = true ↔ v ≠ .good ∧ v ≠ .dry)) ∧
    (s.tableVerdict i v).entry i = some { e with
      holeState := v.final
      claimant := none
      result := e.result.map fun r => { r with
        verdict := some v
        refer := r.refer || (v.supplementDue && decide (2 ≤ e.generation))
        supplementLost := r.supplementLost || (v.supplementDue && decide (e.generation < 2) && s.nextFree.isNone &&
          decide (8 ≤ s.backlog.length)) } } ∧
    (s.tableVerdict i v).backlog =
      (if v.supplementDue = true ∧ e.generation < 2 ∧ s.nextFree = none ∧ s.backlog.length < 8 then s.backlog ++ [i]
        else s.backlog) ∧
    (∀ j, v.supplementDue = true → e.generation < 2 → s.nextFree = some j →
      (s.tableVerdict i v).entry j = some
        { validity := .live, row := e.row, position := e.position, reach := e.reach,
          offset := (if e.offset + s.params.settings.shift ≤ 7000 then e.offset + s.params.settings.shift
            else e.offset - s.params.settings.shift),
          lengthClass := e.lengthClass, priority := 0, origin := .supplement, parent := some i,
          generation := e.generation + 1, holeState := .planned, claimant := none, drained := false,
          result := none } ∧
      ∀ k, k ≠ i → k ≠ j → (s.tableVerdict i v).entry k = s.entry k) ∧
    ((v.supplementDue = false ∨ 2 ≤ e.generation ∨ s.nextFree = none) →
      ∀ k, k ≠ i → (s.tableVerdict i v).entry k = s.entry k) ∧
    (v.supplementDue = true → (2 ≤ e.generation ∨ s.nextFree = none) → (s.tableVerdict i v).Posted .table) ∧
    (∀ r, s.row e.row = some r → ∃ x, (s.tableVerdict i v).row e.row = some x ∧ x.planEnded = r.planEnded ∧
      x.accepted = r.accepted + (if v.final = .accepted then 1 else 0) ∧
      x.rejected = r.rejected + (if v.final = .rejected then 1 else 0) ∧
      x.entries = r.entries + (if v.supplementDue = true ∧ e.generation < 2 ∧ s.nextFree.isSome = true then 1 else 0) ∧
      (r.state = .opened → r.planEnded = true →
        (∀ k f, (s.tableVerdict i v).entry k = some f → f.row = e.row → f.settled = true) →
        (∀ k ∈ (s.tableVerdict i v).backlog, ∀ f, (s.tableVerdict i v).entry k = some f → f.row ≠ e.row) →
        x.state = .closed ∧ (s.tableVerdict i v).Posted .row) ∧
      (r.state ≠ .opened ∨ r.planEnded = false ∨
          (∃ k f, (s.tableVerdict i v).entry k = some f ∧ f.row = e.row ∧ f.settled = false) ∨
          (∃ k ∈ (s.tableVerdict i v).backlog, ∃ f, (s.tableVerdict i v).entry k = some f ∧ f.row = e.row) →
        x.state = r.state)) ∧
    (∀ y, y ≠ e.row → (s.tableVerdict i v).row y = s.row y) ∧
    s.NoticesWithin (s.tableVerdict i v) [.table, .row] ∧
    s.tableVerdict i v = { s with
      slots := (s.tableVerdict i v).slots
      rows := (s.tableVerdict i v).rows
      backlog := (s.tableVerdict i v).backlog
      ports := (s.tableVerdict i v).ports }

/-! ### Claims -/

/-- CLAIM NEXT claims the eligible entry of the oldest row, then of the lowest priority value, then of the lowest slot
number; it is STATE while the boom is not IDLE and NO_MATCH while no entry is eligible. -/
def Obligations.ClaimNextTakesChoice : Prop :=
  ∀ (p : Port) (b : Boom) (s : State), s.Takes p → Port.boom p = some b → (s.unit b).dry = false →
    ((s.unit b).cycle ≠ .idle → Answers (.claimNext p) s p .claimNext .state) ∧
    ((s.unit b).cycle = .idle → (∀ k i e, ¬ s.EligibleAt b k i e) → Answers (.claimNext p) s p .claimNext .noMatch) ∧
    (∀ k i e, s.Followed → (s.rows.map RowRecord.id).Nodup → (s.unit b).cycle = .idle → s.EligibleAt b k i e →
      (∀ l j f, s.EligibleAt b l j f →
        k < l ∨ (k = l ∧ (e.priority < f.priority ∨ (e.priority = f.priority ∧ i ≤ j)))) →
      exec (.claimNext p) s = .next ((s.claimTaken b i e).answered p .claimNext .done (some i)))

/-- CLAIM SLOT makes its checks in the order of R39, with those of R40 for a boom in DRY mode, and then claims the entry
named. CANCEL CLAIM, taken in CLAIMED, returns the entry to PLANNED and the boom to IDLE, with the closing check of the
row. -/
def Obligations.ClaimedBySlotAndCancelled : Prop :=
  ∀ (p : Port) (boom target : Byte) (b : Boom) (s : State), s.Takes p → s.MayIssue p boom b →
    (target = 0xFF → (s.port p).context.best = none →
      Answers (.claimSlot p boom target) s p .claimSlot .noMatch) ∧
    (48 ≤ target.toNat → target ≠ 0xFF → Answers (.claimSlot p boom target) s p .claimSlot .state) ∧
    (∀ i : Slot, (target.toNat = i.val ∨ (target = 0xFF ∧ (s.port p).context.best = some i)) →
      (s.entry i = none → Answers (.claimSlot p boom target) s p .claimSlot .state) ∧
      (∀ e, s.entry i = some e →
        (s.rowIs e.row .frozen = true → Answers (.claimSlot p boom target) s p .claimSlot .isProtected) ∧
        (s.rowIs e.row .frozen = false →
          ((s.unit b).cycle ≠ .idle ∨ s.rowIs e.row .opened = false ∨ e.holeState ≠ .planned ∨ ¬ e.reach.Lets b ∨
            e.validity ≠ (if (s.unit b).dry then .held else .live)) →
          Answers (.claimSlot p boom target) s p .claimSlot .state) ∧
        ((s.unit b).cycle = .idle → s.rowIs e.row .opened = true → e.holeState = .planned → e.reach.Lets b →
          ((s.unit b).dry = false → e.validity = .live → ¬ s.PassesSeparation b e →
            Answers (.claimSlot p boom target) s p .claimSlot .tooClose) ∧
          (s.Followed → ((s.unit b).dry = true ∧ e.validity = .held) ∨
              ((s.unit b).dry = false ∧ e.validity = .live ∧ s.PassesSeparation b e) →
            exec (.claimSlot p boom target) s =
              .next ((s.claimTaken b i e).answered p .claimSlot .done (some i)))))) ∧
    ((s.unit b).cycle ≠ .claimed → Answers (.cancelClaim p boom) s p .cancelClaim .state) ∧
    (∀ i e, (s.unit b).cycle = .claimed → s.Followed → (s.unit b).claimHeld = true → (s.unit b).workSlot = some i →
      s.entry i = some e → ∃ t : State,
        exec (.cancelClaim p boom) s = .next (t.answered p .cancelClaim .done (some i)) ∧
        t.entry i = some { e with holeState := .planned, claimant := none, result := none } ∧
        (∀ j, j ≠ i → t.entry j = s.entry j) ∧
        t.rows = ((s.setEntry i (some { e with
          holeState := .planned, claimant := none, result := none })).closingCheck e.row).rows ∧
        t.unit b = { s.unit b with cycle := .idle, workSlot := none, claimHeld := false } ∧
        t.unit b.other = s.unit b.other ∧ t.Posted (.stage b) ∧ s.NoticesWithin t [.stage b, .row] ∧
        s.PortsKept t none ∧ t = { s with slots := t.slots, rows := t.rows, units := t.units, ports := t.ports })

/-! ### Reports -/

/-- COLLARED, taken in CLAIMED, starts drilling: the hole DRILLING with its fresh result part, the cycle DRILLING with
a flush count of 0, and the flow request of 60 with minimum 30 of a boom that is not DRY. BOLT IN, taken in
AWAIT_BOLT, starts the spin: the hole BOLTED, the boom SPINNING, a flow request of 50 with minimum 50, and the spin
max timer from 0 once the boom is running. In any other state each is STATE. -/
def Obligations.CollaredAndBoltInStartStages : Prop :=
  ∀ (p : Port) (boom : Byte) (b : Boom) (s : State), s.Takes p → s.MayIssue p boom b →
    ((s.unit b).cycle ≠ .claimed → Answers (.collared p boom) s p .collared .state) ∧
    (∀ i e, (s.unit b).cycle = .claimed → s.Followed → (s.unit b).claimHeld = true → (s.unit b).workSlot = some i →
      s.entry i = some e → ∃ t : State,
        exec (.collared p boom) s = .next (t.answered p .collared .done (some i)) ∧
        t.entry i = some { e with
          holeState := .drilling
          result := some (collarResult (1200 + 300 * e.lengthClass - (s.active b).collarAllowance)) } ∧
        (∀ j, j ≠ i → t.entry j = s.entry j) ∧
        t.unit b = { s.unit b with
          cycle := .drilling, flushCount := 0, holds := (t.unit b).holds, feed := (t.unit b).feed,
          turn := (t.unit b).turn, abandonTimer := if s.laneInStep b then none else some 0 } ∧
        t.unit b.other = s.unit b.other ∧ t.Followed ∧
        t.arbiter = (if (s.unit b).dry then s.arbiter else (s.requestFlow ⟨b, .drilling, 60, 30⟩).arbiter) ∧
        t.Posted (.stage b) ∧ s.NoticesWithin t [.stage b, .flow b, .permit b] ∧ s.PortsKept t none ∧
        t = { s with slots := t.slots, units := t.units, arbiter := t.arbiter, ports := t.ports }) ∧
    ((s.unit b).cycle ≠ .awaitBolt → Answers (.boltIn p boom) s p .boltIn .state) ∧
    (∀ i e, (s.unit b).cycle = .awaitBolt → s.Followed → (s.unit b).claimHeld = true → (s.unit b).workSlot = some i →
      s.entry i = some e → ∃ t : State,
        exec (.boltIn p boom) s = .next (t.answered p .boltIn .done (some i)) ∧
        t.entry i = some { e with
          holeState := .bolted, result := e.result.map fun r => { r with spinRevs := some 0 } } ∧
        (∀ j, j ≠ i → t.entry j = s.entry j) ∧
        t.unit b = { s.unit b with
          cycle := .spinning, holds := (t.unit b).holds, turn := (t.unit b).turn,
          spinTimer := if (t.unit b).running then some 0 else none } ∧
        t.unit b.other = s.unit b.other ∧ t.Followed ∧
        t.arbiter = (if (s.unit b).dry then s.arbiter else (s.requestFlow ⟨b, .spinning, 50, 50⟩).arbiter) ∧
        t.Posted (.stage b) ∧ s.NoticesWithin t [.stage b, .flow .A, .flow .B] ∧ s.PortsKept t none ∧
        t = { s with slots := t.slots, units := t.units, arbiter := t.arbiter, ports := t.ports })

/-- The cartridge count: the smallest number from 1 up whose columns hold the bonded length with its loss allowance. -/
def Obligations.CartridgesCounted : Prop :=
  ∀ (p : ParamSet) (r : Result) (extra n : Nat), 0 < p.cartridgeColumn →
    (r.unreliable = true → extra = 8) →
    (r.unreliable = false → extra = min 8 (2 * (r.layers.filter fun x => x.cls == .void).length +
      (r.layers.filter fun x => x.cls == .soft && decide (50 ≤ x.length)).length)) →
    (cartridgeCount p r ≤ n ↔
      1 ≤ n ∧ (r.profiledDepth - p.freeLength) * (8 + extra) ≤ n * (8 * p.cartridgeColumn))

/-- BIT OUT, taken in WITHDRAWING, ends the withdrawal. With the claim held it takes a hole within the max cartridges to
the loader (granted at once when that is IDLE, else queued), rejects any other UNBONDABLE, and ends a dry run in TESTED;
without it the boom goes to IDLE and the table is not touched. -/
def Obligations.BitOutEndsWithdrawal : Prop :=
  ∀ (p : Port) (boom : Byte) (b : Boom) (s : State), s.Takes p → s.MayIssue p boom b →
    ((s.unit b).cycle ≠ .withdrawing → Answers (.bitOut p boom) s p .bitOut .state) ∧
    ((s.unit b).cycle = .withdrawing → s.Followed →
      ((s.unit b).claimHeld = false → ∃ t : State,
        exec (.bitOut p boom) s = .next (t.answered p .bitOut .done (s.unit b).workSlot) ∧
        t.unit b = { s.unit b with cycle := .idle, workSlot := none } ∧ t.unit b.other = s.unit b.other ∧
        t.Posted (.stage b) ∧ s.NoticesWithin t [.stage b] ∧ s.PortsKept t none ∧
        t = { s with units := t.units, ports := t.ports }) ∧
      (∀ i e r, (s.unit b).claimHeld = true → (s.unit b).workSlot = some i → s.entry i = some e →
        e.result = some r →
        (cartridgeCount (s.active b) r ≤ (s.active b).maxCartridges → (s.unit b).dry = false → ∃ t : State,
          exec (.bitOut p boom) s = .next (t.answered p .bitOut .done (some i)) ∧
          t.entry i = some { e with result := some { r with
            cartPlanned := some (cartridgeCount (s.active b) r), cartDelivered := some 0 } } ∧
          (∀ j, j ≠ i → t.entry j = s.entry j) ∧
          (s.loader.state = .idle → t.unit b = { s.unit b with cycle := .loading } ∧
            t.loader = { s.loader with
              state := .diverting, divert := b, stageTimer := some 0
              grant := some ⟨b, cartridgeCount (s.active b) r, 0, 0, false⟩ }) ∧
          (s.loader.state ≠ .idle → t.unit b = { s.unit b with cycle := .awaitResin } ∧
            t.loader = { s.loader with queue := s.loader.queue ++ [b] }) ∧
          t.unit b.other = s.unit b.other ∧ t.Posted (.stage b) ∧ s.NoticesWithin t [.stage b] ∧ s.PortsKept t none ∧
          t = { s with slots := t.slots, units := t.units, loader := t.loader, ports := t.ports }) ∧
        ((s.active b).maxCartridges < cartridgeCount (s.active b) r → (s.unit b).dry = false → ∃ t : State,
          exec (.bitOut p boom) s = .next (t.answered p .bitOut .done (some i)) ∧
          VerdictGiven s t b i .unbondable .idle ∧ t.engines = s.engines ∧
          (s.StagesAgree → t.loader = s.loader ∧ (s.unit b.other).SameWork (t.unit b.other))) ∧
        ((s.unit b).dry = true → ∃ t : State,
          exec (.bitOut p boom) s = .next (t.answered p .bitOut .done (some i)) ∧
          VerdictGiven (s.setEntry i (some { e with result := some { r with
            cartPlanned := if cartridgeCount (s.active b) r ≤ (s.active b).maxCartridges then
              some (cartridgeCount (s.active b) r) else r.cartPlanned } })) t b i .dry .idle ∧
          t.engines = s.engines ∧
          (s.StagesAgree → t.loader = s.loader ∧ (s.unit b.other).SameWork (t.unit b.other)))))

/-! ### Supervision -/

/-- SUSPEND, taken in DRILLING and TORQUING, stores the state, releases the flow, empties the hold set, stops the lane
abandon timer, pauses the torque stage timer, and drops the torque runs. RESUME, taken in SUSPENDED, returns the boom
to its stored state with that stage's flow request, and lets the paused timer run on, also where the request is
queued, which is read from R59 and R63 beside R151 (notes/assumptions/26.md). In other states both are STATE, and for
a boom byte that names none. -/
def Obligations.SuspendedAndResumed : Prop :=
  ∀ (boom : Byte) (s : State), s.Takes .C →
    (1 < boom.toNat → Answers (.suspend .C boom) s .C .suspend .state ∧
      Answers (.resume .C boom) s .C .resume .state) ∧
    (∀ b, boom = boomCode b →
      ((s.unit b).cycle ≠ .drilling → (s.unit b).cycle ≠ .torquing →
        Answers (.suspend .C boom) s .C .suspend .state) ∧
      ((s.unit b).cycle ≠ .suspended → Answers (.resume .C boom) s .C .resume .state) ∧
      (∀ x : StoredState, (s.unit b).cycle = x.cycle → s.Followed → ∃ t : State,
        exec (.suspend .C boom) s = .next (t.answered .C .suspend .done (s.unit b).workSlot) ∧
        t.unit b = { s.unit b with
          cycle := .suspended, stored := some x, holds := ⟨false, false, false⟩, abandonTimer := none
          torqueTimer := (match (s.unit b).torqueTimer with
            | .running n => .paused n
            | y => y)
          feed := false, turn := false } ∧
        t.engine b = (if x = .torquing then { s.engine b with seatRun := 0, engaged := false, slipRun := 0 }
          else s.engine b) ∧
        t.engine b.other = s.engine b.other ∧ (s.unit b.other).SameWork (t.unit b.other) ∧ t.Followed ∧
        t.arbiter = (s.releaseFlow b).arbiter ∧ t.Posted (.stage b) ∧
        s.NoticesWithin t [.stage b, .flow .A, .flow .B, .permit .A, .permit .B] ∧ s.PortsKept t none ∧
        t = { s with units := t.units, engines := t.engines, arbiter := t.arbiter, ports := t.ports }) ∧
      (∀ x : StoredState, (s.unit b).cycle = .suspended → (s.unit b).stored = some x → s.Followed → ∃ t : State,
        exec (.resume .C boom) s = .next (t.answered .C .resume .done none) ∧
        t.unit b = { s.unit b with
          cycle := x.cycle, stored := none, holds := (t.unit b).holds, torqueTimer := (t.unit b).torqueTimer
          abandonTimer := if x = .drilling ∧ s.laneInStep b = false then some 0 else none
          feed := (t.unit b).feed, turn := (t.unit b).turn } ∧
        (x = .torquing → ∀ n, (s.unit b).torqueTimer = .paused n → (t.unit b).torqueTimer = .running n) ∧
        t.engine b = (if x = .torquing ∧ (t.unit b).holds.present = true then
          { s.engine b with seatRun := 0, engaged := false, slipRun := 0 } else s.engine b) ∧
        t.engine b.other = s.engine b.other ∧ t.unit b.other = s.unit b.other ∧ t.Followed ∧
        t.arbiter = (if (s.unit b).dry then s.arbiter else (s.requestFlow (match x with
          | .drilling => ⟨b, .drilling, 60, 30⟩
          | .torquing => ⟨b, .torquing, 40, 40⟩)).arbiter) ∧
        t.Posted (.stage b) ∧ s.NoticesWithin t [.stage b, .flow .A, .flow .B, .permit b] ∧ s.PortsKept t none ∧
        t = { s with units := t.units, engines := t.engines, arbiter := t.arbiter, ports := t.ports }))

/-- ABORT, taken in every state but IDLE and HALTED, disposes of the hole by its state, releases the flow, gives up
the loader, clears the unit, drops the engine's open increment and windows, and leaves the boom HALTED. CLEAR takes a
HALTED boom to IDLE. That the drilled depth of a rejected DRILLING hole is written is read from R3
(notes/assumptions/14.md), and that a dropped open increment keeps its index, with a work of 0 and clear marks, is the
model's choice (notes/assumptions/29.md). -/
def Obligations.AbortHaltsAndClearFrees : Prop :=
  ∀ (boom : Byte) (s : State), s.Takes .C →
    (1 < boom.toNat → Answers (.abort .C boom) s .C .abort .state ∧ Answers (.clear .C boom) s .C .clear .state) ∧
    (∀ b, boom = boomCode b →
      ((s.unit b).cycle = .idle ∨ (s.unit b).cycle = .halted → Answers (.abort .C boom) s .C .abort .state) ∧
      ((s.unit b).cycle ≠ .halted → Answers (.clear .C boom) s .C .clear .state) ∧
      ((s.unit b).cycle = .halted → s.Followed → ∃ t : State,
        exec (.clear .C boom) s = .next (t.answered .C .clear .done none) ∧
        t.unit b = { s.unit b with cycle := .idle, workSlot := none } ∧ t.unit b.other = s.unit b.other ∧
        t.Posted (.stage b) ∧ s.NoticesWithin t [.stage b] ∧ s.PortsKept t none ∧
        t = { s with units := t.units, ports := t.ports }) ∧
      ((s.unit b).cycle ≠ .idle → (s.unit b).cycle ≠ .halted → s.Followed → s.ClaimsAgree → ∃ t : State,
        exec (.abort .C boom) s = .next (t.answered .C .abort .done
          (if (s.unit b).claimHeld then (s.unit b).workSlot else none)) ∧
        t.unit b = { BoomUnit.initial with
          cycle := .halted, activeSet := (s.unit b).activeSet, pendingSet := (s.unit b).pendingSet
          dry := (s.unit b).dry } ∧
        ((s.cancelLoader b).unit b.other).SameWork (t.unit b.other) ∧ t.Followed ∧
        t.arbiter = (s.releaseFlow b).arbiter ∧ t.loader = (s.cancelLoader b).loader ∧ t.Posted (.stage b) ∧
        (s.engine b).RunDropped (t.engine b) ∧ t.engine b.other = s.engine b.other ∧
        s.PortsBeside t ∧ s.NoticesWithin t [.verdict b, .stage .A, .stage .B, .flow .A, .flow .B, .permit .A,
          .permit .B, .table, .row] ∧
        t = { s with
          slots := t.slots, rows := t.rows, backlog := t.backlog, units := t.units, engines := t.engines
          loader := t.loader, arbiter := t.arbiter, ports := t.ports } ∧
        ((s.unit b).claimHeld = false → t.slots = s.slots ∧ t.rows = s.rows ∧ t.backlog = s.backlog) ∧
        (∀ i e, (s.unit b).claimHeld = true → (s.unit b).workSlot = some i → s.entry i = some e →
          ((e.validity = .held ∨ e.holeState = .claimed ∨
              (e.holeState = .drilling ∧ (s.engine b).currentDepth < 100)) →
            t.slots = (s.setEntry i (some { e with
              holeState := .planned, claimant := none, result := none })).slots ∧
            t.rows = ((s.setEntry i (some { e with
              holeState := .planned, claimant := none, result := none })).closingCheck e.row).rows ∧
            t.backlog = s.backlog) ∧
          (e.validity ≠ .held → e.holeState ≠ .claimed →
            (e.holeState = .drilling → 100 ≤ (s.engine b).currentDepth) →
            t.Posted (.verdict b) ∧ ∀ u, u = s.setEntry i (some { e with
              result := e.result.map fun r =>
                if e.holeState = .drilling then { r with drilledDepth := some (s.engine b).currentDepth } else r }) →
              t.slots = (u.tableVerdict i .aborted).slots ∧ t.rows = (u.tableVerdict i .aborted).rows ∧
              t.backlog = (u.tableVerdict i .aborted).backlog))))

/-- DRY ON and DRY OFF set and clear the flag of an IDLE boom; a taken change puts the boom's lane back to SILENT,
HUNTING, with no window, loss timer, sequence number or position, and keeps its counts. -/
def Obligations.DrySwitched : Prop :=
  ∀ (c : Instr) (n : CommandName) (boom : Byte) (x : Bool) (s : State), s.Takes .C →
    ((c = .dryOn .C boom ∧ n = .dryOn ∧ x = true) ∨ (c = .dryOff .C boom ∧ n = .dryOff ∧ x = false)) →
    (1 < boom.toNat → Answers c s .C n .state) ∧
    (∀ b, boom = boomCode b →
      ((s.unit b).cycle ≠ .idle → Answers c s .C n .state) ∧
      ((s.unit b).cycle = .idle → (s.unit b).dry = x → Answers c s .C n .done) ∧
      ((s.unit b).cycle = .idle → (s.unit b).dry ≠ x → s.Followed → ∃ t : State,
        exec c s = .next (t.answered .C n .done none) ∧
        t.unit b = { s.unit b with dry := x } ∧ t.unit b.other = s.unit b.other ∧
        t.lane b = { s.lane b with
          health := .silent, framer := .hunting, windowCount := 0, windowTally := 0, lossTimer := none
          lastSeq := none, lastPosition := none } ∧
        t.lane b.other = s.lane b.other ∧
        s.NoticesWithin t [.lane b] ∧ ((s.lane b).health ≠ .inStep → t.ports = s.ports) ∧ s.PortsKept t none ∧
        t = { s with units := t.units, lanes := t.lanes, ports := t.ports }))

/-! ### Parameters, selections and settings -/

/-- WRITE PARAMETERS brings every value into its range and replaces one set, or both in one action with PAIRED, answered
CLAMPED where a value was changed. A set number above 1 is STATE, a set in use IN_USE, and a void mode that is neither
ONE nor TWO, or a broken ordering, STATE; a refused write changes nothing. -/
def Obligations.ParametersWritten : Prop :=
  ∀ (set : Byte) (v w : ParamValues) (s : State), s.Takes .C →
    (∀ (u : ParamValues) (m : VoidMode), clampValues u m =
      ⟨min 7 u.productShift.toNat, u.tVoid.toNat, u.tMedium.toNat, u.tHard.toNat, m, min 500 u.voidLimit.toNat,
        max 300 (min 1200 u.zone.toNat), min 1200 u.competent.toNat, min 2 u.maxExtensions.toNat,
        min 200 u.collarAllowance.toNat / 10 * 10, min 600 u.freeLength.toNat,
        max 200 (min 1200 u.cartridgeColumn.toNat), max 1 (min 6 u.maxCartridges.toNat),
        max 5 (min 60 u.spinRevs.toNat), max 2000 (min 30000 u.spinMax.toNat), min 60000 u.setTime.toNat,
        max 20 (min 400 u.seatTorque.toNat), max 50 (min 600 u.targetTorque.toNat),
        max 60 (min 800 u.maxTorque.toNat), max 900 (min 14400 u.maxTurn.toNat),
        max 2000 (min 60000 u.torqueStage.toNat), min 255 u.incompleteLimit.toNat,
        max 500 (min 30000 u.laneAbandon.toNat)⟩) ∧
    (1 < set.toNat → Answers (.writeParameters .C set false v w) s .C .writeParameters .state) ∧
    (∀ n : SetNo,
      ((∃ b, (s.unit b).cycle ≠ .idle ∧ (s.unit b).activeSet = n) →
        Answers (.writeParameters .C n.byte false v w) s .C .writeParameters .inUse) ∧
      ((∀ b, (s.unit b).cycle = .idle ∨ (s.unit b).activeSet ≠ n) →
        (1 < v.voidMode.toNat → Answers (.writeParameters .C n.byte false v w) s .C .writeParameters .state) ∧
        (∀ m : VoidMode, m.word = v.voidMode →
          (¬ (clampValues v m).Sound →
            Answers (.writeParameters .C n.byte false v w) s .C .writeParameters .state) ∧
          ((clampValues v m).Sound → exec (.writeParameters .C n.byte false v w) s =
            .next (({ s with params := s.params.put n (clampValues v m) } : State).answered .C .writeParameters
              (if clampValues v m = rawValues v m then .done else .clamped) none))))) ∧
    ((∃ b, (s.unit b).cycle ≠ .idle) → Answers (.writeParameters .C set true v w) s .C .writeParameters .inUse) ∧
    ((∀ b, (s.unit b).cycle = .idle) →
      (1 < v.voidMode.toNat ∨ 1 < w.voidMode.toNat →
        Answers (.writeParameters .C set true v w) s .C .writeParameters .state) ∧
      (∀ m k : VoidMode, m.word = v.voidMode → k.word = w.voidMode →
        (¬ (clampValues v m).Sound ∨ ¬ (clampValues w k).Sound →
          Answers (.writeParameters .C set true v w) s .C .writeParameters .state) ∧
        ((clampValues v m).Sound → (clampValues w k).Sound → exec (.writeParameters .C set true v w) s =
          .next (({ s with params :=
              { s.params with set0 := clampValues v m, set1 := clampValues w k } } : State).answered .C
            .writeParameters
            (if clampValues v m = rawValues v m ∧ clampValues w k = rawValues w k then .done else .clamped) none))))

/-- SELECT SET sets the pending selection of a boom, or of both, and nothing else. WRITE MACHINE SETTINGS, taken while
both booms are IDLE, replaces the three settings, each brought into its range, with the MAGAZINE_LOW status worked out
again. -/
def Obligations.SelectionsAndSettingsTaken : Prop :=
  ∀ (boom set : Byte) (x y z : Word16) (s : State), s.Takes .C →
    (2 < boom.toNat ∨ 1 < set.toNat → Answers (.selectSet .C boom set) s .C .selectSet .state) ∧
    (∀ n : SetNo,
      (∀ b, exec (.selectSet .C (boomCode b) n.byte) s =
        .next ((s.setUnit b { s.unit b with pendingSet := n }).answered .C .selectSet .done none)) ∧
      exec (.selectSet .C 0x02 n.byte) s =
        .next (((s.setUnit .A { s.unit .A with pendingSet := n }).setUnit .B
          { s.unit .B with pendingSet := n }).answered .C .selectSet .done none)) ∧
    ((∃ b, (s.unit b).cycle ≠ .idle) →
      Answers (.writeMachineSettings .C x y z) s .C .writeMachineSettings .inUse) ∧
    ((∀ b, (s.unit b).cycle = .idle) → ∃ t : State,
      exec (.writeMachineSettings .C x y z) s = .next (t.answered .C .writeMachineSettings
        (if x.toNat ≤ 3000 ∧ 100 ≤ y.toNat ∧ y.toNat ≤ 1000 ∧ z.toNat ≤ 40 then .done else .clamped) none) ∧
      t.params.settings = ⟨min 3000 x.toNat, max 100 (min 1000 y.toNat), min 40 z.toNat⟩ ∧
      t.params.set0 = s.params.set0 ∧ t.params.set1 = s.params.set1 ∧
      (s.magazineLow = false → s.loader.magazine ≤ min 40 z.toNat → t.Posted .magazineLow) ∧
      (s.magazineLow = decide (s.loader.magazine ≤ min 40 z.toNat) → t.ports = s.ports) ∧
      s.NoticesWithin t [.magazineLow] ∧ s.PortsKept t none ∧ t = { s with params := t.params, ports := t.ports })

/-! ### Hydraulic flow -/

/-- DERATE brings its argument into 60 to 100 and not below the floor, makes it the derate target, and makes the service
pass; an argument equal to the present target changes nothing. After the pass the grants are within the capacity, the
request at the head of the queue cannot be granted, and no degraded grant has flow left to raise it. With two DRILLING
grants, the pass raises the older first, as far as it goes, and cuts the younger first. That an argument equal to the
present target is met before the floor is the model's reading (notes/assumptions/13.md). -/
def Obligations.DerateTaken : Prop :=
  (∀ (s : State) (x y : Boom) (g h : FlowGrant), s.arbiter.queue = [] → s.arbiter.order = [x, y] → x ≠ y →
    s.arbiter.grants.get x = some g → s.arbiter.grants.get y = some h → g.stage = .drilling → h.stage = .drilling →
    g.minimum ≤ g.amount → g.amount ≤ g.demand → g.degraded = decide (g.amount < g.demand) →
    h.minimum ≤ h.amount → h.amount ≤ h.demand → h.degraded = decide (h.amount < h.demand) →
    ∃ m n, s.servicePass.arbiter = { s.arbiter with
        grants := (s.arbiter.grants.set x (some { g with amount := m, degraded := decide (m < g.demand) })).set y
          (some { h with amount := n, degraded := decide (n < h.demand) }) } ∧
      (s.arbiter.total ≤ s.arbiter.capacity →
        m = g.amount + min (g.demand - g.amount) s.arbiter.available ∧
        n = h.amount + min (h.demand - h.amount) (s.arbiter.available - (m - g.amount))) ∧
      (s.arbiter.capacity < s.arbiter.total →
        n = h.amount - min (s.arbiter.total - s.arbiter.capacity) (h.amount - h.minimum) ∧
        m = g.amount - min (s.arbiter.total - s.arbiter.capacity - (h.amount - n)) (g.amount - g.minimum)) ∧
      (m ≠ g.amount → s.servicePass.Posted (.flow x)) ∧ (n ≠ h.amount → s.servicePass.Posted (.flow y))) ∧
  ∀ (x : Byte) (s : State), s.Takes .C →
    (x.toNat = s.arbiter.derate → Answers (.derate .C x) s .C .derate .done) ∧
    (x.toNat ≠ s.arbiter.derate → s.Followed → ∃ (t : State) (d : Nat),
      d = max (max 60 (min 100 x.toNat)) s.arbiter.floor ∧
      exec (.derate .C x) s = .next (t.answered .C .derate (if d = x.toNat then .done else .clamped) none) ∧
      t.arbiter = ((s.setArbiter { s.arbiter with derate := d }).servicePass).arbiter ∧ t.arbiter.derate = d ∧
      t.Followed ∧ (∀ b, (s.unit b).SameWork (t.unit b)) ∧
      s.NoticesWithin t [.flow .A, .flow .B, .permit .A, .permit .B] ∧ s.PortsKept t none ∧
      t = { s with units := t.units, arbiter := t.arbiter, ports := t.ports } ∧
      (s.StagesAgree → t.arbiter.total ≤ t.arbiter.capacity ∧
        (∀ r rest, t.arbiter.queue = r :: rest →
          t.arbiter.available < r.demand ∧ (r.stage = .drilling → t.arbiter.available < r.minimum) ∧
          ∀ g, r.stage ≠ .drilling → t.arbiter.grants.get r.boom.other = some g → g.stage = .drilling →
            g.amount - g.minimum < r.demand - t.arbiter.available) ∧
        (∀ b g, t.arbiter.grants.get b = some g → g.degraded = true → t.arbiter.available = 0) ∧
        (∀ b g h, s.arbiter.grants.get b = some g → g.stage ≠ .drilling → t.arbiter.grants.get b = some h → h = g)))

/-- A flow request: queued behind a queue that is not empty; else granted whole from the available flow; else a DRILLING
request granted degraded down to its minimum; else a SPINNING or TORQUING request granted by cutting the other boom's
DRILLING grant, not below that grant's minimum; else queued. -/
def Obligations.FlowRequestJudged : Prop :=
  ∀ (s : State) (r : FlowRequest),
    (s.requestFlow r = { s with arbiter := (s.requestFlow r).arbiter, ports := (s.requestFlow r).ports }) ∧
    (s.arbiter.queue ≠ [] →
      s.requestFlow r = { s with arbiter := { s.arbiter with queue := s.arbiter.queue ++ [r] } }) ∧
    (s.arbiter.queue = [] → r.demand ≤ s.arbiter.available →
      (s.requestFlow r).arbiter = { s.arbiter with
        grants := s.arbiter.grants.set r.boom (some ⟨r.stage, r.demand, r.minimum, r.demand, false⟩)
        order := if r.stage = .drilling then s.arbiter.order ++ [r.boom] else s.arbiter.order } ∧
      (s.requestFlow r).Posted (.flow r.boom) ∧ s.NoticesWithin (s.requestFlow r) [.flow r.boom]) ∧
    (s.arbiter.queue = [] → s.arbiter.available < r.demand → r.stage = .drilling →
      r.minimum ≤ s.arbiter.available →
      (s.requestFlow r).arbiter = { s.arbiter with
        grants := s.arbiter.grants.set r.boom (some ⟨.drilling, r.demand, r.minimum, s.arbiter.available, true⟩)
        order := s.arbiter.order ++ [r.boom] } ∧
      (s.requestFlow r).Posted (.flow r.boom) ∧ s.NoticesWithin (s.requestFlow r) [.flow r.boom]) ∧
    (∀ g, s.arbiter.queue = [] → s.arbiter.available < r.demand → r.stage ≠ .drilling →
      s.arbiter.grants.get r.boom.other = some g → g.stage = .drilling →
      (r.demand - s.arbiter.available ≤ g.amount - g.minimum →
        (s.requestFlow r).arbiter = { s.arbiter with
          grants := (s.arbiter.grants.set r.boom.other (some { g with
            amount := g.amount - (r.demand - s.arbiter.available), degraded := true })).set r.boom
            (some ⟨r.stage, r.demand, r.minimum, r.demand, false⟩) } ∧
        (s.requestFlow r).Posted (.flow r.boom) ∧ (s.requestFlow r).Posted (.flow r.boom.other) ∧
        s.NoticesWithin (s.requestFlow r) [.flow r.boom, .flow r.boom.other]) ∧
      (g.amount - g.minimum < r.demand - s.arbiter.available →
        s.requestFlow r = { s with arbiter := { s.arbiter with queue := [r] } })) ∧
    (s.arbiter.queue = [] → s.arbiter.available < r.demand →
      (r.stage = .drilling → s.arbiter.available < r.minimum) →
      (r.stage ≠ .drilling → ∀ g, s.arbiter.grants.get r.boom.other = some g → g.stage ≠ .drilling) →
      s.requestFlow r = { s with arbiter := { s.arbiter with queue := [r] } })

/-! ### The loader -/

/-- A firing that falls due, at the settle expiry or the gap expiry, asserts FIRE and starts the DONE timeout with a
cartridge in the magazine, and waits for the magazine with none. The end of the FIRE pulse lowers FIRE. An expiry that
finds the loader in another state changes nothing. Two things are the model's own: that a part which is held takes no
expiry (notes/assumptions/6.md), and that a row of an expiry whose timer has not run its time changes nothing
(notes/assumptions/7.md). REFILL sets the magazine, brought into 0 to 40; in WAIT_MAGAZINE a count above 0 fires at
once, and in FIRING the command is BUSY. The two loader statuses are worked out again. -/
def Obligations.LoaderFiresAndRefills : Prop :=
  ∀ (s : State) (c : Instr) (y : LoaderState) (x : Byte),
    (s.Followed → ∀ d, ((c = .settleExpiry ∧ y = .diverting ∧ d = 300) ∨
        (c = .loaderGapExpiry ∧ y = .gap ∧ d = 200)) →
      (s.isHeld = true ∨ s.loader.state ≠ y ∨ (∀ n, s.loader.stageTimer = some n → n < d) → exec c s = .next s) ∧
      (∀ n, s.isHeld = false → s.loader.state = y → s.loader.stageTimer = some n → d ≤ n →
        (0 < s.loader.magazine → exec c s = .next { s with loader := { s.loader with
          state := .firing, stageTimer := some 0, fire := true, pulseTimer := some 0 } }) ∧
        (s.loader.magazine = 0 →
          exec c s = .next { s with loader := { s.loader with state := .waitMagazine, stageTimer := none } })) ∧
      (s.isHeld = true ∨ (∀ n, s.loader.pulseTimer = some n → n < 20) → exec .firePulseEnd s = .next s) ∧
      (∀ n, s.isHeld = false → s.loader.pulseTimer = some n → 20 ≤ n →
        exec .firePulseEnd s = .next { s with loader := { s.loader with fire := false, pulseTimer := none } })) ∧
    (s.Takes .C →
      (s.loader.state = .firing → Answers (.refill .C x) s .C .refill .busy) ∧
      (s.loader.state ≠ .firing → ∃ t : State,
        exec (.refill .C x) s =
          .next (t.answered .C .refill (if x.toNat ≤ 40 then .done else .clamped) none) ∧
        t.loader = (if s.loader.state = .waitMagazine ∧ x ≠ 0x00 then
            { s.loader with
              magazine := min 40 x.toNat, state := .firing, stageTimer := some 0, fire := true, pulseTimer := some 0 }
          else { s.loader with magazine := min 40 x.toNat }) ∧
        (s.loaderStatus = false → t.loaderStatus = true → t.Posted .loader) ∧
        (s.magazineLow = false → t.magazineLow = true → t.Posted .magazineLow) ∧
        (s.loaderStatus = t.loaderStatus → s.magazineLow = t.magazineLow → t.ports = s.ports) ∧
        s.NoticesWithin t [.loader, .magazineLow] ∧ s.PortsKept t none ∧
        t = { s with loader := t.loader, ports := t.ports }))

/-- A DONE edge in FIRING takes one cartridge off the magazine. For the boom of the grant it counts one delivered: below
the planned count the loader goes to GAP, and at it the hole is RESINED, the boom AWAIT_BOLT, and the queue served. For
a cancelled grant it only settles. A JAM edge or the DONE timeout in FIRING takes one cartridge off and jams the loader.
In any other state they change nothing. Two things are the model's own: that a part which is held takes none of them
(notes/assumptions/6.md), and that a row of the timeout before its 3000 ms changes nothing (notes/assumptions/7.md). -/
def Obligations.LoaderDeliversAndJams : Prop :=
  ∀ (s : State), s.Followed → s.ClaimsAgree → s.StagesAgree →
    (s.isHeld = true ∨ s.loader.state ≠ .firing →
      exec .doneEdge s = .next s ∧ exec .jamEdge s = .next s ∧ exec .doneTimeoutExpiry s = .next s) ∧
    ((∀ n, s.loader.stageTimer = some n → n < 3000) → exec .doneTimeoutExpiry s = .next s) ∧
    (∀ g, s.isHeld = false → s.loader.state = .firing → s.loader.grant = some g →
      (∀ i e r, g.cancelled = false → (s.unit g.boom).claimHeld = true → (s.unit g.boom).workSlot = some i →
        s.entry i = some e → e.result = some r → ∃ t, exec .doneEdge s = .next t ∧
        t.entry i = some { e with
          holeState := if g.delivered + 1 = g.planned then .resined else e.holeState
          result := some { r with cartDelivered := some (g.delivered + 1) } } ∧
        (∀ j, j ≠ i → t.entry j = s.entry j) ∧
        (g.delivered + 1 ≠ g.planned → t.units = s.units ∧ t.loader = { s.loader with
          magazine := s.loader.magazine - 1, state := .gap, stageTimer := some 0
          grant := some { g with delivered := g.delivered + 1 } }) ∧
        (g.delivered + 1 = g.planned → t.unit g.boom = { s.unit g.boom with cycle := .awaitBolt } ∧
          t.loader = s.loaderServed { s.loader with magazine := s.loader.magazine - 1 } ∧
          t.unit g.boom.other = (if s.loader.queue = [] then s.unit g.boom.other
            else { s.unit g.boom.other with cycle := .loading }) ∧ t.Posted (.stage g.boom)) ∧
        s.NoticesWithin t [.stage .A, .stage .B, .loader, .magazineLow] ∧ s.PortsKept t none ∧
        t = { s with slots := t.slots, units := t.units, loader := t.loader, ports := t.ports }) ∧
      (g.cancelled = true → ∃ t, exec .doneEdge s = .next t ∧
        t.loader = s.loaderServed { s.loader with magazine := s.loader.magazine - 1 } ∧
        (∀ b, t.unit b = if s.loader.queue.head? = some b then { s.unit b with cycle := .loading } else s.unit b) ∧
        s.NoticesWithin t [.stage .A, .stage .B, .loader, .magazineLow] ∧ s.PortsKept t none ∧
        t = { s with units := t.units, loader := t.loader, ports := t.ports }) ∧
      (∀ c, c = .jamEdge ∨ (c = .doneTimeoutExpiry ∧ ∃ n, s.loader.stageTimer = some n ∧ 3000 ≤ n) → ∃ t,
        exec c s = .next t ∧
        t.loader = { s.loader with
          magazine := s.loader.magazine - 1, state := .jammed, stageTimer := none
          grant := if g.cancelled then none else some { g with jams := g.jams + 1 } } ∧
        (s.loaderStatus = false → t.Posted .loader) ∧ s.NoticesWithin t [.loader, .magazineLow] ∧
        s.PortsKept t none ∧ t = { s with loader := t.loader, ports := t.ports }))

/-- CLEAR JAM, taken in JAMMED, serves the queue where no boom waits for the tube, tries again after a first jam, and
rejects the hole with JAM after a second. In any other state it is STATE. -/
def Obligations.JamCleared : Prop :=
  ∀ (s : State), s.Takes .C →
    (s.loader.state ≠ .jammed → Answers (.clearJam .C) s .C .clearJam .state) ∧
    (s.loader.state = .jammed → s.Followed → s.ClaimsAgree → s.StagesAgree → ∃ t : State,
      exec (.clearJam .C) s = .next (t.answered .C .clearJam .done none) ∧ t.Followed ∧ s.PortsBeside t ∧
      s.NoticesWithin t [.verdict .A, .verdict .B, .stage .A, .stage .B, .flow .A, .flow .B, .permit .A, .permit .B,
        .table, .row, .loader] ∧
      (s.loader.grant = none ∨ (∃ g, s.loader.grant = some g ∧ g.cancelled = true) →
        t.loader = s.loaderServed s.loader ∧ s.TableKept t ∧ t.arbiter = s.arbiter ∧
        ∀ b, t.unit b = if s.loader.queue.head? = some b then { s.unit b with cycle := .loading } else s.unit b) ∧
      (∀ g, s.loader.grant = some g → g.cancelled = false →
        (g.jams < 2 → s.TableKept t ∧ t.units = s.units ∧ t.arbiter = s.arbiter ∧
          t.loader = { s.loader with state := .gap, stageTimer := some 0 }) ∧
        (∀ i e, 2 ≤ g.jams → (s.unit g.boom).claimHeld = true → (s.unit g.boom).workSlot = some i →
          s.entry i = some e → VerdictGiven s t g.boom i .jam .idle ∧ t.engines = s.engines ∧
            t.loader = s.loaderServed s.loader ∧
            (∀ c rest, s.loader.queue = c :: rest → (t.unit c).cycle = .loading ∧ t.Posted (.stage c)))))

/-! ### Sample lanes -/

/-- The framer: a sync value starts a frame, good characters are held up to 12, and a bad stop bit, or the gap timer 1
ms after the last byte held, tears the frame. The CRC-8 runs from 0 over each byte, most significant bit first, with
the generator x^8 + x^2 + x + 1. A complete frame is received where its CRC agrees, and discarded otherwise. A lane of
a boom in DRY mode drops every character. Five things are the model's own: that a part which is held takes no
character and no expiry (notes/assumptions/6.md), that a row of the gap expiry before its time changes nothing
(notes/assumptions/7.md), that a fresh health window is open at once when one closes (notes/assumptions/11.md), that
the flush watch sees a sample after the engine (notes/assumptions/24.md), and that timers, lines and torque runs follow
the hold set as the whole action leaves it (notes/assumptions/25.md). -/
def Obligations.LaneFramesTaken : Prop :=
  (∀ (l : List Byte) (x : Byte), crc8 (l ++ [x]) = 0x00 ↔ x = crc8 l) ∧
  (crc8 [] = 0x00 ∧ ∀ (l : List Byte) (x : Byte) (f : Byte → Byte),
    (∀ y, y.getLsbD 7 = false → f y = y <<< 1) → (∀ y, y.getLsbD 7 = true → f y = (y <<< 1) ^^^ 0x07) →
    crc8 (l ++ [x]) = f (f (f (f (f (f (f (f (crc8 l ^^^ x))))))))) ∧
  ∀ (b : Boom) (c : Byte) (s : State), s.Followed →
    (s.isHeld = true → ∀ good, exec (.laneCharacter b c good) s = .next s ∧
      exec (.gapTimerExpiry b) s = .next s) ∧
    (s.isHeld = false →
      ((s.unit b).dry = true → ∀ good, exec (.laneCharacter b c good) s = .next s) ∧
      ((s.lane b).framer = .hunting → exec (.gapTimerExpiry b) s = .next s ∧
        ((s.unit b).dry = false →
          exec (.laneCharacter b 0xA5 true) s =
            .next (s.setLane b { s.lane b with framer := .inFrame [0xA5] 0 }) ∧
          (c ≠ 0xA5 → exec (.laneCharacter b c true) s = .next s) ∧
          exec (.laneCharacter b c false) s = .next s)) ∧
      (∀ held n, (s.lane b).framer = .inFrame held n →
        (n = 0 → exec (.gapTimerExpiry b) s = .next s) ∧
        (1 ≤ n → ∃ t, exec (.gapTimerExpiry b) s = .next t ∧ Discarded s t b) ∧
        ((s.unit b).dry = false →
          (∃ t, exec (.laneCharacter b c false) s = .next t ∧ Discarded s t b) ∧
          (held.length < 11 → exec (.laneCharacter b c true) s =
            .next (s.setLane b { s.lane b with framer := .inFrame (held ++ [c]) 0 })) ∧
          (held.length = 11 → ∃ t, exec (.laneCharacter b c true) s = .next t ∧
            (c = crc8 (held.drop 1) → Admitted (s.setLane b { s.lane b with framer := .hunting }) t b
              ⟨argAt held 1, (wordAt held 2).toNat, (wordAt held 4).toNat, (wordAt held 6).toNat,
                (wordAt held 8).toNat, argAt held 10⟩) ∧
            (c ≠ crc8 (held.drop 1) → Discarded s t b)))))

/-- FEED SAMPLE gives a boom in DRY mode one received sample, whatever its cycle state, answered CLAMPED where a field
was above its range; a boom byte that names none, or a boom that is not in DRY mode, is STATE. Three things are the
model's own: that a fresh health window is open at once when one closes (notes/assumptions/11.md), that the flush watch
sees a sample after the engine (notes/assumptions/24.md), and that timers, lines and torque runs follow the hold set as
the whole action leaves it (notes/assumptions/25.md). -/
def Obligations.FedSampleAdmitted : Prop :=
  ∀ (boom seq : Byte) (position thrust speed torque : Word16) (flags : Byte) (s : State), s.Takes .C →
    (1 < boom.toNat → Answers (.feedSample .C boom seq position thrust speed torque flags) s .C .feedSample .state) ∧
    (∀ b, boom = boomCode b →
      ((s.unit b).dry = false →
        Answers (.feedSample .C boom seq position thrust speed torque flags) s .C .feedSample .state) ∧
      ((s.unit b).dry = true → ∃ t : State,
        exec (.feedSample .C boom seq position thrust speed torque flags) s =
          .next (t.answered .C .feedSample (if position.toNat ≤ 4095 ∧ thrust.toNat ≤ 1000 ∧ speed.toNat ≤ 1200 ∧
            torque.toNat ≤ 800 then .done else .clamped) none) ∧
        Admitted s t b ⟨seq, position.toNat, thrust.toNat, speed.toNat, torque.toNat, flags⟩))

/-- The transfer of a lane's fault counter to its report value, by TAKE COUNT in MANUAL mode and by the report period
in AUTO, with a REPORT notice; SET REPORT MODE; and the loss of a lane 50 ms after its last received frame. Expiries
of stopped timers change nothing, nor does one whose timer was started again in the meantime: a frame taken before the
loss expiry keeps the lane. That a row of an expiry before its time changes nothing, and that a part which is held
takes none, is the model's own (notes/assumptions/6.md, 7.md). -/
def Obligations.LaneCountsAndLoss : Prop :=
  ∀ (x y : Byte) (b : Boom) (s : State),
    (s.Takes .C → 1 < x.toNat → Answers (.takeCount .C x) s .C .takeCount .state) ∧
    (s.Takes .C → 1 < x.toNat ∨ 1 < y.toNat → Answers (.setReportMode .C x y) s .C .setReportMode .state) ∧
    (s.Takes .C → x = boomCode b →
      ((s.lane b).reportMode = .auto → Answers (.takeCount .C x) s .C .takeCount .state) ∧
      ((s.lane b).reportMode = .manual → exec (.takeCount .C x) s =
        .next (((s.setLane b { s.lane b with reportValue := (s.lane b).faults, faults := 0 }).post
          (.report b)).answered .C .takeCount .done none)) ∧
      (∀ m : ReportMode, y = m.byte → exec (.setReportMode .C x y) s =
        .next ((s.setLane b (if (s.lane b).reportMode = m then s.lane b else
          { s.lane b with reportMode := m, reportTimer := if m = .auto then some 0 else none })).answered .C
          .setReportMode .done none))) ∧
    (s.isHeld = true → exec (.reportPeriodExpiry b) s = .next s ∧ exec (.lossTimerExpiry b) s = .next s) ∧
    (s.Followed → s.isHeld = false →
      ((∀ n, (s.lane b).reportTimer = some n → n < 1000) → exec (.reportPeriodExpiry b) s = .next s) ∧
      (∀ n, (s.lane b).reportTimer = some n → 1000 ≤ n → exec (.reportPeriodExpiry b) s =
        .next ((s.setLane b { s.lane b with
          reportValue := (s.lane b).faults, faults := 0, reportTimer := some 0 }).post (.report b))) ∧
      ((∀ n, (s.lane b).lossTimer = some n → n < 50) → exec (.lossTimerExpiry b) s = .next s) ∧
      (∀ n, (s.lane b).lossTimer = some n → 50 ≤ n → ∃ t, exec (.lossTimerExpiry b) s = .next t ∧
        t.lane b = { s.lane b with
          health := .lost, faults := min 65535 ((s.lane b).faults + 1), windowCount := 0, windowTally := 0
          lossTimer := none, lastSeq := none, lastPosition := none } ∧
        t.lane b.other = s.lane b.other ∧
        t.engine b = (match (s.unit b).cycle with
          | .drilling => { s.engine b with openIncomplete := true }
          | .torquing => { s.engine b with seatRun := 0, engaged := false, slipRun := 0 }
          | _ => s.engine b) ∧
        t.engine b.other = s.engine b.other ∧ t.unit b.other = s.unit b.other ∧ (s.unit b).SameWork (t.unit b) ∧
        (t.unit b).holds.lane = (s.unit b).cycle.holdable ∧ t.Followed ∧
        s.NoticesWithin t [.countOver b, .lane b, .permit b] ∧ s.PortsKept t none ∧
        t = { s with units := t.units, lanes := t.lanes, engines := t.engines, ports := t.ports }))

/-! ### Stage timers -/

/-- The expiries of the stage timers: lane abandon rejects a DRILLING hole LANE_LOST (and ends a dry run's drilling),
spin max rejects SPIN_SHORT, the set timer takes the boom to TORQUING with a request of 40, and the torque stage timer
gives TORQUE_LOW of a seated bolt and NO_SEAT of another. In another cycle state they change nothing. Three things are
the model's own: that a part which is held takes no expiry (notes/assumptions/6.md), that a row of an expiry whose timer
has not run the time of the active set changes nothing (notes/assumptions/7.md), and that a dropped open increment
keeps its index, with a work of 0 and clear marks (notes/assumptions/29.md). -/
def Obligations.StageTimersExpire : Prop :=
  ∀ (b : Boom) (s : State), s.Followed →
    ((s.isHeld = true ∨ (s.unit b).cycle ≠ .drilling ∨
          (∀ n, (s.unit b).abandonTimer = some n → n < (s.active b).laneAbandon) →
        exec (.laneAbandonExpiry b) s = .next s) ∧
      (s.isHeld = true ∨ (s.unit b).cycle ≠ .spinning ∨
          (∀ n, (s.unit b).spinTimer = some n → n < (s.active b).spinMax) →
        exec (.spinMaxExpiry b) s = .next s) ∧
      (s.isHeld = true ∨ (s.unit b).cycle ≠ .setting ∨
          (∀ n, (s.unit b).setTimer = some n → n < (s.active b).setTime) →
        exec (.setTimerExpiry b) s = .next s) ∧
      (s.isHeld = true ∨ (s.unit b).cycle ≠ .torquing ∨
          (∀ n, (s.unit b).torqueTimer = .running n → n < (s.active b).torqueStage) →
        exec (.torqueStageExpiry b) s = .next s)) ∧
    (∀ i e r, s.isHeld = false → (s.unit b).claimHeld = true → (s.unit b).workSlot = some i → s.entry i = some e →
      e.result = some r →
      (∀ n, (s.unit b).cycle = .drilling → (s.unit b).abandonTimer = some n → (s.active b).laneAbandon ≤ n → ∃ t,
        exec (.laneAbandonExpiry b) s = .next t ∧
        t.engine b = { s.engine b with
          accumulator := 0, openIncomplete := false, openSaturated := false, window := [], heldWindow := none } ∧
        t.engine b.other = s.engine b.other ∧
        ((s.unit b).dry = false →
          VerdictGiven (s.setEntry i (some { e with
            result := some { r with drilledDepth := some (s.engine b).currentDepth } })) t b i .laneLost
            .withdrawing) ∧
        ((s.unit b).dry = true →
          t.entry i = some { e with
            holeState := .drilled, result := some { r with drilledDepth := some (s.engine b).currentDepth } } ∧
          (∀ j, j ≠ i → t.entry j = s.entry j) ∧
          t.unit b = { s.unit b with
            cycle := .withdrawing, holds := ⟨false, false, false⟩, abandonTimer := none, feed := false
            turn := false } ∧
          t.arbiter = (s.releaseFlow b).arbiter ∧ t.Posted (.stage b) ∧ t.Followed ∧ t.rows = s.rows ∧
          t.backlog = s.backlog ∧ t.loader = s.loader)) ∧
      (∀ n, (s.unit b).cycle = .spinning → (s.unit b).spinTimer = some n → (s.active b).spinMax ≤ n → ∃ t,
        exec (.spinMaxExpiry b) s = .next t ∧
        VerdictGiven s t b i .spinShort .idle ∧ t.engines = s.engines ∧ (s.StagesAgree → t.loader = s.loader)) ∧
      (∀ n, (s.unit b).cycle = .setting → (s.unit b).setTimer = some n → (s.active b).setTime ≤ n → ∃ t,
        exec (.setTimerExpiry b) s = .next t ∧
        t.unit b = { s.unit b with
          cycle := .torquing, holds := (t.unit b).holds, setTimer := none, turn := (t.unit b).turn
          torqueTimer := if (t.unit b).running then .running 0 else .notStarted } ∧
        t.engine b = (if (t.unit b).running then s.engine b
          else { s.engine b with seatRun := 0, engaged := false, slipRun := 0 }) ∧
        t.engine b.other = s.engine b.other ∧ t.unit b.other = s.unit b.other ∧ t.Followed ∧
        t.arbiter = (if (s.unit b).dry then s.arbiter else (s.requestFlow ⟨b, .torquing, 40, 40⟩).arbiter) ∧
        t.Posted (.stage b) ∧ s.NoticesWithin t [.stage b, .flow .A, .flow .B] ∧ s.PortsKept t none ∧
        t = { s with units := t.units, engines := t.engines, arbiter := t.arbiter, ports := t.ports }) ∧
      (∀ n, (s.unit b).cycle = .torquing → (s.unit b).torqueTimer = .running n → (s.active b).torqueStage ≤ n → ∃ t,
        exec (.torqueStageExpiry b) s = .next t ∧
        VerdictGiven s t b i (if (s.engine b).seated then .torqueLow else .noSeat) .idle ∧ t.engines = s.engines ∧
        (s.StagesAgree → t.loader = s.loader)))

/-! ### Drilling energy and profile -/

/-- A sample in DRILLING: the first sets the collar and credits no work; each later one moves the current depth, credits
its thrust and rotation work to the open increment, which saturates, and moves the front when it is the deepest. Where
the front passes no boundary and does not come to the target, that is all it does. The close of an increment: HARD
where saturated; the held class, SOFT before any, where incomplete; else by its energy, the work shifted right by the
product shift and limited to 65535, against the three thresholds. The counts, the unreliable mark and the held class
follow, and the hole's record with them, and the increment joins the window, which is closed with its eighth. A sample
that takes the front across boundaries closes the open increment with its work and marks and the passed-over ones with
a work of 0, and opens the one that the front is in; one that takes the front to the target closes up to the target,
and makes the target test. Once the void total is past its limit, no increment is closed. That a front already past the
target is tested at the next sample that moves it is the model's reading (notes/assumptions/10.md). -/
def Obligations.SampleWorkAndIncrements : Prop :=
  (∀ (d : DrillRun) (p : ParamSet) (x : Sample),
    (d.engine.collar = none → d.sample p x = ({ d with
      engine := { d.engine with
        collar := some x.position, reference := some x.position, currentDepth := 0, frontDepth := 0 }
      result := { d.result with collar := some x.position } }, .goesOn)) ∧
    (∀ c ref depth w, d.engine.collar = some c → d.engine.reference = some ref → depth = x.position - c →
      w = x.thrust * min 40 (x.position - ref) + x.torque * x.speed * 686 / 65536 →
      (x.thrust ≤ 1000 → x.torque ≤ 800 → x.speed ≤ 1200 → w ≤ 50048) ∧
      (depth ≤ d.engine.frontDepth ∨
          (depth < d.result.target ∧ depth / 10 = d.engine.frontDepth / 10) →
        d.sample p x = ({ d with engine := { d.engine with
          reference := some x.position, currentDepth := depth, frontDepth := max d.engine.frontDepth depth
          accumulator := min 16777215 (d.engine.accumulator + w)
          openSaturated := d.engine.openSaturated || decide (16777215 ≤ d.engine.accumulator + w) } }, .goesOn)) ∧
      (∀ d0 t, d.engine.frontDepth < depth →
        d0 = { d with engine := { d.engine with
          reference := some x.position, currentDepth := depth, frontDepth := depth
          accumulator := min 16777215 (d.engine.accumulator + w)
          openSaturated := d.engine.openSaturated || decide (16777215 ≤ d.engine.accumulator + w) } } →
        (depth < d.result.target → d.engine.frontDepth / 10 < depth / 10 → t = d0.closeTo p (depth / 10) →
          d.sample p x = (t, if t.overVoid then .overVoid else .goesOn)) ∧
        (d.result.target ≤ depth → t = d0.closeTo p (d.result.target / 10) →
          d.sample p x = if t.overVoid then (t, .overVoid) else t.targetTest p)))) ∧
  (∀ (d : DrillRun) (p : ParamSet) (k j : Nat), k = d.engine.openIncrement →
    (j ≤ k → d.closeTo p j = d) ∧
    (∀ u, k < j → u = (List.range' (k + 1) (j - k - 1)).foldl (fun v i => v.close p i 0 false false)
        (d.close p k d.engine.accumulator d.engine.openIncomplete d.engine.openSaturated) →
      d.closeTo p j = { u with engine := { u.engine with
        openIncrement := j, accumulator := 0, openIncomplete := false, openSaturated := false } })) ∧
  (∀ (d : DrillRun) (p : ParamSet) (k w : Nat) (incomplete saturated : Bool), d.overVoid = true →
    d.close p k w incomplete saturated = d) ∧
  ∀ (d : DrillRun) (p : ParamSet) (k w energy inc sat : Nat) (incomplete saturated : Bool) (c : LayerClass),
    d.overVoid = false → energy = min 65535 (w >>> p.productShift) →
    c = (if saturated then .hard
      else if incomplete then d.engine.heldClass.getD .soft
      else if energy < p.tVoid then .void
      else if energy < p.tMedium then .soft
      else if energy < p.tHard then .medium else .hard) →
    inc = (if incomplete then min 255 (d.engine.incomplete + 1) else d.engine.incomplete) →
    sat = (if saturated then min 255 (d.engine.saturated + 1) else d.engine.saturated) →
    ∀ u l, l = d.engine.window ++ [⟨k, c, incomplete, saturated⟩] →
    u = { d with
      engine := { d.engine with
        incomplete := inc, saturated := sat
        unreliable := d.engine.unreliable || (incomplete && decide (p.incompleteLimit < inc))
        heldClass := if incomplete then d.engine.heldClass else some c
        window := if l.length < 8 then l else [] }
      result := { d.result with
        incomplete := inc, saturated := sat
        unreliable := d.engine.unreliable || (incomplete && decide (p.incompleteLimit < inc)) } } →
    d.close p k w incomplete saturated = if l.length < 8 then u else u.windowFull p ⟨l, windowOpen l⟩

/-- Windows and layers. A window of two or more is open with three quarters of its increments VOID, rounded up. A
released window lays 10 mm for each increment, in its effective class: VOID throughout a void window, and else its own
class with SOFT for VOID. An increment extends the last layer where the class is the same, starts a new one while there
are fewer than 8, and else merges into the last at the weaker class, with its mark. A void total past its limit drops
the windows. In ONE mode a full window is released as it closes, void if open; in TWO mode the held one is, void if it
and a neighbour are open, and the closed one is held. A sample in DRILLING writes its run into the engine and the hole,
with an offer of VOID for each change; one whose run passes the void limit rejects the hole VOID, or ends a dry run's
drilling. That VOID is offered at each release of one sample is the model's reading (notes/assumptions/9.md), and that
a dropped open increment keeps its index, with a work of 0 and clear marks, its choice (notes/assumptions/29.md). -/
def Obligations.WindowsReleased : Prop :=
  (∀ l : List IncRecord, windowOpen l = true ↔
    2 ≤ l.length ∧ 3 * l.length ≤ 4 * (l.filter fun r => r.cls == .void).length) ∧
  (∀ (r : Result) (w : Window) (isVoid : Bool), r.LayersAgree →
    (r.layWindow w isVoid).LayersAgree ∧
    (r.layWindow w isVoid).profiledDepth = r.profiledDepth + 10 * w.records.length ∧
    r.voidTotal ≤ (r.layWindow w isVoid).voidTotal ∧
    (isVoid = true → (r.layWindow w isVoid).layers.length < 8 →
      (r.layWindow w isVoid).voidTotal = r.voidTotal + 10 * w.records.length) ∧
    (isVoid = false → (r.layWindow w isVoid).layers.length < 8 →
      (r.layWindow w isVoid).voidTotal = r.voidTotal)) ∧
  (∀ (r u : Result) (w : Window) (isVoid : Bool),
    u = w.records.foldl (fun q x => q.layInc (if isVoid then .void else if x.cls = .void then .soft else x.cls)) r →
    r.layWindow w isVoid =
      { u with voidTotal := ((u.layers.filter fun x => x.cls == .void).map Layer.length).sum }) ∧
  (∀ (r : Result) (c : LayerClass),
    (r.layers = [] → r.layInc c = { r with layers := [⟨0, 10, c, false⟩], profiledDepth := r.profiledDepth + 10 }) ∧
    (∀ l x, r.layers = l ++ [x] →
      (c = x.cls → r.layInc c = { r with
        layers := l ++ [{ x with length := x.length + 10 }], profiledDepth := r.profiledDepth + 10 }) ∧
      (c ≠ x.cls → r.layers.length < 8 → r.layInc c = { r with
        layers := r.layers ++ [⟨r.profiledDepth, 10, c, false⟩], profiledDepth := r.profiledDepth + 10 }) ∧
      (∀ m : LayerClass, c ≠ x.cls → 8 ≤ r.layers.length → (m = c ∨ m = x.cls) →
        m.byte.toNat ≤ c.byte.toNat → m.byte.toNat ≤ x.cls.byte.toNat → r.layInc c = { r with
          layers := l ++ [{ x with length := x.length + 10, cls := m, merged := true }]
          profiledDepth := r.profiledDepth + 10 }))) ∧
  (∀ (d : DrillRun) (p : ParamSet) (w : Window) (isVoid past : Bool) (q : Result), q = d.result.layWindow w isVoid →
    past = decide (p.voidLimit < q.voidTotal) →
    d.release p w isVoid = { d with
      result := q
      engine := { d.engine with
        voidState := isVoid
        window := if past then [] else d.engine.window
        heldWindow := if past then none else d.engine.heldWindow }
      voidChanges := if d.engine.voidState = isVoid then d.voidChanges else d.voidChanges ++ [isVoid]
      overVoid := past }) ∧
  (∀ (d : DrillRun) (p : ParamSet) (w : Window),
    (p.voidMode = .one → d.windowFull p w = d.release p w w.isOpen) ∧
    (p.voidMode = .two → d.engine.heldWindow = none →
      (d.overVoid = false → d.windowFull p w = { d with engine := { d.engine with heldWindow := some w } })) ∧
    (∀ h, p.voidMode = .two → d.engine.heldWindow = some h →
      ((d.windowFull p w).result =
          d.result.layWindow h (h.isOpen && (d.engine.previousOpen || w.isOpen)) ∧
        (d.windowFull p w).engine.voidState = (h.isOpen && (d.engine.previousOpen || w.isOpen)) ∧
        ((d.windowFull p w).overVoid = true ↔ p.voidLimit < (d.windowFull p w).result.voidTotal) ∧
        (d.windowFull p w).engine.previousOpen = h.isOpen ∧
        (d.windowFull p w).engine.heldWindow =
          if p.voidLimit < (d.windowFull p w).result.voidTotal then none else some w))) ∧
  (∀ (b : Boom) (s u : State) (i : Slot) (e : Entry) (d : DrillRun), s.NoticesSound →
    (s.unit b).claimHeld = true → (s.unit b).workSlot = some i → s.entry i = some e → u = s.applyRun b d →
    u.entry i = some { e with lengthClass := d.lengthClass, result := some d.result } ∧
    (∀ j, j ≠ i → u.entry j = s.entry j) ∧ u.engine b = d.engine ∧ u.engine b.other = s.engine b.other ∧
    (true ∈ d.voidChanges → u.Posted (.void b)) ∧
    (∀ p, false ∈ d.voidChanges → (s.port p).edges.void = .any → .void b ∈ (u.port p).pending) ∧
    (d.voidChanges = [] → u.ports = s.ports) ∧
    s.NoticesWithin u [.void b] ∧ s.PortsKept u none ∧
    u = { s with slots := u.slots, engines := u.engines, ports := u.ports }) ∧
  (∀ (b : Boom) (x : Sample) (s u t : State) (i : Slot) (e : Entry) (r : Result) (d : DrillRun), s.Followed →
    (s.unit b).cycle = .drilling → (s.unit b).claimHeld = true → (s.unit b).workSlot = some i → s.entry i = some e →
    e.result = some r → (s.runOf b e r).sample (s.active b) x = (d, .overVoid) → u = s.applyRun b d →
    t = s.acting (fun v => v.engineSample b x) →
    d.engine.RunDropped (t.engine b) ∧ t.engine b.other = s.engine b.other ∧
    ∀ f, f = { e with
        lengthClass := d.lengthClass
        result := some { d.result with drilledDepth := some d.engine.currentDepth } } →
      ((s.unit b).dry = false →
        VerdictGiven (u.setEntry i (some f)) t b i .void .withdrawing ∧ (s.StagesAgree → t.loader = s.loader)) ∧
      ((s.unit b).dry = true → t.entry i = some { f with holeState := .drilled } ∧
        (∀ j, j ≠ i → t.entry j = s.entry j) ∧ t.rows = s.rows ∧ t.backlog = s.backlog ∧
        t.unit b = { s.unit b with
          cycle := .withdrawing, holds := ⟨false, false, false⟩, abandonTimer := none, feed := false
          turn := false } ∧
        t.arbiter = (s.releaseFlow b).arbiter ∧ t.Posted (.stage b) ∧ t.Followed ∧ t.loader = s.loader))

/-- The target test. First the flush: the current window, of fewer than 8 increments, is closed, and in TWO mode the
held window is released before it, each judged by its neighbours; a void limit that one of them passes ends the flush.
Then a competent and reliable hole has reached its target; a weak one is extended by 300 mm while it has an extension
and a longer class left, with its window base and open increment at the old target; and any other carries a weak
anchor. The competent length is the MEDIUM and HARD rock in the zone above the target. A sample in DRILLING that goes
on leaves its run in the engine and the hole; one that extends also posts EXTEND; and one that reaches the target ends
drilling: the hole DRILLED with its drilled depth, the boom WITHDRAWING with its flow released, and the run
dropped. That a dropped open increment keeps its index, with a work of 0 and clear marks, is the model's choice
(notes/assumptions/29.md). -/
def Obligations.TargetTested : Prop :=
  (∀ (d u v : DrillRun) (p : ParamSet) (l : List IncRecord), l = d.engine.window → d.overVoid = false →
    ((p.voidMode = .one ∨ d.engine.heldWindow = none) →
      (l = [] → d.flush p = d.runEnded) ∧
      (∀ isVoid, l ≠ [] → (p.voidMode = .one → isVoid = windowOpen l) →
        (p.voidMode = .two → isVoid = (windowOpen l && d.engine.previousOpen)) →
        u = ({ d with engine := { d.engine with window := [] } } : DrillRun).release p ⟨l, windowOpen l⟩ isVoid →
        d.flush p = if u.overVoid then u else u.runEnded)) ∧
    (∀ h, p.voidMode = .two → d.engine.heldWindow = some h →
      v = ({ d with engine := { d.engine with
        window := [], heldWindow := none, previousOpen := h.isOpen } } : DrillRun).release p h
        (h.isOpen && (d.engine.previousOpen || (!l.isEmpty && windowOpen l))) →
      (v.overVoid = true → d.flush p = v) ∧
      (v.overVoid = false → l = [] → d.flush p = v.runEnded) ∧
      (v.overVoid = false → l ≠ [] → u = v.release p ⟨l, windowOpen l⟩ (windowOpen l && h.isOpen) →
        d.flush p = if u.overVoid then u else u.runEnded))) ∧
  (∀ (d t : DrillRun) (p : ParamSet) (competent : Nat), t = d.flush p →
    competent = ((t.result.layers.filter fun x => x.cls == .medium || x.cls == .hard).map fun x =>
      min (x.start + x.length) t.result.target - max x.start (t.result.target - p.zone)).sum →
    (t.overVoid = true → d.targetTest p = (t, .overVoid)) ∧
    (t.overVoid = false → p.competent ≤ competent → t.result.unreliable = false → d.targetTest p = (t, .reached)) ∧
    (t.overVoid = false → competent < p.competent ∨ t.result.unreliable = true →
      (t.result.extensions < p.maxExtensions → t.lengthClass < 4 →
        d.targetTest p = ({ t with
          lengthClass := t.lengthClass + 1
          result := { t.result with
            target := t.result.target + 300, extensions := t.result.extensions + 1 }
          engine := { t.engine with
            windowBase := t.result.target / 10, openIncrement := t.result.target / 10, accumulator := 0
            openIncomplete := false, openSaturated := false } }, .extended)) ∧
      (p.maxExtensions ≤ t.result.extensions ∨ 4 ≤ t.lengthClass →
        d.targetTest p = ({ t with engine := { t.engine with weakAnchor := true } }, .reached)))) ∧
  (∀ (b : Boom) (x : Sample) (s u t : State) (i : Slot) (e : Entry) (r : Result) (d : DrillRun) (o : DrillOutcome),
    s.Followed → (s.unit b).cycle = .drilling → (s.unit b).claimHeld = true → (s.unit b).workSlot = some i →
    s.entry i = some e → e.result = some r → (s.runOf b e r).sample (s.active b) x = (d, o) → u = s.applyRun b d →
    t = s.acting (fun v => v.engineSample b x) →
    (o = .goesOn → t = u) ∧ (o = .extended → t = u.post (.extend b)) ∧
    (o = .reached →
      t.entry i = some { e with
        holeState := .drilled
        lengthClass := d.lengthClass
        result := some { d.result with drilledDepth := some d.engine.currentDepth } } ∧
      (∀ j, j ≠ i → t.entry j = s.entry j) ∧
      t.unit b = { s.unit b with
        cycle := .withdrawing, holds := ⟨false, false, false⟩, abandonTimer := none, feed := false, turn := false } ∧
      (s.unit b.other).SameWork (t.unit b.other) ∧ t.Followed ∧
      d.engine.RunDropped (t.engine b) ∧ t.engine b.other = s.engine b.other ∧
      t.arbiter = (s.releaseFlow b).arbiter ∧ t.Posted (.stage b) ∧
      u.NoticesWithin t [.stage b, .flow .A, .flow .B, .permit .A, .permit .B] ∧ s.PortsKept t none ∧
      t = { s with
        slots := t.slots, units := t.units, engines := t.engines, arbiter := t.arbiter, ports := t.ports }))

/-! ### Spin, set and torque -/

/-- Samples in SPINNING and SETTING. In SPINNING the revolution sum takes the speed and the spin revolutions follow it,
and nothing else changes below the spin revs; at them the boom goes on to SETTING with its set timer from 0, or through
it to TORQUING where the set time is 0, and the rest of the unit, the loader, the rows and the other boom's work are as
they were. A speed above 20 rpm in SETTING rejects the hole SET_DISTURBED, and any other sample there changes nothing.
That a boom held at its entry to TORQUING drops its runs in the same action is read from R137
(notes/assumptions/25.md). -/
def Obligations.SpinAndSetSamples : Prop :=
  ∀ (b : Boom) (x : Sample) (s t : State) (i : Slot) (e : Entry) (r : Result), s.Followed →
    (s.unit b).claimHeld = true → (s.unit b).workSlot = some i → s.entry i = some e → e.result = some r →
    t = s.acting (fun u => u.engineSample b x) →
    ((s.unit b).cycle = .spinning → ∀ n g f, n = min 1048575 ((s.engine b).revolutionSum + x.speed) →
      g = { s.engine b with revolutionSum := n } →
      f = { e with result := some { r with spinRevs := some (n / 6000) } } →
      (n < (s.active b).spinRevs * 6000 → t = (s.setEntry i (some f)).setEngine b g) ∧
      ((s.active b).spinRevs * 6000 ≤ n →
        t.entry i = some f ∧ (∀ j, j ≠ i → t.entry j = s.entry j) ∧
        (0 < (s.active b).setTime →
          t.unit b = { s.unit b with
            cycle := .setting, holds := ⟨false, false, false⟩, spinTimer := none, setTimer := some 0, turn := false } ∧
          t.engine b = g ∧ t.arbiter = (s.releaseFlow b).arbiter) ∧
        ((s.active b).setTime = 0 →
          t.unit b = { s.unit b with
            cycle := .torquing, holds := (t.unit b).holds, spinTimer := none, turn := (t.unit b).turn
            torqueTimer := if (t.unit b).running then .running 0 else .notStarted } ∧
          t.engine b = (if (t.unit b).running then g else { g with seatRun := 0, engaged := false, slipRun := 0 }) ∧
          t.arbiter = if (s.unit b).dry then (s.releaseFlow b).arbiter
            else ((s.releaseFlow b).requestFlow ⟨b, .torquing, 40, 40⟩).arbiter) ∧
        t.engine b.other = s.engine b.other ∧ (s.unit b.other).SameWork (t.unit b.other) ∧
        (s.unit b.other).TimersRunOn (t.unit b.other) ∧ t.Followed ∧ t.Posted (.stage b) ∧
        s.NoticesWithin t [.stage b, .flow .A, .flow .B, .permit .A, .permit .B] ∧ s.PortsKept t none ∧
        t = { s with
          slots := t.slots, units := t.units, engines := t.engines, arbiter := t.arbiter, ports := t.ports })) ∧
    ((s.unit b).cycle = .setting →
      (x.speed ≤ 20 → t = s) ∧ (20 < x.speed → VerdictGiven s t b i .setDisturbed .idle ∧ t.engines = s.engines))

/-- Samples in TORQUING, in the order of R138. A held boom judges none. A judged sample raises the peak and, once
seated, adds to the turn; it ends the hole at the target torque (OVERTORQUE, WEAK_ANCHOR or GOOD), past the max turn
(ANCHOR_SPIN), or at the third running sample below three quarters of the peak (ANCHOR_SLIP); and three running samples
at the seat torque seat the bolt. -/
def Obligations.TorqueSamplesJudged : Prop :=
  ∀ (b : Boom) (x : Sample) (s t : State) (i : Slot) (e : Entry) (r : Result) (p : ParamSet) (g : Engine)
    (peak turn : Nat) (u : Result),
    s.Followed → (s.unit b).cycle = .torquing → (s.unit b).claimHeld = true → (s.unit b).workSlot = some i →
    s.entry i = some e → e.result = some r → p = s.active b → g = s.engine b →
    t = s.acting (fun v => v.engineSample b x) → peak = max x.torque (g.peak.getD 0) →
    turn = (if g.seated then min 1048575 (g.turnSum + x.speed) else g.turnSum) →
    u = { r with
      peakTorque := some peak, turnAfterSeat := if g.seated then some (turn * 3 / 5) else r.turnAfterSeat } →
    ((s.unit b).holds.present = true → t = s) ∧
    ((s.unit b).holds.present = false →
      (p.targetTorque ≤ x.torque → VerdictGiven
        (s.setEntry i (some { e with result := some { u with finalTorque := some x.torque } })) t b i
        (if p.maxTorque < x.torque then .overtorque else if g.weakAnchor then .weakAnchor else .good) .idle ∧
        t.engine b = { g with peak := some peak, turnSum := turn }) ∧
      (x.torque < p.targetTorque → g.seated = true → p.maxTurn < turn * 3 / 5 →
        VerdictGiven (s.setEntry i (some { e with result := some u })) t b i .anchorSpin .idle ∧
        t.engine b = { g with peak := some peak, turnSum := turn }) ∧
      (x.torque < p.targetTorque → g.seated = true → turn * 3 / 5 ≤ p.maxTurn →
        (g.engaged = true → x.torque * 4 < peak * 3 → 2 ≤ g.slipRun →
          VerdictGiven (s.setEntry i (some { e with result := some u })) t b i .anchorSlip .idle ∧
          t.engine b = { g with peak := some peak, turnSum := turn, slipRun := 3 }) ∧
        (g.engaged = true → x.torque * 4 < peak * 3 → g.slipRun < 2 →
          t = (s.setEntry i (some { e with result := some u })).setEngine b { g with
            peak := some peak, turnSum := turn, slipRun := g.slipRun + 1 }) ∧
        (g.engaged = true → peak * 3 ≤ x.torque * 4 →
          t = (s.setEntry i (some { e with result := some u })).setEngine b { g with
            peak := some peak, turnSum := turn, slipRun := 0 }) ∧
        (g.engaged = false → g.slipRun = 0 →
          t = (s.setEntry i (some { e with result := some u })).setEngine b { g with
            peak := some peak, turnSum := turn, engaged := decide (p.seatTorque ≤ x.torque) })) ∧
      (x.torque < p.targetTorque → g.seated = false →
        (x.torque < p.seatTorque →
          t = (s.setEntry i (some { e with result := some u })).setEngine b { g with
            peak := some peak, seatRun := 0 }) ∧
        (p.seatTorque ≤ x.torque → g.seatRun < 2 →
          t = (s.setEntry i (some { e with result := some u })).setEngine b { g with
            peak := some peak, seatRun := g.seatRun + 1 }) ∧
        (p.seatTorque ≤ x.torque → 2 ≤ g.seatRun →
          t = (s.setEntry i (some { e with result := some { u with turnAfterSeat := some 0 } })).setEngine b { g with
            peak := some peak, seatRun := g.seatRun + 1, seated := true, engaged := true })))

/-! ### Invariants that every step keeps -/

/-- Every step keeps the booms in step with their conditions: the hold sets, the permit lines, the stage timers and the
torque runs. Every change of a status that a command or event makes is offered: after it a status that rose is pending
at every port, and one that fell at the ports in ANY mode for its kind. The resets clear the pending sets and offer
nothing. The statuses are those of PERMIT, LANE, VOID, LOADER and MAGAZINE_LOW, before and after the whole action
(notes/assumptions/9.md). -/
def Obligations.StepKeepsBoomsFollowed : Prop :=
  (∀ s t : State, s.Followed → step s = .next t → t.Followed) ∧
  ∀ (c : Instr) (s t : State) (p : Port), exec c s = .next t → c ≠ .powerOn → c ≠ .resetN → (∀ q, c ≠ .restart q) →
    ∀ n before after, ((∃ b, n = .permit b ∧ before = (s.unit b).feed ∧ after = (t.unit b).feed) ∨
        (∃ b, n = .lane b ∧ before = s.laneInStep b ∧ after = t.laneInStep b) ∨
        (∃ b, n = .void b ∧ before = (s.engine b).voidState ∧ after = (t.engine b).voidState) ∨
        (n = .loader ∧ before = s.loaderStatus ∧ after = t.loaderStatus) ∨
        (n = .magazineLow ∧ before = s.magazineLow ∧ after = t.magazineLow)) →
      (before = false → after = true → n ∈ (t.port p).pending) ∧
      (before = true → after = false → (s.port p).edges.mode n = .any → n ∈ (t.port p).pending)

/-- Every step keeps the Row Table in agreement with the entries, the claims in agreement with the booms, and the claims
of two booms in one row the min separation apart. -/
def Obligations.StepKeepsTableAgreed : Prop :=
  ∀ s t : State, s.RowsAgree → s.ClaimsAgree → s.ClaimsApart → step s = .next t →
    t.RowsAgree ∧ t.ClaimsAgree ∧ t.ClaimsApart

/-- Every step keeps the flow grants, the flow queue and the loader in agreement with the stages of the booms, and the
grants within the effective capacity, which is never above 100. -/
def Obligations.StepKeepsStagesAgreed : Prop :=
  (∀ s t : State, s.StagesAgree → step s = .next t → t.StagesAgree) ∧
  (∀ s : State, s.StagesAgree → s.arbiter.total ≤ s.arbiter.capacity ∧ s.arbiter.capacity ≤ 100)

/-- Every step keeps the profile of every hole in agreement with itself, the pending sets and attention lines in order,
the match contexts in ascending order, the stored figures in their ranges and orderings, and the counts, sums and runs
within their bounds. -/
def Obligations.StepKeepsFigures : Prop :=
  ∀ s t : State, step s = .next t →
    (s.ProfilesAgree → t.ProfilesAgree) ∧ (s.NoticesSound → t.NoticesSound) ∧ (s.ContextsOrdered → t.ContextsOrdered) ∧
      (s.StoreSound → t.StoreSound) ∧ (s.CountsBounded → t.CountsBounded)
end

