-- ==== Sys2Proof/Laws/State.lean ====
section
/-! SUPPORT. The field lemmas of the state: for each named update, what each field and each reader gives after it, so
that no proof unfolds a record update. -/

namespace Sys2Proof.Machine

/-! ### Pairs and triples -/

@[simp] theorem Pair.get_set_same {α : Type} (x : Pair α) (b : Boom) (v : α) : (x.set b v).get b = v := by
  cases b <;> rfl

@[simp] theorem Pair.get_set_other {α : Type} (x : Pair α) (b : Boom) (v : α) :
    (x.set b v).get b.other = x.get b.other := by
  cases b <;> rfl

theorem Pair.get_set {α : Type} (x : Pair α) (b c : Boom) (v : α) :
    (x.set b v).get c = if c = b then v else x.get c := by
  cases b <;> cases c <;> rfl

@[simp] theorem Pair.set_set {α : Type} (x : Pair α) (b : Boom) (v w : α) : (x.set b v).set b w = x.set b w := by
  cases b <;> rfl

@[simp] theorem Pair.set_get {α : Type} (x : Pair α) (b : Boom) : x.set b (x.get b) = x := by
  cases b <;> rfl

@[simp] theorem Triple.get_set_same {α : Type} (x : Triple α) (p : Port) (v : α) : (x.set p v).get p = v := by
  cases p <;> rfl

theorem Triple.get_set {α : Type} (x : Triple α) (p q : Port) (v : α) :
    (x.set p v).get q = if q = p then v else x.get q := by
  cases p <;> cases q <;> rfl

@[simp] theorem Triple.set_set {α : Type} (x : Triple α) (p : Port) (v w : α) : (x.set p v).set p w = x.set p w := by
  cases p <;> rfl

@[simp] theorem Triple.set_get {α : Type} (x : Triple α) (p : Port) : x.set p (x.get p) = x := by
  cases p <;> rfl

@[simp] theorem Triple.get_map {α : Type} (x : Triple α) (f : α → α) (p : Port) : (x.map f).get p = f (x.get p) := by
  cases p <;> rfl

@[simp] theorem Boom.other_other (b : Boom) : b.other.other = b := by
  cases b <;> rfl

theorem Boom.other_ne (b : Boom) : b.other ≠ b := by
  cases b <;> decide

theorem Boom.eq_or_eq_other (b c : Boom) : c = b ∨ c = b.other := by
  cases b <;> cases c <;> decide

/-! ### Readers after their own update -/

@[simp] theorem State.unit_setUnit_same (s : State) (b : Boom) (u : BoomUnit) : (s.setUnit b u).unit b = u :=
  Pair.get_set_same s.units b u

theorem State.unit_setUnit (s : State) (b c : Boom) (u : BoomUnit) :
    (s.setUnit b u).unit c = if c = b then u else s.unit c :=
  Pair.get_set s.units b c u

@[simp] theorem State.lane_setLane_same (s : State) (b : Boom) (l : Lane) : (s.setLane b l).lane b = l :=
  Pair.get_set_same s.lanes b l

theorem State.lane_setLane (s : State) (b c : Boom) (l : Lane) :
    (s.setLane b l).lane c = if c = b then l else s.lane c :=
  Pair.get_set s.lanes b c l

@[simp] theorem State.engine_setEngine_same (s : State) (b : Boom) (e : Engine) : (s.setEngine b e).engine b = e :=
  Pair.get_set_same s.engines b e

theorem State.engine_setEngine (s : State) (b c : Boom) (e : Engine) :
    (s.setEngine b e).engine c = if c = b then e else s.engine c :=
  Pair.get_set s.engines b c e

@[simp] theorem State.port_setPort_same (s : State) (p : Port) (q : PortState) : (s.setPort p q).port p = q :=
  Triple.get_set_same s.ports p q

theorem State.port_setPort (s : State) (p r : Port) (q : PortState) :
    (s.setPort p q).port r = if r = p then q else s.port r :=
  Triple.get_set s.ports p r q

@[simp] theorem State.port_mapPorts (s : State) (f : PortState → PortState) (p : Port) :
    (s.mapPorts f).port p = f (s.port p) :=
  Triple.get_map s.ports f p

theorem State.entry_setEntry (s : State) (i j : Slot) (e : Option Entry) :
    (s.setEntry i e).entry j = if j = i then e else s.entry j := by
  simp only [State.setEntry, State.entry, Vector.get_eq_getElem, Vector.getElem_set]
  by_cases h : i.val = j.val
  · simp [h, Fin.ext h.symm]
  · simp only [h, if_false]
    rw [if_neg fun k : j = i => h (congrArg Fin.val k).symm]

@[simp] theorem State.entry_setEntry_same (s : State) (i : Slot) (e : Option Entry) :
    (s.setEntry i e).entry i = e := by
  simp [State.entry_setEntry]

theorem State.entry_setEntry_ne (s : State) {i j : Slot} (h : j ≠ i) (e : Option Entry) :
    (s.setEntry i e).entry j = s.entry j := by
  simp [State.entry_setEntry, h]

/-! ### After `setUnit` -/

@[simp] theorem State.setUnit_slots (s : State) (b : Boom) (u : BoomUnit) : (s.setUnit b u).slots = s.slots := rfl
@[simp] theorem State.setUnit_rows (s : State) (b : Boom) (u : BoomUnit) : (s.setUnit b u).rows = s.rows := rfl
@[simp] theorem State.setUnit_backlog (s : State) (b : Boom) (u : BoomUnit) :
    (s.setUnit b u).backlog = s.backlog := rfl
@[simp] theorem State.setUnit_protection (s : State) (b : Boom) (u : BoomUnit) :
    (s.setUnit b u).protection = s.protection := rfl
@[simp] theorem State.setUnit_units (s : State) (b : Boom) (u : BoomUnit) :
    (s.setUnit b u).units = s.units.set b u := rfl
@[simp] theorem State.setUnit_lanes (s : State) (b : Boom) (u : BoomUnit) : (s.setUnit b u).lanes = s.lanes := rfl
@[simp] theorem State.setUnit_engines (s : State) (b : Boom) (u : BoomUnit) :
    (s.setUnit b u).engines = s.engines := rfl
@[simp] theorem State.setUnit_loader (s : State) (b : Boom) (u : BoomUnit) : (s.setUnit b u).loader = s.loader := rfl
@[simp] theorem State.setUnit_arbiter (s : State) (b : Boom) (u : BoomUnit) :
    (s.setUnit b u).arbiter = s.arbiter := rfl
@[simp] theorem State.setUnit_params (s : State) (b : Boom) (u : BoomUnit) : (s.setUnit b u).params = s.params := rfl
@[simp] theorem State.setUnit_ports (s : State) (b : Boom) (u : BoomUnit) : (s.setUnit b u).ports = s.ports := rfl
@[simp] theorem State.setUnit_guardPin (s : State) (b : Boom) (u : BoomUnit) :
    (s.setUnit b u).guardPin = s.guardPin := rfl
@[simp] theorem State.setUnit_supplyUp (s : State) (b : Boom) (u : BoomUnit) :
    (s.setUnit b u).supplyUp = s.supplyUp := rfl
@[simp] theorem State.setUnit_resetLow (s : State) (b : Boom) (u : BoomUnit) :
    (s.setUnit b u).resetLow = s.resetLow := rfl
@[simp] theorem State.setUnit_readCount (s : State) (b : Boom) (u : BoomUnit) :
    (s.setUnit b u).readCount = s.readCount := rfl
@[simp] theorem State.setUnit_tickCount (s : State) (b : Boom) (u : BoomUnit) :
    (s.setUnit b u).tickCount = s.tickCount := rfl
@[simp] theorem State.setUnit_pending (s : State) (b : Boom) (u : BoomUnit) :
    (s.setUnit b u).pending = s.pending := rfl

@[simp] theorem State.lane_setUnit (s : State) (b : Boom) (u : BoomUnit) (c : Boom) :
    (s.setUnit b u).lane c = s.lane c := rfl
@[simp] theorem State.engine_setUnit (s : State) (b : Boom) (u : BoomUnit) (c : Boom) :
    (s.setUnit b u).engine c = s.engine c := rfl
@[simp] theorem State.port_setUnit (s : State) (b : Boom) (u : BoomUnit) (w : Port) :
    (s.setUnit b u).port w = s.port w := rfl
@[simp] theorem State.entry_setUnit (s : State) (b : Boom) (u : BoomUnit) (j : Slot) :
    (s.setUnit b u).entry j = s.entry j := rfl

/-! ### After `setLane` -/

@[simp] theorem State.setLane_slots (s : State) (b : Boom) (l : Lane) : (s.setLane b l).slots = s.slots := rfl
@[simp] theorem State.setLane_rows (s : State) (b : Boom) (l : Lane) : (s.setLane b l).rows = s.rows := rfl
@[simp] theorem State.setLane_backlog (s : State) (b : Boom) (l : Lane) : (s.setLane b l).backlog = s.backlog := rfl
@[simp] theorem State.setLane_protection (s : State) (b : Boom) (l : Lane) :
    (s.setLane b l).protection = s.protection := rfl
@[simp] theorem State.setLane_units (s : State) (b : Boom) (l : Lane) : (s.setLane b l).units = s.units := rfl
@[simp] theorem State.setLane_lanes (s : State) (b : Boom) (l : Lane) : (s.setLane b l).lanes = s.lanes.set b l := rfl
@[simp] theorem State.setLane_engines (s : State) (b : Boom) (l : Lane) : (s.setLane b l).engines = s.engines := rfl
@[simp] theorem State.setLane_loader (s : State) (b : Boom) (l : Lane) : (s.setLane b l).loader = s.loader := rfl
@[simp] theorem State.setLane_arbiter (s : State) (b : Boom) (l : Lane) : (s.setLane b l).arbiter = s.arbiter := rfl
@[simp] theorem State.setLane_params (s : State) (b : Boom) (l : Lane) : (s.setLane b l).params = s.params := rfl
@[simp] theorem State.setLane_ports (s : State) (b : Boom) (l : Lane) : (s.setLane b l).ports = s.ports := rfl
@[simp] theorem State.setLane_guardPin (s : State) (b : Boom) (l : Lane) :
    (s.setLane b l).guardPin = s.guardPin := rfl
@[simp] theorem State.setLane_supplyUp (s : State) (b : Boom) (l : Lane) :
    (s.setLane b l).supplyUp = s.supplyUp := rfl
@[simp] theorem State.setLane_resetLow (s : State) (b : Boom) (l : Lane) :
    (s.setLane b l).resetLow = s.resetLow := rfl
@[simp] theorem State.setLane_readCount (s : State) (b : Boom) (l : Lane) :
    (s.setLane b l).readCount = s.readCount := rfl
@[simp] theorem State.setLane_tickCount (s : State) (b : Boom) (l : Lane) :
    (s.setLane b l).tickCount = s.tickCount := rfl
@[simp] theorem State.setLane_pending (s : State) (b : Boom) (l : Lane) : (s.setLane b l).pending = s.pending := rfl

@[simp] theorem State.unit_setLane (s : State) (b : Boom) (l : Lane) (c : Boom) :
    (s.setLane b l).unit c = s.unit c := rfl
@[simp] theorem State.engine_setLane (s : State) (b : Boom) (l : Lane) (c : Boom) :
    (s.setLane b l).engine c = s.engine c := rfl
@[simp] theorem State.port_setLane (s : State) (b : Boom) (l : Lane) (w : Port) :
    (s.setLane b l).port w = s.port w := rfl
@[simp] theorem State.entry_setLane (s : State) (b : Boom) (l : Lane) (j : Slot) :
    (s.setLane b l).entry j = s.entry j := rfl

/-! ### After `setEngine` -/

@[simp] theorem State.setEngine_slots (s : State) (b : Boom) (e : Engine) : (s.setEngine b e).slots = s.slots := rfl
@[simp] theorem State.setEngine_rows (s : State) (b : Boom) (e : Engine) : (s.setEngine b e).rows = s.rows := rfl
@[simp] theorem State.setEngine_backlog (s : State) (b : Boom) (e : Engine) :
    (s.setEngine b e).backlog = s.backlog := rfl
@[simp] theorem State.setEngine_protection (s : State) (b : Boom) (e : Engine) :
    (s.setEngine b e).protection = s.protection := rfl
@[simp] theorem State.setEngine_units (s : State) (b : Boom) (e : Engine) : (s.setEngine b e).units = s.units := rfl
@[simp] theorem State.setEngine_lanes (s : State) (b : Boom) (e : Engine) : (s.setEngine b e).lanes = s.lanes := rfl
@[simp] theorem State.setEngine_engines (s : State) (b : Boom) (e : Engine) :
    (s.setEngine b e).engines = s.engines.set b e := rfl
@[simp] theorem State.setEngine_loader (s : State) (b : Boom) (e : Engine) :
    (s.setEngine b e).loader = s.loader := rfl
@[simp] theorem State.setEngine_arbiter (s : State) (b : Boom) (e : Engine) :
    (s.setEngine b e).arbiter = s.arbiter := rfl
@[simp] theorem State.setEngine_params (s : State) (b : Boom) (e : Engine) :
    (s.setEngine b e).params = s.params := rfl
@[simp] theorem State.setEngine_ports (s : State) (b : Boom) (e : Engine) : (s.setEngine b e).ports = s.ports := rfl
@[simp] theorem State.setEngine_guardPin (s : State) (b : Boom) (e : Engine) :
    (s.setEngine b e).guardPin = s.guardPin := rfl
@[simp] theorem State.setEngine_supplyUp (s : State) (b : Boom) (e : Engine) :
    (s.setEngine b e).supplyUp = s.supplyUp := rfl
@[simp] theorem State.setEngine_resetLow (s : State) (b : Boom) (e : Engine) :
    (s.setEngine b e).resetLow = s.resetLow := rfl
@[simp] theorem State.setEngine_readCount (s : State) (b : Boom) (e : Engine) :
    (s.setEngine b e).readCount = s.readCount := rfl
@[simp] theorem State.setEngine_tickCount (s : State) (b : Boom) (e : Engine) :
    (s.setEngine b e).tickCount = s.tickCount := rfl
@[simp] theorem State.setEngine_pending (s : State) (b : Boom) (e : Engine) :
    (s.setEngine b e).pending = s.pending := rfl

@[simp] theorem State.unit_setEngine (s : State) (b : Boom) (e : Engine) (c : Boom) :
    (s.setEngine b e).unit c = s.unit c := rfl
@[simp] theorem State.lane_setEngine (s : State) (b : Boom) (e : Engine) (c : Boom) :
    (s.setEngine b e).lane c = s.lane c := rfl
@[simp] theorem State.port_setEngine (s : State) (b : Boom) (e : Engine) (w : Port) :
    (s.setEngine b e).port w = s.port w := rfl
@[simp] theorem State.entry_setEngine (s : State) (b : Boom) (e : Engine) (j : Slot) :
    (s.setEngine b e).entry j = s.entry j := rfl

/-! ### After `setPort` -/

@[simp] theorem State.setPort_slots (s : State) (p : Port) (q : PortState) : (s.setPort p q).slots = s.slots := rfl
@[simp] theorem State.setPort_rows (s : State) (p : Port) (q : PortState) : (s.setPort p q).rows = s.rows := rfl
@[simp] theorem State.setPort_backlog (s : State) (p : Port) (q : PortState) :
    (s.setPort p q).backlog = s.backlog := rfl
@[simp] theorem State.setPort_protection (s : State) (p : Port) (q : PortState) :
    (s.setPort p q).protection = s.protection := rfl
@[simp] theorem State.setPort_units (s : State) (p : Port) (q : PortState) : (s.setPort p q).units = s.units := rfl
@[simp] theorem State.setPort_lanes (s : State) (p : Port) (q : PortState) : (s.setPort p q).lanes = s.lanes := rfl
@[simp] theorem State.setPort_engines (s : State) (p : Port) (q : PortState) :
    (s.setPort p q).engines = s.engines := rfl
@[simp] theorem State.setPort_loader (s : State) (p : Port) (q : PortState) : (s.setPort p q).loader = s.loader := rfl
@[simp] theorem State.setPort_arbiter (s : State) (p : Port) (q : PortState) :
    (s.setPort p q).arbiter = s.arbiter := rfl
@[simp] theorem State.setPort_params (s : State) (p : Port) (q : PortState) : (s.setPort p q).params = s.params := rfl
@[simp] theorem State.setPort_ports (s : State) (p : Port) (q : PortState) :
    (s.setPort p q).ports = s.ports.set p q := rfl
@[simp] theorem State.setPort_guardPin (s : State) (p : Port) (q : PortState) :
    (s.setPort p q).guardPin = s.guardPin := rfl
@[simp] theorem State.setPort_supplyUp (s : State) (p : Port) (q : PortState) :
    (s.setPort p q).supplyUp = s.supplyUp := rfl
@[simp] theorem State.setPort_resetLow (s : State) (p : Port) (q : PortState) :
    (s.setPort p q).resetLow = s.resetLow := rfl
@[simp] theorem State.setPort_readCount (s : State) (p : Port) (q : PortState) :
    (s.setPort p q).readCount = s.readCount := rfl
@[simp] theorem State.setPort_tickCount (s : State) (p : Port) (q : PortState) :
    (s.setPort p q).tickCount = s.tickCount := rfl
@[simp] theorem State.setPort_pending (s : State) (p : Port) (q : PortState) :
    (s.setPort p q).pending = s.pending := rfl

@[simp] theorem State.unit_setPort (s : State) (p : Port) (q : PortState) (c : Boom) :
    (s.setPort p q).unit c = s.unit c := rfl
@[simp] theorem State.lane_setPort (s : State) (p : Port) (q : PortState) (c : Boom) :
    (s.setPort p q).lane c = s.lane c := rfl
@[simp] theorem State.engine_setPort (s : State) (p : Port) (q : PortState) (c : Boom) :
    (s.setPort p q).engine c = s.engine c := rfl
@[simp] theorem State.entry_setPort (s : State) (p : Port) (q : PortState) (j : Slot) :
    (s.setPort p q).entry j = s.entry j := rfl

/-! ### After `mapPorts` -/

@[simp] theorem State.mapPorts_slots (s : State) (f : PortState → PortState) : (s.mapPorts f).slots = s.slots := rfl
@[simp] theorem State.mapPorts_rows (s : State) (f : PortState → PortState) : (s.mapPorts f).rows = s.rows := rfl
@[simp] theorem State.mapPorts_backlog (s : State) (f : PortState → PortState) :
    (s.mapPorts f).backlog = s.backlog := rfl
@[simp] theorem State.mapPorts_protection (s : State) (f : PortState → PortState) :
    (s.mapPorts f).protection = s.protection := rfl
@[simp] theorem State.mapPorts_units (s : State) (f : PortState → PortState) : (s.mapPorts f).units = s.units := rfl
@[simp] theorem State.mapPorts_lanes (s : State) (f : PortState → PortState) : (s.mapPorts f).lanes = s.lanes := rfl
@[simp] theorem State.mapPorts_engines (s : State) (f : PortState → PortState) :
    (s.mapPorts f).engines = s.engines := rfl
@[simp] theorem State.mapPorts_loader (s : State) (f : PortState → PortState) :
    (s.mapPorts f).loader = s.loader := rfl
@[simp] theorem State.mapPorts_arbiter (s : State) (f : PortState → PortState) :
    (s.mapPorts f).arbiter = s.arbiter := rfl
@[simp] theorem State.mapPorts_params (s : State) (f : PortState → PortState) :
    (s.mapPorts f).params = s.params := rfl
@[simp] theorem State.mapPorts_ports (s : State) (f : PortState → PortState) :
    (s.mapPorts f).ports = s.ports.map f := rfl
@[simp] theorem State.mapPorts_guardPin (s : State) (f : PortState → PortState) :
    (s.mapPorts f).guardPin = s.guardPin := rfl
@[simp] theorem State.mapPorts_supplyUp (s : State) (f : PortState → PortState) :
    (s.mapPorts f).supplyUp = s.supplyUp := rfl
@[simp] theorem State.mapPorts_resetLow (s : State) (f : PortState → PortState) :
    (s.mapPorts f).resetLow = s.resetLow := rfl
@[simp] theorem State.mapPorts_readCount (s : State) (f : PortState → PortState) :
    (s.mapPorts f).readCount = s.readCount := rfl
@[simp] theorem State.mapPorts_tickCount (s : State) (f : PortState → PortState) :
    (s.mapPorts f).tickCount = s.tickCount := rfl
@[simp] theorem State.mapPorts_pending (s : State) (f : PortState → PortState) :
    (s.mapPorts f).pending = s.pending := rfl

@[simp] theorem State.unit_mapPorts (s : State) (f : PortState → PortState) (c : Boom) :
    (s.mapPorts f).unit c = s.unit c := rfl
@[simp] theorem State.lane_mapPorts (s : State) (f : PortState → PortState) (c : Boom) :
    (s.mapPorts f).lane c = s.lane c := rfl
@[simp] theorem State.engine_mapPorts (s : State) (f : PortState → PortState) (c : Boom) :
    (s.mapPorts f).engine c = s.engine c := rfl
@[simp] theorem State.entry_mapPorts (s : State) (f : PortState → PortState) (j : Slot) :
    (s.mapPorts f).entry j = s.entry j := rfl

/-! ### After `setLoader` -/

@[simp] theorem State.setLoader_slots (s : State) (l : Loader) : (s.setLoader l).slots = s.slots := rfl
@[simp] theorem State.setLoader_rows (s : State) (l : Loader) : (s.setLoader l).rows = s.rows := rfl
@[simp] theorem State.setLoader_backlog (s : State) (l : Loader) : (s.setLoader l).backlog = s.backlog := rfl
@[simp] theorem State.setLoader_protection (s : State) (l : Loader) : (s.setLoader l).protection = s.protection := rfl
@[simp] theorem State.setLoader_units (s : State) (l : Loader) : (s.setLoader l).units = s.units := rfl
@[simp] theorem State.setLoader_lanes (s : State) (l : Loader) : (s.setLoader l).lanes = s.lanes := rfl
@[simp] theorem State.setLoader_engines (s : State) (l : Loader) : (s.setLoader l).engines = s.engines := rfl
@[simp] theorem State.setLoader_loader (s : State) (l : Loader) : (s.setLoader l).loader = l := rfl
@[simp] theorem State.setLoader_arbiter (s : State) (l : Loader) : (s.setLoader l).arbiter = s.arbiter := rfl
@[simp] theorem State.setLoader_params (s : State) (l : Loader) : (s.setLoader l).params = s.params := rfl
@[simp] theorem State.setLoader_ports (s : State) (l : Loader) : (s.setLoader l).ports = s.ports := rfl
@[simp] theorem State.setLoader_guardPin (s : State) (l : Loader) : (s.setLoader l).guardPin = s.guardPin := rfl
@[simp] theorem State.setLoader_supplyUp (s : State) (l : Loader) : (s.setLoader l).supplyUp = s.supplyUp := rfl
@[simp] theorem State.setLoader_resetLow (s : State) (l : Loader) : (s.setLoader l).resetLow = s.resetLow := rfl
@[simp] theorem State.setLoader_readCount (s : State) (l : Loader) : (s.setLoader l).readCount = s.readCount := rfl
@[simp] theorem State.setLoader_tickCount (s : State) (l : Loader) : (s.setLoader l).tickCount = s.tickCount := rfl
@[simp] theorem State.setLoader_pending (s : State) (l : Loader) : (s.setLoader l).pending = s.pending := rfl

@[simp] theorem State.unit_setLoader (s : State) (l : Loader) (c : Boom) : (s.setLoader l).unit c = s.unit c := rfl
@[simp] theorem State.lane_setLoader (s : State) (l : Loader) (c : Boom) : (s.setLoader l).lane c = s.lane c := rfl
@[simp] theorem State.engine_setLoader (s : State) (l : Loader) (c : Boom) :
    (s.setLoader l).engine c = s.engine c := rfl
@[simp] theorem State.port_setLoader (s : State) (l : Loader) (w : Port) : (s.setLoader l).port w = s.port w := rfl
@[simp] theorem State.entry_setLoader (s : State) (l : Loader) (j : Slot) : (s.setLoader l).entry j = s.entry j := rfl

/-! ### After `setArbiter` -/

@[simp] theorem State.setArbiter_slots (s : State) (a : Arbiter) : (s.setArbiter a).slots = s.slots := rfl
@[simp] theorem State.setArbiter_rows (s : State) (a : Arbiter) : (s.setArbiter a).rows = s.rows := rfl
@[simp] theorem State.setArbiter_backlog (s : State) (a : Arbiter) : (s.setArbiter a).backlog = s.backlog := rfl
@[simp] theorem State.setArbiter_protection (s : State) (a : Arbiter) :
    (s.setArbiter a).protection = s.protection := rfl
@[simp] theorem State.setArbiter_units (s : State) (a : Arbiter) : (s.setArbiter a).units = s.units := rfl
@[simp] theorem State.setArbiter_lanes (s : State) (a : Arbiter) : (s.setArbiter a).lanes = s.lanes := rfl
@[simp] theorem State.setArbiter_engines (s : State) (a : Arbiter) : (s.setArbiter a).engines = s.engines := rfl
@[simp] theorem State.setArbiter_loader (s : State) (a : Arbiter) : (s.setArbiter a).loader = s.loader := rfl
@[simp] theorem State.setArbiter_arbiter (s : State) (a : Arbiter) : (s.setArbiter a).arbiter = a := rfl
@[simp] theorem State.setArbiter_params (s : State) (a : Arbiter) : (s.setArbiter a).params = s.params := rfl
@[simp] theorem State.setArbiter_ports (s : State) (a : Arbiter) : (s.setArbiter a).ports = s.ports := rfl
@[simp] theorem State.setArbiter_guardPin (s : State) (a : Arbiter) : (s.setArbiter a).guardPin = s.guardPin := rfl
@[simp] theorem State.setArbiter_supplyUp (s : State) (a : Arbiter) : (s.setArbiter a).supplyUp = s.supplyUp := rfl
@[simp] theorem State.setArbiter_resetLow (s : State) (a : Arbiter) : (s.setArbiter a).resetLow = s.resetLow := rfl
@[simp] theorem State.setArbiter_readCount (s : State) (a : Arbiter) : (s.setArbiter a).readCount = s.readCount := rfl
@[simp] theorem State.setArbiter_tickCount (s : State) (a : Arbiter) : (s.setArbiter a).tickCount = s.tickCount := rfl
@[simp] theorem State.setArbiter_pending (s : State) (a : Arbiter) : (s.setArbiter a).pending = s.pending := rfl

@[simp] theorem State.unit_setArbiter (s : State) (a : Arbiter) (c : Boom) : (s.setArbiter a).unit c = s.unit c := rfl
@[simp] theorem State.lane_setArbiter (s : State) (a : Arbiter) (c : Boom) : (s.setArbiter a).lane c = s.lane c := rfl
@[simp] theorem State.engine_setArbiter (s : State) (a : Arbiter) (c : Boom) :
    (s.setArbiter a).engine c = s.engine c := rfl
@[simp] theorem State.port_setArbiter (s : State) (a : Arbiter) (w : Port) : (s.setArbiter a).port w = s.port w := rfl
@[simp] theorem State.entry_setArbiter (s : State) (a : Arbiter) (j : Slot) :
    (s.setArbiter a).entry j = s.entry j := rfl

/-! ### After `setRows` -/

@[simp] theorem State.setRows_slots (s : State) (r : List RowRecord) : (s.setRows r).slots = s.slots := rfl
@[simp] theorem State.setRows_rows (s : State) (r : List RowRecord) : (s.setRows r).rows = r := rfl
@[simp] theorem State.setRows_backlog (s : State) (r : List RowRecord) : (s.setRows r).backlog = s.backlog := rfl
@[simp] theorem State.setRows_protection (s : State) (r : List RowRecord) :
    (s.setRows r).protection = s.protection := rfl
@[simp] theorem State.setRows_units (s : State) (r : List RowRecord) : (s.setRows r).units = s.units := rfl
@[simp] theorem State.setRows_lanes (s : State) (r : List RowRecord) : (s.setRows r).lanes = s.lanes := rfl
@[simp] theorem State.setRows_engines (s : State) (r : List RowRecord) : (s.setRows r).engines = s.engines := rfl
@[simp] theorem State.setRows_loader (s : State) (r : List RowRecord) : (s.setRows r).loader = s.loader := rfl
@[simp] theorem State.setRows_arbiter (s : State) (r : List RowRecord) : (s.setRows r).arbiter = s.arbiter := rfl
@[simp] theorem State.setRows_params (s : State) (r : List RowRecord) : (s.setRows r).params = s.params := rfl
@[simp] theorem State.setRows_ports (s : State) (r : List RowRecord) : (s.setRows r).ports = s.ports := rfl
@[simp] theorem State.setRows_guardPin (s : State) (r : List RowRecord) : (s.setRows r).guardPin = s.guardPin := rfl
@[simp] theorem State.setRows_supplyUp (s : State) (r : List RowRecord) : (s.setRows r).supplyUp = s.supplyUp := rfl
@[simp] theorem State.setRows_resetLow (s : State) (r : List RowRecord) : (s.setRows r).resetLow = s.resetLow := rfl
@[simp] theorem State.setRows_readCount (s : State) (r : List RowRecord) :
    (s.setRows r).readCount = s.readCount := rfl
@[simp] theorem State.setRows_tickCount (s : State) (r : List RowRecord) :
    (s.setRows r).tickCount = s.tickCount := rfl
@[simp] theorem State.setRows_pending (s : State) (r : List RowRecord) : (s.setRows r).pending = s.pending := rfl

@[simp] theorem State.unit_setRows (s : State) (r : List RowRecord) (c : Boom) :
    (s.setRows r).unit c = s.unit c := rfl
@[simp] theorem State.lane_setRows (s : State) (r : List RowRecord) (c : Boom) :
    (s.setRows r).lane c = s.lane c := rfl
@[simp] theorem State.engine_setRows (s : State) (r : List RowRecord) (c : Boom) :
    (s.setRows r).engine c = s.engine c := rfl
@[simp] theorem State.port_setRows (s : State) (r : List RowRecord) (w : Port) :
    (s.setRows r).port w = s.port w := rfl
@[simp] theorem State.entry_setRows (s : State) (r : List RowRecord) (j : Slot) :
    (s.setRows r).entry j = s.entry j := rfl

/-! ### After `setBacklog` -/

@[simp] theorem State.setBacklog_slots (s : State) (l : List Slot) : (s.setBacklog l).slots = s.slots := rfl
@[simp] theorem State.setBacklog_rows (s : State) (l : List Slot) : (s.setBacklog l).rows = s.rows := rfl
@[simp] theorem State.setBacklog_backlog (s : State) (l : List Slot) : (s.setBacklog l).backlog = l := rfl
@[simp] theorem State.setBacklog_protection (s : State) (l : List Slot) :
    (s.setBacklog l).protection = s.protection := rfl
@[simp] theorem State.setBacklog_units (s : State) (l : List Slot) : (s.setBacklog l).units = s.units := rfl
@[simp] theorem State.setBacklog_lanes (s : State) (l : List Slot) : (s.setBacklog l).lanes = s.lanes := rfl
@[simp] theorem State.setBacklog_engines (s : State) (l : List Slot) : (s.setBacklog l).engines = s.engines := rfl
@[simp] theorem State.setBacklog_loader (s : State) (l : List Slot) : (s.setBacklog l).loader = s.loader := rfl
@[simp] theorem State.setBacklog_arbiter (s : State) (l : List Slot) : (s.setBacklog l).arbiter = s.arbiter := rfl
@[simp] theorem State.setBacklog_params (s : State) (l : List Slot) : (s.setBacklog l).params = s.params := rfl
@[simp] theorem State.setBacklog_ports (s : State) (l : List Slot) : (s.setBacklog l).ports = s.ports := rfl
@[simp] theorem State.setBacklog_guardPin (s : State) (l : List Slot) : (s.setBacklog l).guardPin = s.guardPin := rfl
@[simp] theorem State.setBacklog_supplyUp (s : State) (l : List Slot) : (s.setBacklog l).supplyUp = s.supplyUp := rfl
@[simp] theorem State.setBacklog_resetLow (s : State) (l : List Slot) : (s.setBacklog l).resetLow = s.resetLow := rfl
@[simp] theorem State.setBacklog_readCount (s : State) (l : List Slot) :
    (s.setBacklog l).readCount = s.readCount := rfl
@[simp] theorem State.setBacklog_tickCount (s : State) (l : List Slot) :
    (s.setBacklog l).tickCount = s.tickCount := rfl
@[simp] theorem State.setBacklog_pending (s : State) (l : List Slot) : (s.setBacklog l).pending = s.pending := rfl

@[simp] theorem State.unit_setBacklog (s : State) (l : List Slot) (c : Boom) :
    (s.setBacklog l).unit c = s.unit c := rfl
@[simp] theorem State.lane_setBacklog (s : State) (l : List Slot) (c : Boom) :
    (s.setBacklog l).lane c = s.lane c := rfl
@[simp] theorem State.engine_setBacklog (s : State) (l : List Slot) (c : Boom) :
    (s.setBacklog l).engine c = s.engine c := rfl
@[simp] theorem State.port_setBacklog (s : State) (l : List Slot) (w : Port) :
    (s.setBacklog l).port w = s.port w := rfl
@[simp] theorem State.entry_setBacklog (s : State) (l : List Slot) (j : Slot) :
    (s.setBacklog l).entry j = s.entry j := rfl

/-! ### After `setParams` -/

@[simp] theorem State.setParams_slots (s : State) (x : ParamStore) : (s.setParams x).slots = s.slots := rfl
@[simp] theorem State.setParams_rows (s : State) (x : ParamStore) : (s.setParams x).rows = s.rows := rfl
@[simp] theorem State.setParams_backlog (s : State) (x : ParamStore) : (s.setParams x).backlog = s.backlog := rfl
@[simp] theorem State.setParams_protection (s : State) (x : ParamStore) :
    (s.setParams x).protection = s.protection := rfl
@[simp] theorem State.setParams_units (s : State) (x : ParamStore) : (s.setParams x).units = s.units := rfl
@[simp] theorem State.setParams_lanes (s : State) (x : ParamStore) : (s.setParams x).lanes = s.lanes := rfl
@[simp] theorem State.setParams_engines (s : State) (x : ParamStore) : (s.setParams x).engines = s.engines := rfl
@[simp] theorem State.setParams_loader (s : State) (x : ParamStore) : (s.setParams x).loader = s.loader := rfl
@[simp] theorem State.setParams_arbiter (s : State) (x : ParamStore) : (s.setParams x).arbiter = s.arbiter := rfl
@[simp] theorem State.setParams_params (s : State) (x : ParamStore) : (s.setParams x).params = x := rfl
@[simp] theorem State.setParams_ports (s : State) (x : ParamStore) : (s.setParams x).ports = s.ports := rfl
@[simp] theorem State.setParams_guardPin (s : State) (x : ParamStore) : (s.setParams x).guardPin = s.guardPin := rfl
@[simp] theorem State.setParams_supplyUp (s : State) (x : ParamStore) : (s.setParams x).supplyUp = s.supplyUp := rfl
@[simp] theorem State.setParams_resetLow (s : State) (x : ParamStore) : (s.setParams x).resetLow = s.resetLow := rfl
@[simp] theorem State.setParams_readCount (s : State) (x : ParamStore) :
    (s.setParams x).readCount = s.readCount := rfl
@[simp] theorem State.setParams_tickCount (s : State) (x : ParamStore) :
    (s.setParams x).tickCount = s.tickCount := rfl
@[simp] theorem State.setParams_pending (s : State) (x : ParamStore) : (s.setParams x).pending = s.pending := rfl

@[simp] theorem State.unit_setParams (s : State) (x : ParamStore) (c : Boom) :
    (s.setParams x).unit c = s.unit c := rfl
@[simp] theorem State.lane_setParams (s : State) (x : ParamStore) (c : Boom) :
    (s.setParams x).lane c = s.lane c := rfl
@[simp] theorem State.engine_setParams (s : State) (x : ParamStore) (c : Boom) :
    (s.setParams x).engine c = s.engine c := rfl
@[simp] theorem State.port_setParams (s : State) (x : ParamStore) (w : Port) :
    (s.setParams x).port w = s.port w := rfl
@[simp] theorem State.entry_setParams (s : State) (x : ParamStore) (j : Slot) :
    (s.setParams x).entry j = s.entry j := rfl

/-! ### After `setProtectionMode` -/

@[simp] theorem State.setProtectionMode_slots (s : State) (m : Protection) :
    (s.setProtectionMode m).slots = s.slots := rfl
@[simp] theorem State.setProtectionMode_rows (s : State) (m : Protection) :
    (s.setProtectionMode m).rows = s.rows := rfl
@[simp] theorem State.setProtectionMode_backlog (s : State) (m : Protection) :
    (s.setProtectionMode m).backlog = s.backlog := rfl
@[simp] theorem State.setProtectionMode_protection (s : State) (m : Protection) :
    (s.setProtectionMode m).protection = m := rfl
@[simp] theorem State.setProtectionMode_units (s : State) (m : Protection) :
    (s.setProtectionMode m).units = s.units := rfl
@[simp] theorem State.setProtectionMode_lanes (s : State) (m : Protection) :
    (s.setProtectionMode m).lanes = s.lanes := rfl
@[simp] theorem State.setProtectionMode_engines (s : State) (m : Protection) :
    (s.setProtectionMode m).engines = s.engines := rfl
@[simp] theorem State.setProtectionMode_loader (s : State) (m : Protection) :
    (s.setProtectionMode m).loader = s.loader := rfl
@[simp] theorem State.setProtectionMode_arbiter (s : State) (m : Protection) :
    (s.setProtectionMode m).arbiter = s.arbiter := rfl
@[simp] theorem State.setProtectionMode_params (s : State) (m : Protection) :
    (s.setProtectionMode m).params = s.params := rfl
@[simp] theorem State.setProtectionMode_ports (s : State) (m : Protection) :
    (s.setProtectionMode m).ports = s.ports := rfl
@[simp] theorem State.setProtectionMode_guardPin (s : State) (m : Protection) :
    (s.setProtectionMode m).guardPin = s.guardPin := rfl
@[simp] theorem State.setProtectionMode_supplyUp (s : State) (m : Protection) :
    (s.setProtectionMode m).supplyUp = s.supplyUp := rfl
@[simp] theorem State.setProtectionMode_resetLow (s : State) (m : Protection) :
    (s.setProtectionMode m).resetLow = s.resetLow := rfl
@[simp] theorem State.setProtectionMode_readCount (s : State) (m : Protection) :
    (s.setProtectionMode m).readCount = s.readCount := rfl
@[simp] theorem State.setProtectionMode_tickCount (s : State) (m : Protection) :
    (s.setProtectionMode m).tickCount = s.tickCount := rfl
@[simp] theorem State.setProtectionMode_pending (s : State) (m : Protection) :
    (s.setProtectionMode m).pending = s.pending := rfl

@[simp] theorem State.unit_setProtectionMode (s : State) (m : Protection) (c : Boom) :
    (s.setProtectionMode m).unit c = s.unit c := rfl
@[simp] theorem State.lane_setProtectionMode (s : State) (m : Protection) (c : Boom) :
    (s.setProtectionMode m).lane c = s.lane c := rfl
@[simp] theorem State.engine_setProtectionMode (s : State) (m : Protection) (c : Boom) :
    (s.setProtectionMode m).engine c = s.engine c := rfl
@[simp] theorem State.port_setProtectionMode (s : State) (m : Protection) (w : Port) :
    (s.setProtectionMode m).port w = s.port w := rfl
@[simp] theorem State.entry_setProtectionMode (s : State) (m : Protection) (j : Slot) :
    (s.setProtectionMode m).entry j = s.entry j := rfl

/-! ### After `setEntry` -/

@[simp] theorem State.setEntry_slots (s : State) (i : Slot) (e : Option Entry) :
    (s.setEntry i e).slots = s.slots.set i e := rfl
@[simp] theorem State.setEntry_rows (s : State) (i : Slot) (e : Option Entry) : (s.setEntry i e).rows = s.rows := rfl
@[simp] theorem State.setEntry_backlog (s : State) (i : Slot) (e : Option Entry) :
    (s.setEntry i e).backlog = s.backlog := rfl
@[simp] theorem State.setEntry_protection (s : State) (i : Slot) (e : Option Entry) :
    (s.setEntry i e).protection = s.protection := rfl
@[simp] theorem State.setEntry_units (s : State) (i : Slot) (e : Option Entry) :
    (s.setEntry i e).units = s.units := rfl
@[simp] theorem State.setEntry_lanes (s : State) (i : Slot) (e : Option Entry) :
    (s.setEntry i e).lanes = s.lanes := rfl
@[simp] theorem State.setEntry_engines (s : State) (i : Slot) (e : Option Entry) :
    (s.setEntry i e).engines = s.engines := rfl
@[simp] theorem State.setEntry_loader (s : State) (i : Slot) (e : Option Entry) :
    (s.setEntry i e).loader = s.loader := rfl
@[simp] theorem State.setEntry_arbiter (s : State) (i : Slot) (e : Option Entry) :
    (s.setEntry i e).arbiter = s.arbiter := rfl
@[simp] theorem State.setEntry_params (s : State) (i : Slot) (e : Option Entry) :
    (s.setEntry i e).params = s.params := rfl
@[simp] theorem State.setEntry_ports (s : State) (i : Slot) (e : Option Entry) :
    (s.setEntry i e).ports = s.ports := rfl
@[simp] theorem State.setEntry_guardPin (s : State) (i : Slot) (e : Option Entry) :
    (s.setEntry i e).guardPin = s.guardPin := rfl
@[simp] theorem State.setEntry_supplyUp (s : State) (i : Slot) (e : Option Entry) :
    (s.setEntry i e).supplyUp = s.supplyUp := rfl
@[simp] theorem State.setEntry_resetLow (s : State) (i : Slot) (e : Option Entry) :
    (s.setEntry i e).resetLow = s.resetLow := rfl
@[simp] theorem State.setEntry_readCount (s : State) (i : Slot) (e : Option Entry) :
    (s.setEntry i e).readCount = s.readCount := rfl
@[simp] theorem State.setEntry_tickCount (s : State) (i : Slot) (e : Option Entry) :
    (s.setEntry i e).tickCount = s.tickCount := rfl
@[simp] theorem State.setEntry_pending (s : State) (i : Slot) (e : Option Entry) :
    (s.setEntry i e).pending = s.pending := rfl

@[simp] theorem State.unit_setEntry (s : State) (i : Slot) (e : Option Entry) (c : Boom) :
    (s.setEntry i e).unit c = s.unit c := rfl
@[simp] theorem State.lane_setEntry (s : State) (i : Slot) (e : Option Entry) (c : Boom) :
    (s.setEntry i e).lane c = s.lane c := rfl
@[simp] theorem State.engine_setEntry (s : State) (i : Slot) (e : Option Entry) (c : Boom) :
    (s.setEntry i e).engine c = s.engine c := rfl
@[simp] theorem State.port_setEntry (s : State) (i : Slot) (e : Option Entry) (w : Port) :
    (s.setEntry i e).port w = s.port w := rfl

/-! ### After `setFrame` -/

@[simp] theorem State.setFrame_slots (s : State) (p : Port) (f : Frame) : (s.setFrame p f).slots = s.slots := rfl
@[simp] theorem State.setFrame_rows (s : State) (p : Port) (f : Frame) : (s.setFrame p f).rows = s.rows := rfl
@[simp] theorem State.setFrame_backlog (s : State) (p : Port) (f : Frame) :
    (s.setFrame p f).backlog = s.backlog := rfl
@[simp] theorem State.setFrame_protection (s : State) (p : Port) (f : Frame) :
    (s.setFrame p f).protection = s.protection := rfl
@[simp] theorem State.setFrame_units (s : State) (p : Port) (f : Frame) : (s.setFrame p f).units = s.units := rfl
@[simp] theorem State.setFrame_lanes (s : State) (p : Port) (f : Frame) : (s.setFrame p f).lanes = s.lanes := rfl
@[simp] theorem State.setFrame_engines (s : State) (p : Port) (f : Frame) :
    (s.setFrame p f).engines = s.engines := rfl
@[simp] theorem State.setFrame_loader (s : State) (p : Port) (f : Frame) : (s.setFrame p f).loader = s.loader := rfl
@[simp] theorem State.setFrame_arbiter (s : State) (p : Port) (f : Frame) :
    (s.setFrame p f).arbiter = s.arbiter := rfl
@[simp] theorem State.setFrame_params (s : State) (p : Port) (f : Frame) : (s.setFrame p f).params = s.params := rfl
@[simp] theorem State.setFrame_ports (s : State) (p : Port) (f : Frame) :
    (s.setFrame p f).ports = s.ports.set p { s.port p with frame := f } := rfl
@[simp] theorem State.setFrame_guardPin (s : State) (p : Port) (f : Frame) :
    (s.setFrame p f).guardPin = s.guardPin := rfl
@[simp] theorem State.setFrame_supplyUp (s : State) (p : Port) (f : Frame) :
    (s.setFrame p f).supplyUp = s.supplyUp := rfl
@[simp] theorem State.setFrame_resetLow (s : State) (p : Port) (f : Frame) :
    (s.setFrame p f).resetLow = s.resetLow := rfl
@[simp] theorem State.setFrame_readCount (s : State) (p : Port) (f : Frame) :
    (s.setFrame p f).readCount = s.readCount := rfl
@[simp] theorem State.setFrame_tickCount (s : State) (p : Port) (f : Frame) :
    (s.setFrame p f).tickCount = s.tickCount := rfl
@[simp] theorem State.setFrame_pending (s : State) (p : Port) (f : Frame) :
    (s.setFrame p f).pending = s.pending := rfl

@[simp] theorem State.unit_setFrame (s : State) (p : Port) (f : Frame) (c : Boom) :
    (s.setFrame p f).unit c = s.unit c := rfl
@[simp] theorem State.lane_setFrame (s : State) (p : Port) (f : Frame) (c : Boom) :
    (s.setFrame p f).lane c = s.lane c := rfl
@[simp] theorem State.engine_setFrame (s : State) (p : Port) (f : Frame) (c : Boom) :
    (s.setFrame p f).engine c = s.engine c := rfl
@[simp] theorem State.entry_setFrame (s : State) (p : Port) (f : Frame) (j : Slot) :
    (s.setFrame p f).entry j = s.entry j := rfl

/-! ### After `setLast` -/

@[simp] theorem State.setLast_slots (s : State) (p : Port) (r : LastResult) : (s.setLast p r).slots = s.slots := rfl
@[simp] theorem State.setLast_rows (s : State) (p : Port) (r : LastResult) : (s.setLast p r).rows = s.rows := rfl
@[simp] theorem State.setLast_backlog (s : State) (p : Port) (r : LastResult) :
    (s.setLast p r).backlog = s.backlog := rfl
@[simp] theorem State.setLast_protection (s : State) (p : Port) (r : LastResult) :
    (s.setLast p r).protection = s.protection := rfl
@[simp] theorem State.setLast_units (s : State) (p : Port) (r : LastResult) : (s.setLast p r).units = s.units := rfl
@[simp] theorem State.setLast_lanes (s : State) (p : Port) (r : LastResult) : (s.setLast p r).lanes = s.lanes := rfl
@[simp] theorem State.setLast_engines (s : State) (p : Port) (r : LastResult) :
    (s.setLast p r).engines = s.engines := rfl
@[simp] theorem State.setLast_loader (s : State) (p : Port) (r : LastResult) :
    (s.setLast p r).loader = s.loader := rfl
@[simp] theorem State.setLast_arbiter (s : State) (p : Port) (r : LastResult) :
    (s.setLast p r).arbiter = s.arbiter := rfl
@[simp] theorem State.setLast_params (s : State) (p : Port) (r : LastResult) :
    (s.setLast p r).params = s.params := rfl
@[simp] theorem State.setLast_ports (s : State) (p : Port) (r : LastResult) :
    (s.setLast p r).ports = s.ports.set p { s.port p with last := r } := rfl
@[simp] theorem State.setLast_guardPin (s : State) (p : Port) (r : LastResult) :
    (s.setLast p r).guardPin = s.guardPin := rfl
@[simp] theorem State.setLast_supplyUp (s : State) (p : Port) (r : LastResult) :
    (s.setLast p r).supplyUp = s.supplyUp := rfl
@[simp] theorem State.setLast_resetLow (s : State) (p : Port) (r : LastResult) :
    (s.setLast p r).resetLow = s.resetLow := rfl
@[simp] theorem State.setLast_readCount (s : State) (p : Port) (r : LastResult) :
    (s.setLast p r).readCount = s.readCount := rfl
@[simp] theorem State.setLast_tickCount (s : State) (p : Port) (r : LastResult) :
    (s.setLast p r).tickCount = s.tickCount := rfl
@[simp] theorem State.setLast_pending (s : State) (p : Port) (r : LastResult) :
    (s.setLast p r).pending = s.pending := rfl

@[simp] theorem State.unit_setLast (s : State) (p : Port) (r : LastResult) (c : Boom) :
    (s.setLast p r).unit c = s.unit c := rfl
@[simp] theorem State.lane_setLast (s : State) (p : Port) (r : LastResult) (c : Boom) :
    (s.setLast p r).lane c = s.lane c := rfl
@[simp] theorem State.engine_setLast (s : State) (p : Port) (r : LastResult) (c : Boom) :
    (s.setLast p r).engine c = s.engine c := rfl
@[simp] theorem State.entry_setLast (s : State) (p : Port) (r : LastResult) (j : Slot) :
    (s.setLast p r).entry j = s.entry j := rfl

end Sys2Proof.Machine
end

