-- ==== Sys2Proof/Laws/Operations.lean ====
section
/-! SUPPORT. What each shared operation can do, said once: for every operation the fields that it leaves alone, and for
the central ones the cases of what it gives. A field that an operation keeps is `congrArg State.<field>` of its frame
lemma. -/

namespace Sys2Proof.Machine

/-! ### Timers -/

/-- A timer has expired exactly where it runs and has run its time. -/
theorem expired_iff {d : Nat} {t : Option Nat} : expired d t = true ↔ ∃ n, t = some n ∧ d ≤ n := by
  cases t <;> simp [expired]

theorem not_expired_iff {d : Nat} {t : Option Nat} : expired d t = false ↔ ∀ n, t = some n → n < d := by
  cases t <;> simp [expired]

theorem Framer.gap_eq_some {f : Framer} {n : Nat} : f.gap = some n ↔ ∃ held, f = .inFrame held n := by
  cases f <;> simp [Framer.gap]

theorem TorqueTimer.elapsed_eq_some {x : TorqueTimer} {n : Nat} : x.elapsed = some n ↔ x = .running n := by
  cases x <;> simp [TorqueTimer.elapsed]

/-! ### Notices and lines -/

theorem State.post_frame (s : State) (n : NoticePair) : s.post n = { s with ports := (s.post n).ports } := rfl

theorem State.offer_frame (s : State) (n : NoticePair) (x : Bool) :
    s.offer n x = { s with ports := (s.offer n x).ports } := rfl

theorem State.offerChange_frame {s t : State} (h : ∃ p, t = { s with ports := p }) (n : NoticePair) (x y : Bool) :
    ∃ p, t.offerChange n x y = { s with ports := p } := by
  obtain ⟨p, rfl⟩ := h
  unfold State.offerChange
  split
  · exact ⟨p, rfl⟩
  · exact ⟨_, rfl⟩

theorem State.refreshAtn_frame (s : State) : s.refreshAtn = { s with ports := s.refreshAtn.ports } := rfl

theorem State.offersSince_frame (s u : State) : ∃ p, s.offersSince u = { s with ports := p } :=
  State.offerChange_frame (State.offerChange_frame (State.offerChange_frame (State.offerChange_frame
    (State.offerChange_frame (State.offerChange_frame ⟨s.ports, rfl⟩ _ _ _) _ _ _) _ _ _) _ _ _) _ _ _) _ _ _

@[simp] theorem State.port_post (s : State) (n : NoticePair) (p : Port) :
    (s.post n).port p = (s.port p).record s.resetLow n := by
  simp [State.post]

/-- A recorded set holds the pair and what it held before. -/
theorem mem_insertPair (n m : NoticePair) (l : List NoticePair) : m ∈ insertPair n l ↔ m = n ∨ m ∈ l := by
  induction l with
  | nil => simp [insertPair]
  | cons x rest ih =>
    unfold insertPair
    split
    · rename_i h
      subst h
      simp
    · split
      · simp
      · simp only [List.mem_cons, ih]
        tauto

@[simp] theorem PortState.withAtn_pending (x : Bool) (q : PortState) : (q.withAtn x).pending = q.pending := rfl

@[simp] theorem PortState.record_pending (x : Bool) (n : NoticePair) (q : PortState) :
    (q.record x n).pending = insertPair n q.pending := rfl

@[simp] theorem PortState.record_atn (x : Bool) (n : NoticePair) (q : PortState) :
    (q.record x n).atn = (!x && (q.record x n).unmaskedPending) := rfl

@[simp] theorem PortState.record_masks (x : Bool) (n : NoticePair) (q : PortState) :
    (q.record x n).masks = q.masks := rfl

@[simp] theorem PortState.record_edges (x : Bool) (n : NoticePair) (q : PortState) :
    (q.record x n).edges = q.edges := rfl

@[simp] theorem PortState.record_context (x : Bool) (n : NoticePair) (q : PortState) :
    (q.record x n).context = q.context := rfl

@[simp] theorem PortState.record_cursor (x : Bool) (n : NoticePair) (q : PortState) :
    (q.record x n).cursor = q.cursor := rfl

@[simp] theorem PortState.record_last (x : Bool) (n : NoticePair) (q : PortState) :
    (q.record x n).last = q.last := rfl

/-! ### Booms in step -/

theorem State.syncBoom_frame (s : State) (b : Boom) :
    s.syncBoom b = { s with units := (s.syncBoom b).units, engines := (s.syncBoom b).engines } := by
  unfold State.syncBoom
  simp only []
  split <;> rfl

theorem State.sync_frame (s : State) : ∃ u e, s.sync = { s with units := u, engines := e } := by
  unfold State.sync
  rw [State.syncBoom_frame (s.syncBoom .A) .B, State.syncBoom_frame s .A]
  exact ⟨_, _, rfl⟩

/-- An action keeps, of its own effects, all but the units, the engines and the ports. -/
theorem State.acting_frame (s : State) (f : State → State) :
    ∃ u e p, s.acting f = { f s with units := u, engines := e, ports := p } := by
  unfold State.acting
  obtain ⟨p, h⟩ := State.offersSince_frame (f s).sync s
  obtain ⟨u, e, k⟩ := State.sync_frame (f s)
  rw [h, k]
  exact ⟨u, e, p, rfl⟩

/-! ### Flow -/

theorem State.giveFlow_frame (s : State) (r : FlowRequest) (x : Nat) :
    s.giveFlow r x = { s with arbiter := (s.giveFlow r x).arbiter, ports := (s.giveFlow r x).ports } := rfl

/-- What a judged request gives differs in the arbiter and the ports only. -/
theorem State.judgeRequest_frame {s t : State} {r : FlowRequest} (h : s.judgeRequest r = some t) :
    t = { s with arbiter := t.arbiter, ports := t.ports } := by
  unfold State.judgeRequest at h
  simp only [] at h
  split at h
  · cases h; rfl
  · split at h
    · cases h; rfl
    · split at h
      · cases h; rfl
      · cases h

theorem State.requestFlow_frame (s : State) (r : FlowRequest) :
    ∃ a p, s.requestFlow r = { s with arbiter := a, ports := p } := by
  unfold State.requestFlow
  simp only []
  split
  · split
    · rename_i t h
      exact ⟨_, _, State.judgeRequest_frame h⟩
    · exact ⟨_, _, rfl⟩
  · exact ⟨_, _, rfl⟩

theorem State.serveFlowQueue_frame (n : Nat) (s : State) :
    ∃ a p, s.serveFlowQueue n = { s with arbiter := a, ports := p } := by
  induction n generalizing s with
  | zero => exact ⟨s.arbiter, s.ports, rfl⟩
  | succ n ih =>
    unfold State.serveFlowQueue
    split
    · exact ⟨s.arbiter, s.ports, rfl⟩
    · split
      · rename_i t h
        obtain ⟨a, p, hap⟩ := ih (t.setArbiter { t.arbiter with queue := _ })
        rw [hap, State.judgeRequest_frame h]
        exact ⟨a, p, rfl⟩
      · exact ⟨s.arbiter, s.ports, rfl⟩

theorem State.topUp_frame (s : State) (b : Boom) : ∃ a p, s.topUp b = { s with arbiter := a, ports := p } := by
  unfold State.topUp
  split
  · simp only []
    split
    · exact ⟨_, _, rfl⟩
    · exact ⟨s.arbiter, s.ports, rfl⟩
  · exact ⟨s.arbiter, s.ports, rfl⟩

theorem State.cutDown_frame (s : State) (b : Boom) : ∃ a p, s.cutDown b = { s with arbiter := a, ports := p } := by
  unfold State.cutDown
  split
  · simp only []
    split
    · exact ⟨_, _, rfl⟩
    · exact ⟨s.arbiter, s.ports, rfl⟩
  · exact ⟨s.arbiter, s.ports, rfl⟩

/-- A fold of operations that differ in the arbiter and the ports only is such an operation. -/
theorem State.foldFlow_frame {f : State → Boom → State}
    (h : ∀ s b, ∃ a p, f s b = { s with arbiter := a, ports := p }) (l : List Boom) (s : State) :
    ∃ a p, l.foldl f s = { s with arbiter := a, ports := p } := by
  induction l generalizing s with
  | nil => exact ⟨s.arbiter, s.ports, rfl⟩
  | cons b rest ih =>
    obtain ⟨a, p, e⟩ := h s b
    obtain ⟨a', p', e'⟩ := ih (f s b)
    exact ⟨a', p', by rw [List.foldl_cons, e', e]⟩

theorem State.servicePass_frame (s : State) : ∃ a p, s.servicePass = { s with arbiter := a, ports := p } := by
  unfold State.servicePass
  simp only []
  obtain ⟨a, p, e⟩ := State.serveFlowQueue_frame s.arbiter.queue.length s
  rw [e]
  obtain ⟨a', p', e'⟩ := State.foldFlow_frame State.topUp_frame a.order { s with arbiter := a, ports := p }
  rw [e']
  obtain ⟨a'', p'', e''⟩ := State.foldFlow_frame State.cutDown_frame a'.order.reverse
    { s with arbiter := a', ports := p' }
  exact ⟨a'', p'', e''⟩

theorem State.releaseFlow_frame (s : State) (b : Boom) :
    ∃ a p, s.releaseFlow b = { s with arbiter := a, ports := p } := by
  unfold State.releaseFlow
  split
  · obtain ⟨a, p, e⟩ := State.servicePass_frame ((s.setArbiter { s.arbiter with
      grants := s.arbiter.grants.set b none
      order := s.arbiter.order.filter fun x => x != b }).post (.flow b))
    exact ⟨a, p, e⟩
  · split
    · obtain ⟨a, p, e⟩ := State.servicePass_frame
        (s.setArbiter { s.arbiter with queue := s.arbiter.queue.filter fun r => r.boom != b })
      exact ⟨a, p, e⟩
    · exact ⟨s.arbiter, s.ports, rfl⟩

/-! ### Cycle states and the loader -/

theorem State.setCycle_frame (s : State) (b : Boom) (c : CycleState) :
    s.setCycle b c = { s with units := (s.setCycle b c).units, ports := (s.setCycle b c).ports } := rfl

@[simp] theorem State.setCycle_cycle (s : State) (b : Boom) (c : CycleState) : ((s.setCycle b c).unit b).cycle = c := by
  cases b <;> rfl

theorem State.grantLoader_frame (s : State) (b : Boom) :
    s.grantLoader b = { s with
      loader := (s.grantLoader b).loader, units := (s.grantLoader b).units, ports := (s.grantLoader b).ports } := rfl

theorem State.serveLoader_frame (s : State) :
    s.serveLoader = { s with
      loader := s.serveLoader.loader, units := s.serveLoader.units, ports := s.serveLoader.ports } := by
  unfold State.serveLoader
  split <;> rfl

theorem State.requestLoader_frame (s : State) (b : Boom) :
    s.requestLoader b = { s with
      loader := (s.requestLoader b).loader, units := (s.requestLoader b).units
      ports := (s.requestLoader b).ports } := by
  unfold State.requestLoader
  split <;> rfl

theorem State.cancelLoader_frame (s : State) (b : Boom) :
    ∃ l u p, s.cancelLoader b = { s with loader := l, units := u, ports := p } := by
  unfold State.cancelLoader
  simp only []
  split
  · split
    · exact ⟨_, s.units, s.ports, rfl⟩
    · exact ⟨_, s.units, s.ports, rfl⟩
    · rw [State.serveLoader_frame]
      exact ⟨_, _, _, rfl⟩
  · exact ⟨_, s.units, s.ports, rfl⟩

/-! ### The Hole Table -/

/-- The closing check closes the row and posts ROW where the four conditions of R11 hold, and else does nothing. -/
theorem State.closingCheck_cases (s : State) (id : Byte) :
    (∃ r, s.row id = some r ∧ r.state = .opened ∧ r.planEnded = true ∧ s.rowSettled id = true ∧
      s.backlogHas id = false ∧
      s.closingCheck id = (s.modRow id fun r => { r with state := .closed }).post .row) ∨
    s.closingCheck id = s := by
  unfold State.closingCheck
  split
  · rename_i r hr
    split
    · rename_i h
      exact .inl ⟨r, hr, h.1, h.2.1, h.2.2.1, h.2.2.2, rfl⟩
    · exact .inr rfl
  · exact .inr rfl

theorem State.closingCheck_frame (s : State) (id : Byte) :
    s.closingCheck id = { s with rows := (s.closingCheck id).rows, ports := (s.closingCheck id).ports } := by
  obtain ⟨r, _, _, _, _, _, h⟩ | h := State.closingCheck_cases s id
  · rw [h]; rfl
  · rw [h]

theorem State.writeSlot_frame (s : State) (i : Slot) (e : Entry) :
    ∃ x r p, s.writeSlot i e = { s with slots := x, rows := r, ports := p } := by
  unfold State.writeSlot
  simp only []
  split <;> exact ⟨_, _, _, rfl⟩

theorem State.emptySlot_frame (s : State) (i : Slot) :
    ∃ x r p, s.emptySlot i = { s with slots := x, rows := r, ports := p } := by
  unfold State.emptySlot
  split
  · exact ⟨_, _, _, rfl⟩
  · exact ⟨s.slots, s.rows, s.ports, rfl⟩

theorem State.writeSupplement_frame (s : State) (i : Slot) :
    ∃ x r p, s.writeSupplement i = { s with slots := x, rows := r, ports := p } := by
  unfold State.writeSupplement
  split
  · exact State.writeSlot_frame s _ _
  · exact ⟨s.slots, s.rows, s.ports, rfl⟩

theorem State.modEntry_frame (s : State) (i : Slot) (f : Entry → Entry) :
    ∃ x, s.modEntry i f = { s with slots := x } := by
  unfold State.modEntry
  split
  · exact ⟨_, rfl⟩
  · exact ⟨s.slots, rfl⟩

theorem State.handleSupplement_frame (s : State) (i : Slot) :
    ∃ x r l p, s.handleSupplement i = { s with slots := x, rows := r, backlog := l, ports := p } := by
  unfold State.handleSupplement
  split
  · split
    · obtain ⟨x, h⟩ := State.modEntry_frame s i Entry.markRefer
      rw [h]
      exact ⟨_, _, _, _, rfl⟩
    · split
      · split
        · exact ⟨_, _, _, _, rfl⟩
        · obtain ⟨x, h⟩ := State.modEntry_frame s i Entry.markLost
          rw [h]
          exact ⟨_, _, _, _, rfl⟩
      · obtain ⟨x, r, p, h⟩ := State.writeSupplement_frame s i
        exact ⟨x, r, s.backlog, p, h⟩
  · exact ⟨s.slots, s.rows, s.backlog, s.ports, rfl⟩

theorem State.tableVerdict_frame (s : State) (i : Slot) (v : VerdictReason) :
    ∃ x r l p, s.tableVerdict i v = { s with slots := x, rows := r, backlog := l, ports := p } := by
  have key : ∀ (t : State) (id : Byte), (∃ x r l p, t = { s with slots := x, rows := r, backlog := l, ports := p }) →
      ∃ x r l p, t.closingCheck id = { s with slots := x, rows := r, backlog := l, ports := p } := by
    rintro t id ⟨x, r, l, p, rfl⟩
    rw [State.closingCheck_frame]
    exact ⟨_, _, _, _, rfl⟩
  unfold State.tableVerdict
  split
  · refine key _ _ ?_
    split
    · rename_i e _ _
      obtain ⟨x, r, l, p, h⟩ := State.handleSupplement_frame
        ((s.setEntry i (some (e.withVerdict v))).modRow e.row fun r => r.withVerdict v.final) i
      exact ⟨x, r, l, p, h⟩
    · exact ⟨_, _, _, _, rfl⟩
  · exact ⟨s.slots, s.rows, s.backlog, s.ports, rfl⟩

/-! ### Claims and verdicts -/

/-- The claimed entry of a boom is the entry in its work slot, where it holds its claim. -/
theorem State.claimedEntry_eq_some {s : State} {b : Boom} {i : Slot} {e : Entry} :
    s.claimedEntry b = some (i, e) ↔
      (s.unit b).claimHeld = true ∧ (s.unit b).workSlot = some i ∧ s.entry i = some e := by
  unfold State.claimedEntry
  split
  · rename_i h
    split
    · rename_i j hj
      simp only [Option.map_eq_some_iff, Prod.mk.injEq, h, hj, Option.some.injEq, true_and]
      constructor
      · rintro ⟨_, he, rfl, rfl⟩
        exact ⟨rfl, he⟩
      · rintro ⟨rfl, he⟩
        exact ⟨e, he, rfl, rfl⟩
    · rename_i hj
      simp [hj]
  · rename_i h
    simp [h]

theorem State.updateClaimed_some {s : State} {b : Boom} {i : Slot} {e : Entry} (h : s.claimedEntry b = some (i, e))
    (f : Entry → Entry) : s.updateClaimed b f = s.setEntry i (some (f e)) := by
  unfold State.updateClaimed
  rw [h]

theorem State.updateClaimed_none {s : State} {b : Boom} (h : s.claimedEntry b = none) (f : Entry → Entry) :
    s.updateClaimed b f = s := by
  unfold State.updateClaimed
  rw [h]

theorem Engine.dropRun_runDropped (e : Engine) : e.RunDropped e.dropRun := rfl

/-- A sample taken in DRILLING, where the boom has a hole with its result part. -/
theorem State.drillSample_some {s : State} {b : Boom} {i : Slot} {e : Entry} {r : Result}
    (h : s.claimedEntry b = some (i, e)) (hr : e.result = some r) (x : Sample) :
    s.drillSample b x = (s.applyRun b ((s.runOf b e r).sample (s.active b) x).1).afterRun b
      ((s.runOf b e r).sample (s.active b) x).2 := by
  simp only [State.drillSample, h, hr]
  rfl

theorem State.boomVerdict_some {s : State} {b : Boom} {i : Slot} {e : Entry} (h : s.claimedEntry b = some (i, e))
    (v : VerdictReason) (next : CycleState) :
    s.boomVerdict b v next =
      (((((s.tableVerdict i v).modUnit b fun u => { u with claimHeld := false }).releaseFlow b).cancelLoader b).post
        (.verdict b)).setCycle b next := by
  unfold State.boomVerdict
  rw [h]

/-! ### Ports -/

/-- A command that is taken runs with its frame ended and writes its answer in the last-result record. -/
theorem State.command_taken {s : State} {p : Port} (h : s.Takes p) (n : CommandName) (run : State → Taken) :
    s.command p n run = (run (s.setFrame p .idle)).state.setLast p
      ⟨some n.code, (run (s.setFrame p .idle)).code, (run (s.setFrame p .idle)).slot⟩ := by
  unfold State.command
  rw [show s.frameLost p = false from h]
  rfl

/-- A command whose frame is lost ends the frame and does nothing else. -/
theorem State.command_lost {s : State} {p : Port} (h : s.frameLost p = true) (n : CommandName) (run : State → Taken) :
    s.command p n run = s.setFrame p .idle := by
  unfold State.command
  rw [h]
  rfl

/-- A read that is taken leaves its reply in the frame and its answer in the last-result record. -/
theorem State.read_taken {s : State} {p : Port} (h : s.Takes p) (n : CommandName) (k : Nat) (a : Answer) :
    s.read p n k a = (s.settleRead p k a).setLast p ⟨some n.code, a.code, none⟩ := by
  unfold State.read
  rw [show s.frameLost p = false from h]
  rfl

/-! ### Steps -/

/-- Everything a step can be: a tick on an empty queue, or the command at the front. -/
theorem step_cases (s : State) :
    (s.pending = [] ∧ step s = .next s.tick) ∨
    ∃ i rest, s.pending = i :: rest ∧ step s = exec i { s with pending := rest } := by
  unfold step
  split
  · rename_i h
    exact .inl ⟨h, rfl⟩
  · rename_i i rest h
    exact .inr ⟨i, rest, h, rfl⟩

end Sys2Proof.Machine
end

