-- ==== Sys2Proof/Laws/Follow.lean ====
section
/-! SUPPORT. A boom that follows its conditions is not changed by being brought in step with them, so an action on a
part whose booms follow their conditions, and that leaves those conditions alone, does its own effects only. -/

namespace Sys2Proof.Machine

theorem State.setUnit_unit (s : State) (b : Boom) : s.setUnit b (s.unit b) = s := by
  cases b <;> rfl

theorem State.setEngine_engine (s : State) (b : Boom) : s.setEngine b (s.engine b) = s := by
  cases b <;> rfl

/-- The hold set of a boom that follows is the one its conditions give. -/
theorem State.BoomFollows.holds_eq {s : State} {b : Boom} (h : s.BoomFollows b) :
    s.holdConditions b = (s.unit b).holds := by
  have e : (s.unit b).holds = ⟨(s.unit b).holds.flow, (s.unit b).holds.lane, (s.unit b).holds.flush⟩ := rfl
  rw [e, h.flow, h.lane, h.flush]
  unfold State.holdConditions
  split
  · rename_i c
    simp [c]
  · rename_i c
    have d : (s.unit b).cycle ≠ .drilling := fun k => c (by rw [k]; rfl)
    simp [c, d, Holds.none]

/-- The unit of a boom that follows is what its conditions make of it. -/
theorem State.BoomFollows.follow_eq {s : State} {b : Boom} (h : s.BoomFollows b) :
    (s.unit b).follow (s.holdConditions b) s.isHeld = s.unit b := by
  rw [h.holds_eq]
  have hfeed := h.feed
  have hturn := h.turn
  have habandon := h.abandon
  have hspin := h.spin
  have hspinRuns := h.spinRuns
  have hset := h.set
  have htorque := h.torque
  have htorqueRuns := h.torqueRuns
  revert hfeed hturn habandon hspin hspinRuns hset htorque htorqueRuns
  generalize s.unit b = u
  generalize s.isHeld = held
  obtain ⟨cycle, ⟨flow, lane, flush⟩, workSlot, claim, stored, count, abandon, spin, set, torque, feed, turn, act, pend,
    dry⟩ := u
  intro hfeed hturn habandon hspin hspinRuns hset htorque htorqueRuns
  simp only at hfeed hturn habandon hspin hspinRuns hset htorque htorqueRuns
  subst hfeed hturn
  have e1 : (if cycle = .drilling ∧ lane = true then some (abandon.getD 0) else none) = abandon := by
    cases cycle <;> cases lane <;> cases abandon <;> simp_all
  have e2 : (if cycle = .spinning then (match spin with
      | some t => some t
      | none => if Holds.present ⟨flow, lane, flush⟩ then none else some 0) else none) = spin := by
    cases spin <;> cases cycle <;> simp_all
  have e3 : (if cycle = .setting then set else none) = set := by
    cases cycle <;> simp_all
  have e4 : BoomUnit.nextTorque ⟨cycle, ⟨flow, lane, flush⟩, workSlot, claim, stored, count, abandon, spin, set,
      torque, cycle == .drilling && !Holds.present ⟨flow, lane, flush⟩ && !dry && !held,
      cycle.holdable && !Holds.present ⟨flow, lane, flush⟩ && !dry && !held, act, pend, dry⟩
      ⟨flow, lane, flush⟩ = torque := by
    unfold BoomUnit.nextTorque
    cases cycle <;> cases torque <;> simp_all
  unfold BoomUnit.follow BoomUnit.nextAbandon BoomUnit.nextSpin BoomUnit.nextSet
  simp only [e4]
  cases cycle <;> cases spin <;>
    simp_all [BoomUnit.feedCondition, BoomUnit.turnCondition, BoomUnit.running, CycleState.holdable]

/-- A unit brought in step keeps everything but its hold set, its timers and its lines. -/
theorem BoomUnit.follow_sameWork (u : BoomUnit) (h : Holds) (held : Bool) : u.SameWork (u.follow h held) :=
  ⟨rfl, rfl, rfl, rfl, rfl, rfl, rfl, rfl⟩

/-- A unit brought in step lets its running timers run on. -/
theorem BoomUnit.follow_timersRunOn (u : BoomUnit) (h : Holds) (held : Bool) : u.TimersRunOn (u.follow h held) where
  abandon c l := if_pos ⟨c, l⟩
  spin c n k := by simp [BoomUnit.follow, BoomUnit.nextSpin, c, k]
  spinStarts c k := by simp [BoomUnit.follow, BoomUnit.nextSpin, c, k]
  set c := if_pos c
  torque c k := by
    unfold BoomUnit.follow BoomUnit.nextTorque
    simp only [c]
  torqueStarts c k := by simp [BoomUnit.follow, BoomUnit.nextTorque, c, k]
  paused c := by simp [BoomUnit.follow, BoomUnit.nextTorque, c]

/-- A boom that follows its conditions is not changed by being brought in step. -/
theorem State.BoomFollows.syncBoom_eq {s : State} {b : Boom} (h : s.BoomFollows b) : s.syncBoom b = s := by
  unfold State.syncBoom
  simp only []
  rw [h.follow_eq, h.holds_eq, State.setUnit_unit]
  split
  · rename_i k
    obtain ⟨r1, r2, r3⟩ := h.runs k.1 k.2
    have e : (s.engine b).dropTorqueRun = s.engine b := by
      revert r1 r2 r3
      generalize s.engine b = g
      intro r1 r2 r3
      obtain ⟨_, _, _, _, _, _, _, _, _, _, _, _, _, _, _, _, _, _, _, _, _, _, _, _, _⟩ := g
      simp_all [Engine.dropTorqueRun]
    rw [e, State.setEngine_engine]
  · rfl

/-- A part whose booms follow their conditions is not changed by being brought in step. -/
theorem State.Followed.sync_eq {s : State} (h : s.Followed) : s.sync = s := by
  unfold State.sync
  rw [(h .A).syncBoom_eq, (h .B).syncBoom_eq]

/-- A state against itself offers nothing. -/
theorem State.offersSince_self {s t : State} (hu : t.units = s.units) (hl : t.lanes = s.lanes)
    (hd : t.loader = s.loader) (hp : t.params = s.params) : t.offersSince s = t := by
  have f : ∀ b, t.feedLine b = s.feedLine b := fun b => by unfold State.feedLine State.unit; rw [hu]
  have l : ∀ b, t.laneInStep b = s.laneInStep b := fun b => by unfold State.laneInStep State.lane; rw [hl]
  have d : t.loaderStatus = s.loaderStatus := by unfold State.loaderStatus; rw [hd]
  have m : t.magazineLow = s.magazineLow := by unfold State.magazineLow; rw [hd, hp]
  simp [State.offersSince, State.offerChange, f, l, d, m]

/-- An action that does nothing of its own, on a part whose booms follow their conditions, changes nothing. -/
theorem State.Followed.acting_id {s : State} (h : s.Followed) : s.acting (fun t => t) = s := by
  unfold State.acting
  rw [h.sync_eq]
  exact State.offersSince_self rfl rfl rfl rfl

end Sys2Proof.Machine
end

