-- ==== Sys2Proof/Laws/PerInstr.lean ====
section
/-! SUPPORT. A family of statements about every command as syntax: the frame that carries a command has exactly the
argument bytes that its command byte asks for on its port (R171, R178, R179). -/

namespace Sys2Proof.Laws

/-- The frame of the command, where it has one, begins with a command byte that names a command, and holds exactly that
command's argument bytes. -/
def FrameLength.Statement (i : Instr) : Prop :=
  ∀ p bytes, encodeFrame i = some (p, bytes) →
    ∃ n args, bytes = CommandName.code n :: args ∧ CommandName.ofByte n.code = some n ∧
      args.length = n.argCount p args

theorem FrameLength.powerOn : FrameLength.Statement .powerOn :=
  fun _ _ h => nomatch h

theorem FrameLength.resetN : FrameLength.Statement .resetN :=
  fun _ _ h => nomatch h

theorem FrameLength.frameStart (p : Port) : FrameLength.Statement (.frameStart p) :=
  fun _ _ h => nomatch h

theorem FrameLength.unknown (p : Port) (command : Byte) : FrameLength.Statement (.unknown p command) :=
  fun _ _ h => nomatch h

theorem FrameLength.torn (p : Port) (bytes : List Byte) : FrameLength.Statement (.torn p bytes) :=
  fun _ _ h => nomatch h

theorem FrameLength.readEffects (p : Port) (clocked : Nat) : FrameLength.Statement (.readEffects p clocked) :=
  fun _ _ h => nomatch h

theorem FrameLength.lastResult (p : Port) : FrameLength.Statement (.lastResult p) := by
  intro q bytes h
  cases h
  exact ⟨.lastResult, _, rfl, rfl, rfl⟩

theorem FrameLength.readStatus (p : Port) : FrameLength.Statement (.readStatus p) := by
  intro q bytes h
  cases h
  exact ⟨.readStatus, _, rfl, rfl, rfl⟩

theorem FrameLength.notices (p : Port) : FrameLength.Statement (.notices p) := by
  intro q bytes h
  cases h
  exact ⟨.notices, _, rfl, rfl, rfl⟩

theorem FrameLength.configureNotices (p : Port) (mask : Word16) (permit void lane loader magazineLow : Byte) :
    FrameLength.Statement (.configureNotices p mask permit void lane loader magazineLow) := by
  intro q bytes h
  cases h
  exact ⟨.configureNotices, _, rfl, rfl, rfl⟩

theorem FrameLength.readNoticeSettings (p : Port) : FrameLength.Statement (.readNoticeSettings p) := by
  intro q bytes h
  cases h
  exact ⟨.readNoticeSettings, _, rfl, rfl, rfl⟩

theorem FrameLength.search (p : Port) (scope row position reach holeState origin claimant mask : Byte) :
    FrameLength.Statement (.search p scope row position reach holeState origin claimant mask) := by
  intro q bytes h
  cases h
  exact ⟨.search, _, rfl, rfl, rfl⟩

theorem FrameLength.readMatches (p : Port) : FrameLength.Statement (.readMatches p) := by
  intro q bytes h
  cases h
  exact ⟨.readMatches, _, rfl, rfl, rfl⟩

theorem FrameLength.readEntry (p : Port) (target segment : Byte) :
    FrameLength.Statement (.readEntry p target segment) := by
  intro q bytes h
  cases h
  exact ⟨.readEntry, _, rfl, rfl, rfl⟩

theorem FrameLength.readNext (p : Port) : FrameLength.Statement (.readNext p) := by
  intro q bytes h
  cases h
  exact ⟨.readNext, _, rfl, rfl, rfl⟩

theorem FrameLength.readParameters (p : Port) (selector : Byte) :
    FrameLength.Statement (.readParameters p selector) := by
  intro q bytes h
  cases h
  exact ⟨.readParameters, _, rfl, rfl, rfl⟩

theorem FrameLength.claimNext (p : Port) : FrameLength.Statement (.claimNext p) := by
  intro q bytes h
  cases h
  exact ⟨.claimNext, _, rfl, rfl, rfl⟩

theorem FrameLength.claimSlot (p : Port) (boom target : Byte) : FrameLength.Statement (.claimSlot p boom target) := by
  intro q bytes h
  cases h
  cases p <;> exact ⟨.claimSlot, _, rfl, rfl, rfl⟩

theorem FrameLength.cancelClaim (p : Port) (boom : Byte) : FrameLength.Statement (.cancelClaim p boom) := by
  intro q bytes h
  cases h
  cases p <;> exact ⟨.cancelClaim, _, rfl, rfl, rfl⟩

theorem FrameLength.collared (p : Port) (boom : Byte) : FrameLength.Statement (.collared p boom) := by
  intro q bytes h
  cases h
  cases p <;> exact ⟨.collared, _, rfl, rfl, rfl⟩

theorem FrameLength.bitOut (p : Port) (boom : Byte) : FrameLength.Statement (.bitOut p boom) := by
  intro q bytes h
  cases h
  cases p <;> exact ⟨.bitOut, _, rfl, rfl, rfl⟩

theorem FrameLength.boltIn (p : Port) (boom : Byte) : FrameLength.Statement (.boltIn p boom) := by
  intro q bytes h
  cases h
  cases p <;> exact ⟨.boltIn, _, rfl, rfl, rfl⟩

theorem FrameLength.openRow (p : Port) (row : Byte) : FrameLength.Statement (.openRow p row) := by
  intro q bytes h
  cases h
  exact ⟨.openRow, _, rfl, rfl, rfl⟩

theorem FrameLength.planHole (p : Port) (row position reach : Byte) (offset : Word16) (lengthClass priority : Byte) :
    FrameLength.Statement (.planHole p row position reach offset lengthClass priority) := by
  intro q bytes h
  cases h
  exact ⟨.planHole, _, rfl, rfl, rfl⟩

theorem FrameLength.endPlan (p : Port) (row : Byte) : FrameLength.Statement (.endPlan p row) := by
  intro q bytes h
  cases h
  exact ⟨.endPlan, _, rfl, rfl, rfl⟩

theorem FrameLength.freezeRow (p : Port) (row : Byte) : FrameLength.Statement (.freezeRow p row) := by
  intro q bytes h
  cases h
  exact ⟨.freezeRow, _, rfl, rfl, rfl⟩

theorem FrameLength.thawRow (p : Port) (row : Byte) : FrameLength.Statement (.thawRow p row) := by
  intro q bytes h
  cases h
  exact ⟨.thawRow, _, rfl, rfl, rfl⟩

theorem FrameLength.releaseRow (p : Port) (row : Byte) : FrameLength.Statement (.releaseRow p row) := by
  intro q bytes h
  cases h
  exact ⟨.releaseRow, _, rfl, rfl, rfl⟩

theorem FrameLength.setProtection (p : Port) (mode : Byte) : FrameLength.Statement (.setProtection p mode) := by
  intro q bytes h
  cases h
  exact ⟨.setProtection, _, rfl, rfl, rfl⟩

theorem FrameLength.erase (p : Port) (slot : Byte) : FrameLength.Statement (.erase p slot) := by
  intro q bytes h
  cases h
  exact ⟨.erase, _, rfl, rfl, rfl⟩

theorem FrameLength.setValidity (p : Port) (target validity : Byte) :
    FrameLength.Statement (.setValidity p target validity) := by
  intro q bytes h
  cases h
  exact ⟨.setValidity, _, rfl, rfl, rfl⟩

theorem FrameLength.cancelSupplements (p : Port) (row : Byte) : FrameLength.Statement (.cancelSupplements p row) := by
  intro q bytes h
  cases h
  exact ⟨.cancelSupplements, _, rfl, rfl, rfl⟩

theorem FrameLength.suspend (p : Port) (boom : Byte) : FrameLength.Statement (.suspend p boom) := by
  intro q bytes h
  cases h
  exact ⟨.suspend, _, rfl, rfl, rfl⟩

theorem FrameLength.resume (p : Port) (boom : Byte) : FrameLength.Statement (.resume p boom) := by
  intro q bytes h
  cases h
  exact ⟨.resume, _, rfl, rfl, rfl⟩

theorem FrameLength.abort (p : Port) (boom : Byte) : FrameLength.Statement (.abort p boom) := by
  intro q bytes h
  cases h
  exact ⟨.abort, _, rfl, rfl, rfl⟩

theorem FrameLength.clear (p : Port) (boom : Byte) : FrameLength.Statement (.clear p boom) := by
  intro q bytes h
  cases h
  exact ⟨.clear, _, rfl, rfl, rfl⟩

theorem FrameLength.dryOn (p : Port) (boom : Byte) : FrameLength.Statement (.dryOn p boom) := by
  intro q bytes h
  cases h
  exact ⟨.dryOn, _, rfl, rfl, rfl⟩

theorem FrameLength.dryOff (p : Port) (boom : Byte) : FrameLength.Statement (.dryOff p boom) := by
  intro q bytes h
  cases h
  exact ⟨.dryOff, _, rfl, rfl, rfl⟩

theorem FrameLength.restart (p : Port) : FrameLength.Statement (.restart p) := by
  intro q bytes h
  cases h
  exact ⟨.restart, _, rfl, rfl, rfl⟩

/-- A number travels as two bytes (R178). -/
theorem FrameLength.wordBytes_length (w : Word16) : (wordBytes w).length = 2 := rfl

/-- A block of values is 46 bytes (R179). -/
theorem FrameLength.encodeValues_length (v : ParamValues) : (encodeValues v).length = 46 := by
  unfold encodeValues
  repeat rw [List.length_append]
  repeat rw [FrameLength.wordBytes_length]

theorem FrameLength.writeParameters (p : Port) (set : Byte) (paired : Bool) (first second : ParamValues) :
    FrameLength.Statement (.writeParameters p set paired first second) := by
  intro q bytes h
  cases paired <;> cases h
  · refine ⟨.writeParameters, _, rfl, rfl, ?_⟩
    simp [FrameLength.encodeValues_length, CommandName.argCount, argAt, pairedFlag, List.getD]
  · refine ⟨.writeParameters, _, rfl, rfl, ?_⟩
    simp [FrameLength.encodeValues_length, CommandName.argCount, argAt, pairedFlag, List.getD]

theorem FrameLength.selectSet (p : Port) (boom set : Byte) : FrameLength.Statement (.selectSet p boom set) := by
  intro q bytes h
  cases h
  exact ⟨.selectSet, _, rfl, rfl, rfl⟩

theorem FrameLength.writeMachineSettings (p : Port) (separation shift lowMark : Word16) :
    FrameLength.Statement (.writeMachineSettings p separation shift lowMark) := by
  intro q bytes h
  cases h
  exact ⟨.writeMachineSettings, _, rfl, rfl, rfl⟩

theorem FrameLength.refill (p : Port) (count : Byte) : FrameLength.Statement (.refill p count) := by
  intro q bytes h
  cases h
  exact ⟨.refill, _, rfl, rfl, rfl⟩

theorem FrameLength.clearJam (p : Port) : FrameLength.Statement (.clearJam p) := by
  intro q bytes h
  cases h
  exact ⟨.clearJam, _, rfl, rfl, rfl⟩

theorem FrameLength.derate (p : Port) (target : Byte) : FrameLength.Statement (.derate p target) := by
  intro q bytes h
  cases h
  exact ⟨.derate, _, rfl, rfl, rfl⟩

theorem FrameLength.takeCount (p : Port) (lane : Byte) : FrameLength.Statement (.takeCount p lane) := by
  intro q bytes h
  cases h
  exact ⟨.takeCount, _, rfl, rfl, rfl⟩

theorem FrameLength.setReportMode (p : Port) (lane mode : Byte) :
    FrameLength.Statement (.setReportMode p lane mode) := by
  intro q bytes h
  cases h
  exact ⟨.setReportMode, _, rfl, rfl, rfl⟩

theorem FrameLength.feedSample (p : Port) (boom seq : Byte) (position thrust speed torque : Word16) (flags : Byte) :
    FrameLength.Statement (.feedSample p boom seq position thrust speed torque flags) := by
  intro q bytes h
  cases h
  exact ⟨.feedSample, _, rfl, rfl, rfl⟩

theorem FrameLength.laneCharacter (lane : Boom) (char : Byte) (stopGood : Bool) :
    FrameLength.Statement (.laneCharacter lane char stopGood) :=
  fun _ _ h => nomatch h

theorem FrameLength.gapTimerExpiry (lane : Boom) : FrameLength.Statement (.gapTimerExpiry lane) :=
  fun _ _ h => nomatch h

theorem FrameLength.lossTimerExpiry (lane : Boom) : FrameLength.Statement (.lossTimerExpiry lane) :=
  fun _ _ h => nomatch h

theorem FrameLength.reportPeriodExpiry (lane : Boom) : FrameLength.Statement (.reportPeriodExpiry lane) :=
  fun _ _ h => nomatch h

theorem FrameLength.laneAbandonExpiry (boom : Boom) : FrameLength.Statement (.laneAbandonExpiry boom) :=
  fun _ _ h => nomatch h

theorem FrameLength.spinMaxExpiry (boom : Boom) : FrameLength.Statement (.spinMaxExpiry boom) :=
  fun _ _ h => nomatch h

theorem FrameLength.setTimerExpiry (boom : Boom) : FrameLength.Statement (.setTimerExpiry boom) :=
  fun _ _ h => nomatch h

theorem FrameLength.torqueStageExpiry (boom : Boom) : FrameLength.Statement (.torqueStageExpiry boom) :=
  fun _ _ h => nomatch h

theorem FrameLength.settleExpiry : FrameLength.Statement .settleExpiry :=
  fun _ _ h => nomatch h

theorem FrameLength.loaderGapExpiry : FrameLength.Statement .loaderGapExpiry :=
  fun _ _ h => nomatch h

theorem FrameLength.doneEdge : FrameLength.Statement .doneEdge :=
  fun _ _ h => nomatch h

theorem FrameLength.jamEdge : FrameLength.Statement .jamEdge :=
  fun _ _ h => nomatch h

theorem FrameLength.doneTimeoutExpiry : FrameLength.Statement .doneTimeoutExpiry :=
  fun _ _ h => nomatch h

theorem FrameLength.supplyLoss : FrameLength.Statement .supplyLoss :=
  fun _ _ h => nomatch h

theorem FrameLength.resetNRelease : FrameLength.Statement .resetNRelease :=
  fun _ _ h => nomatch h

theorem FrameLength.firePulseEnd : FrameLength.Statement .firePulseEnd :=
  fun _ _ h => nomatch h

end Sys2Proof.Laws
end

