-- ==== Sys2Proof/Tests/Slice0.lean ====
section
/-! SUPPORT. Tests of the model, and the witnesses of the statements' hypotheses. Expected values are those of the
spec's worked cases and tables, or worked out by hand from its rules. -/

namespace Sys2Proof.Tests

open Sys2Proof Sys2Proof.Machine

set_option Elab.async false

/-! ### Well-formed commands -/

/-- An UNKNOWN frame has a command byte that names no command (R172). -/
theorem test_wf_unknown : (Instr.unknown .A 0x0B).wf = true ∧ (Instr.unknown .A 0x09).wf = false := by
  decide +kernel

/-- A TORN frame ends before its arguments are complete (R172, R178). -/
theorem test_wf_torn :
    (Instr.torn .C [0x14]).wf = true ∧ (Instr.torn .A [0x14]).wf = false ∧ (Instr.torn .C [0x14, 0x00]).wf = false ∧
      (Instr.torn .A []).wf = true := by
  decide +kernel

/-- Port A and Port B carry no boom byte (R178). -/
theorem test_wf_boom_byte :
    (Instr.claimSlot .A 0x01 0x05).wf = false ∧ (Instr.cancelClaim .B 0x01).wf = false ∧
      (Instr.collared .A 0x01).wf = false ∧ (Instr.bitOut .A 0x01).wf = false ∧
      (Instr.boltIn .B 0x01).wf = false ∧ (Instr.bitOut .C 0x01).wf = true := by
  decide +kernel

/-- Parameter values that are all `n`. -/
def sameValues (n : Word16) : ParamValues :=
  ⟨n, n, n, n, n, n, n, n, n, n, n, n, n, n, n, n, n, n, n, n, n, n, n⟩

/-- An unpaired write carries one block of values (R179). -/
theorem test_wf_values :
    (Instr.writeParameters .C 0x00 false (sameValues 1) (sameValues 1)).wf = false ∧
      (Instr.writeParameters .C 0x00 true (sameValues 1) (sameValues 1)).wf = true ∧
      (Instr.writeParameters .C 0x00 false (sameValues 1) noValues).wf = true := by
  decide +kernel

/-! ### Frames, written out from the table of R179 -/

theorem test_decode_plain_reads :
    decodeFrame .A [0x01] = .lastResult .A ∧ decodeFrame .B [0x02] = .readStatus .B ∧
      decodeFrame .C [0x03] = .notices .C ∧ decodeFrame .A [0x05] = .readNoticeSettings .A ∧
      decodeFrame .A [0x07] = .readMatches .A ∧ decodeFrame .B [0x09] = .readNext .B := by
  decide +kernel

theorem test_decode_reads :
    decodeFrame .A [0x08, 0xFF, 0x02] = .readEntry .A 0xFF 0x02 ∧
      decodeFrame .B [0x0A, 0x02] = .readParameters .B 0x02 := by
  decide +kernel

theorem test_decode_configure_notices :
    decodeFrame .B [0x04, 0x1F, 0xFE, 0x00, 0x01, 0x00, 0x01, 0x00] =
      .configureNotices .B 0x1FFE 0x00 0x01 0x00 0x01 0x00 := by
  decide +kernel

theorem test_decode_search :
    decodeFrame .A [0x06, 0x00, 0x1F, 0x00, 0x02, 0x00, 0x00, 0x02, 0x09] =
      .search .A 0x00 0x1F 0x00 0x02 0x00 0x00 0x02 0x09 := by
  decide +kernel

theorem test_decode_claims :
    decodeFrame .A [0x10] = .claimNext .A ∧ decodeFrame .A [0x11, 0xFF] = .claimSlot .A 0x00 0xFF ∧
      decodeFrame .C [0x11, 0x01, 0x05] = .claimSlot .C 0x01 0x05 ∧ decodeFrame .C [0x12, 0x00] = .cancelClaim .C 0x00 := by
  decide +kernel

theorem test_decode_reports :
    decodeFrame .A [0x13] = .collared .A 0x00 ∧ decodeFrame .B [0x14] = .bitOut .B 0x00 ∧
      decodeFrame .C [0x14, 0x01] = .bitOut .C 0x01 ∧ decodeFrame .C [0x15, 0x01] = .boltIn .C 0x01 := by
  decide +kernel

theorem test_decode_rows :
    decodeFrame .C [0x20, 0x28] = .openRow .C 0x28 ∧ decodeFrame .C [0x22, 0x28] = .endPlan .C 0x28 ∧
      decodeFrame .C [0x23, 0x28] = .freezeRow .C 0x28 ∧ decodeFrame .C [0x24, 0x28] = .thawRow .C 0x28 ∧
      decodeFrame .C [0x25, 0x28] = .releaseRow .C 0x28 ∧ decodeFrame .C [0x26, 0x02] = .setProtection .C 0x02 ∧
      decodeFrame .C [0x27, 0x0C] = .erase .C 0x0C ∧ decodeFrame .C [0x28, 0xFE, 0x02] = .setValidity .C 0xFE 0x02 ∧
      decodeFrame .C [0x29, 0x28] = .cancelSupplements .C 0x28 := by
  decide +kernel

/-- Offset 0C E4h is 3300 mm (R178). -/
theorem test_decode_plan_hole :
    decodeFrame .C [0x21, 0x28, 0x03, 0x02, 0x0C, 0xE4, 0x02, 0x01] = .planHole .C 0x28 0x03 0x02 3300 0x02 0x01 := by
  decide +kernel

theorem test_decode_supervision :
    decodeFrame .C [0x30, 0x01] = .suspend .C 0x01 ∧ decodeFrame .C [0x31, 0x01] = .resume .C 0x01 ∧
      decodeFrame .C [0x32, 0x01] = .abort .C 0x01 ∧ decodeFrame .C [0x33, 0x00] = .clear .C 0x00 ∧
      decodeFrame .C [0x34, 0x00] = .dryOn .C 0x00 ∧ decodeFrame .C [0x35, 0x00] = .dryOff .C 0x00 ∧
      decodeFrame .C [0x36] = .restart .C := by
  decide +kernel

/-- Min separation 600, supplement shift 300, low mark 6. -/
theorem test_decode_settings :
    decodeFrame .C [0x42, 0x02, 0x58, 0x01, 0x2C, 0x00, 0x06] = .writeMachineSettings .C 600 300 6 ∧
      decodeFrame .C [0x41, 0x02, 0x01] = .selectSet .C 0x02 0x01 := by
  decide +kernel

/-- The void mode is the fifth value of a set, and lane abandon the last (R158, R179). -/
theorem test_decode_parameters :
    decodeFrame .C ([0x40, 0x01, 0x00] ++ List.replicate 8 0x00 ++ [0x00, 0x01] ++ List.replicate 34 0x00 ++
        [0x13, 0x88]) =
      .writeParameters .C 0x01 false { sameValues 0 with voidMode := 1, laneAbandon := 5000 } noValues := by
  decide +kernel

theorem test_decode_loader_flow_lane :
    decodeFrame .C [0x50, 0x18] = .refill .C 0x18 ∧ decodeFrame .C [0x51] = .clearJam .C ∧
      decodeFrame .C [0x52, 0x50] = .derate .C 0x50 ∧ decodeFrame .C [0x53, 0x01] = .takeCount .C 0x01 ∧
      decodeFrame .C [0x54, 0x01, 0x01] = .setReportMode .C 0x01 0x01 := by
  decide +kernel

/-- Position 0F A0h is 4000 mm (R177). -/
theorem test_decode_feed_sample :
    decodeFrame .C [0x55, 0x00, 0x07, 0x0F, 0xA0, 0x01, 0xA4, 0x01, 0xC2, 0x00, 0x5F, 0x01] =
      .feedSample .C 0x00 0x07 4000 420 450 95 0x01 := by
  decide +kernel

/-- A Port C-only command sent short on Port A is TORN, and a WRITE PARAMETERS torn after its PAIRED flag (R178,
R179). -/
theorem test_decode_torn :
    decodeFrame .C [0x14] = .torn .C [0x14] ∧ decodeFrame .A [0x20] = .torn .A [0x20] ∧
      decodeFrame .C ([0x40, 0x00, 0x01] ++ List.replicate 46 0x00) =
        .torn .C ([0x40, 0x00, 0x01] ++ List.replicate 46 0x00) ∧
      decodeFrame .A [0x0B, 0x01] = .unknown .A 0x0B := by
  decide +kernel

/-- No table word spells a command (98_reader.md). -/
theorem test_table_word : decodeTableWord 8 0x10 = none := rfl

/-! ### Worked cases of the arithmetic -/

/-- A sample of these forces. -/
def sampleOf (position thrust speed torque : Nat) : Sample := ⟨0, position, thrust, speed, torque, true⟩

/-- The worked case of chapter 5: 840 + 447 wu, and 5 samples are 1608 EU, MEDIUM. -/
theorem test_sample_work :
    sampleWork (sampleOf 0 420 450 95) 2 = 1287 ∧ energyOf .default0 6435 = 1608 ∧
      classOfEnergy .default0 1608 = .medium := by
  decide +kernel

/-- The bounds of R90 and the clamp of R93. -/
theorem test_work_bounds :
    sampleWork (sampleOf 0 1000 1200 800) 40 = 50048 ∧ rotationTerm 1 95 = 0 ∧ rotationTerm 1 96 = 1 ∧
      energyOf .default0 262139 = 65534 ∧ energyOf .default0 262140 = 65535 ∧
      energyOf .default0 16777215 = 65535 := by
  decide +kernel

/-- The accumulator saturates at 16,777,215 with its mark (R91). -/
theorem test_credit_saturates :
    (({ Engine.initial with accumulator := 16777214 } : Engine).credit 1).openSaturated = true ∧
      (({ Engine.initial with accumulator := 16777213 } : Engine).credit 1).openSaturated = false := by
  decide +kernel

/-- An incomplete increment takes the held class, SOFT before any; a saturated one is HARD (R94, R96). -/
theorem test_own_class :
    ownClass .default0 (some .void) 3126 true false = .void ∧ ownClass .default0 none 0 true false = .soft ∧
      ownClass .default0 (some .void) 0 true true = .hard ∧ ownClass .default0 none 1876 false false = .soft ∧
      ownClass .default0 none 0 false false = .void := by
  decide +kernel

/-- The table of R102. -/
theorem test_windows_needed : ((List.range 9).drop 2).map voidsNeeded = [2, 3, 3, 4, 5, 6, 6] := by
  decide +kernel

/-- A window of own classes. -/
def windowOf (l : List LayerClass) : List IncRecord := l.map fun c => ⟨0, c, false, false⟩

theorem test_window_open :
    windowOpen (windowOf [.void]) = false ∧ windowOpen (windowOf [.void, .void]) = true ∧
      windowOpen (windowOf [.void, .void, .void, .void, .void, .soft, .hard, .hard]) = false ∧
      windowOpen (windowOf [.void, .void, .void, .void, .void, .void, .hard, .hard]) = true := by
  decide +kernel

/-- The seven layers of the worked merge of chapter 6, and window 13's first band as an eighth. -/
def bandedRoof : List Layer :=
  [⟨0, 240, .medium, false⟩, ⟨240, 80, .soft, false⟩, ⟨320, 240, .hard, false⟩, ⟨560, 80, .soft, false⟩,
    ⟨640, 160, .medium, false⟩, ⟨800, 80, .soft, false⟩, ⟨880, 160, .hard, false⟩, ⟨1040, 40, .medium, false⟩]

/-- An increment of another class merges into the eighth layer at the weaker class (R107). -/
theorem test_layer_merge :
    (appendLayer bandedRoof 1080 .soft).getLast? = some ⟨1040, 50, .soft, true⟩ ∧
      (appendLayer bandedRoof 1080 .hard).getLast? = some ⟨1040, 50, .medium, true⟩ ∧
      (appendLayer bandedRoof 1080 .medium).getLast? = some ⟨1040, 50, .medium, false⟩ ∧
      (appendLayer bandedRoof 1080 .soft).length = 8 := by
  decide +kernel

/-- The examples of R111, with a zone of 600 mm. -/
theorem test_competent_length :
    competentLength [⟨1100, 600, .hard, false⟩] 1700 600 = 600 ∧
      competentLength [⟨800, 400, .soft, false⟩, ⟨1200, 200, .medium, false⟩] 1400 600 = 200 ∧
      competentLength [⟨320, 320, .medium, false⟩, ⟨640, 80, .void, false⟩, ⟨720, 380, .hard, false⟩] 1100 600 =
        520 := by
  decide +kernel

/-- A drilling run with a collar at 412 and a target of 1700. -/
def runAt (front openInc work : Nat) : DrillRun where
  engine := { Engine.initial with
    collar := some 412, reference := some (412 + front), currentDepth := front, frontDepth := front
    openIncrement := openInc, accumulator := work }
  lengthClass := 2
  result := { newResult 1700 with collar := some 412 }
  voidChanges := []
  overVoid := false

/-- Line 6 and line 9 of the worked sequence of chapter 5: increments 0, and 2 to 4, close. -/
theorem test_increments_close :
    (((runAt 8 0 5148).sample .default0 (sampleOf 422 420 450 95)).1.engine.window =
        [⟨0, .medium, false, false⟩]) ∧
      (((runAt 20 2 0).sample .default0 (sampleOf 467 20 450 10)).1.engine.window =
        [⟨2, .soft, false, false⟩, ⟨3, .void, false, false⟩, ⟨4, .void, false, false⟩]) ∧
      ((runAt 20 2 0).sample .default0 (sampleOf 467 20 450 10)).1.engine.openIncrement = 5 := by
  decide +kernel

/-- A held open window is void in TWO mode where the closed one is open too, and not else (R104). -/
theorem test_two_mode :
    (({ runAt 0 0 0 with engine := { (runAt 0 0 0).engine with
        heldWindow := some ⟨windowOf (List.replicate 8 .void), true⟩ } } : DrillRun).windowFull .default0
        ⟨windowOf (List.replicate 8 .void), true⟩).result.voidTotal = 80 ∧
      (({ runAt 0 0 0 with engine := { (runAt 0 0 0).engine with
        heldWindow := some ⟨windowOf (List.replicate 8 .void), true⟩ } } : DrillRun).windowFull .default0
        ⟨windowOf (List.replicate 8 .hard), false⟩).result.layers = [⟨0, 80, .soft, false⟩] := by
  decide +kernel

/-- A weak hole is extended once, and then carries a weak anchor (R112, R113). -/
theorem test_target_test :
    ((runAt 1700 170 0).targetTest .default0).2 = .extended ∧
      ((runAt 1700 170 0).targetTest .default0).1.result.target = 2000 ∧
      ((({ runAt 1700 170 0 with lengthClass := 4 } : DrillRun).targetTest .default0).1.engine.weakAnchor = true) := by
  decide +kernel

/-- The turn table of R139 and the slip table of R142. -/
theorem test_turn_and_slip :
    [60, 1000, 12000, 12001, 12002].map turnAngle = [36, 600, 7200, 7200, 7201] ∧
      (({ Engine.initial with engaged := true } : Engine).slip .default0 149 200).slipRun = 1 ∧
      (({ Engine.initial with engaged := true } : Engine).slip .default0 150 200).slipRun = 0 := by
  decide +kernel

/-- The profile of the first worked count of R118. -/
def bandProfile : Result :=
  { newResult 1700 with
    profiledDepth := 1700
    voidTotal := 160
    layers := [⟨0, 400, .medium, false⟩, ⟨400, 80, .soft, false⟩, ⟨480, 160, .void, false⟩,
      ⟨640, 460, .medium, false⟩, ⟨1100, 600, .hard, false⟩] }

/-- The four worked counts of R118: 4, 3, 6 and 7; and the floor of 1. -/
theorem test_cartridge_counts :
    cartridgeCount .default0 bandProfile = 4 ∧
      cartridgeCount .default0 { bandProfile with layers := [⟨800, 400, .soft, false⟩] } = 3 ∧
      cartridgeCount .default0 { bandProfile with unreliable := true } = 6 ∧
      cartridgeCount .default0 { bandProfile with
        profiledDepth := 2000
        layers := List.replicate 3 ⟨0, 80, .void, false⟩ ++ List.replicate 4 ⟨0, 80, .soft, false⟩ } = 7 ∧
      cartridgeCount .default0 (newResult 1700) = 1 := by
  decide +kernel

/-- R71: ten bytes of 0 give 0; one byte of 1 gives the generator's low bits. -/
theorem test_crc : crc8 (List.replicate 10 0x00) = 0x00 ∧ crc8 [0x01] = 0x07 ∧ crc8 [0x80] = 0x89 := by
  decide +kernel

/-- A position of 4096 is clamped with one fault, one of 4000 passes (R73, R177). -/
theorem test_clamps :
    (RawSample.clampCount ⟨0, 4096, 1001, 1200, 800, 0⟩ = 2) ∧ (RawSample.clamp ⟨0, 4096, 0, 0, 0, 0xFE⟩).position = 4095 ∧
      (RawSample.clamp ⟨0, 4000, 0, 0, 0, 0xFE⟩).flush = false := by
  decide +kernel

/-- Offsets of the worked sequences of chapter 1, and the clamp of R159. -/
theorem test_offsets_and_allowance :
    supplementOffset 3300 300 = 3600 ∧ supplementOffset 6800 300 = 6500 ∧ supplementOffset 6700 300 = 7000 ∧
      [95, 250, 125].map clampAllowance = [90, 200, 120] := by
  decide +kernel

/-- A grant of a stage with an amount. -/
def grantOf (x : FlowStage) (amount : Nat) : FlowGrant :=
  (FlowRequest.ofStage .A x).granted amount

/-- The table of R155. -/
theorem test_derate_table :
    Arbiter.initial.derateTo 50 = 60 ∧
      ({ Arbiter.initial with grants := ⟨some (grantOf .drilling 60), some (grantOf .drilling 40)⟩ } : Arbiter).derateTo 60 =
        60 ∧
      ({ Arbiter.initial with grants := ⟨some (grantOf .spinning 50), some (grantOf .drilling 30)⟩ } : Arbiter).derateTo 60 =
        80 ∧
      ({ Arbiter.initial with grants := ⟨some (grantOf .spinning 50), some (grantOf .torquing 40)⟩ } : Arbiter).derateTo 60 =
        90 := by
  decide +kernel


/-! ### Small states -/

/-- The result part of a hole at work: collar at 412 mm, target 1700 mm, the profile of `bandProfile`. -/
def workResult : Result :=
  { bandProfile with
    collar := some 412, drilledDepth := some 1700, cartPlanned := some 4, cartDelivered := some 0, spinRevs := some 0 }

/-- A planned hole in row 40: position 3, offset 3300 mm, class 2. -/
def hole : Entry where
  validity := .live
  row := 40
  position := 3
  reach := .either
  offset := 3300
  lengthClass := 2
  priority := 1
  origin := .plan
  parent := none
  generation := 0
  holeState := .planned
  claimant := none
  drained := false
  result := none

/-- The hole in a later hole state, claimed by boom A where that state has a claimant. -/
def holeIn (h : HoleState) : Entry :=
  { hole with
    holeState := h
    claimant := if h.isClaimed then some .A else none
    result := if h = .planned ∨ h = .claimed then none else some workResult }

/-- The record of row 40 with counts. -/
def rowOf (x : RowState) (entries accepted rejected : Nat) : RowRecord := ⟨40, x, x != .opened, entries, accepted, rejected⟩

/-- The part with these entries, and row 40 with these figures. -/
def tableOf (l : List (Slot × Entry)) (r : RowRecord) : State :=
  { State.reset with
    slots := l.foldl (fun v x => v.set x.1 (some x.2)) State.reset.slots
    rows := [r] }

/-- The hole state of a claimed hole whose boom is in a cycle state (R4, R43). -/
def stageHole : CycleState → HoleState
  | .claimed => .claimed
  | .drilling => .drilling
  | .withdrawing | .awaitResin | .loading => .drilled
  | .awaitBolt => .resined
  | .spinning | .setting | .torquing => .bolted
  | .idle | .halted | .suspended => .planned

/-- The flow grant of a cycle state. -/
def stageGrant : CycleState → Option FlowGrant
  | .drilling => some (grantOf .drilling 60)
  | .spinning => some (grantOf .spinning 50)
  | .torquing => some (grantOf .torquing 40)
  | _ => none

/-- A lane that is IN_STEP. -/
def goodLane : Lane :=
  { Lane.initial with health := .inStep, lastSeq := some 9, lastPosition := some 500, lossTimer := some 3 }

/-- The unit of a boom that works slot 12 in a cycle state, running where the state can be held. -/
def unitIn (c : CycleState) : BoomUnit :=
  { BoomUnit.initial with
    cycle := c
    workSlot := some 12
    claimHeld := true
    spinTimer := if c = .spinning then some 0 else none
    setTimer := if c = .setting then some 0 else none
    torqueTimer := if c = .torquing then .running 7 else .notStarted
    feed := c == .drilling
    turn := c.holdable }

/-- A Strata Engine in the middle of a hole, with a seat run of 1. -/
def workEngine : Engine :=
  { Engine.initial with
    collar := some 412, reference := some 420, currentDepth := 8, frontDepth := 8, seatRun := 1, peak := some 200 }

/-- Boom A at work on slot 12, in a cycle state, with its flow and its loader grant; boom B is IDLE. -/
def busy (c : CycleState) : State :=
  { tableOf [(12, holeIn (stageHole c))] (rowOf .opened 1 0 0) with
    units := ⟨unitIn c, .initial⟩
    lanes := ⟨goodLane, .initial⟩
    engines := ⟨workEngine, .initial⟩
    arbiter := { Arbiter.initial with
      grants := ⟨stageGrant c, none⟩
      order := if c = .drilling then [.A] else [] }
    loader := { Loader.initial with
      magazine := 5
      state := if c = .loading then .firing else .idle
      grant := if c = .loading then some ⟨.A, 4, 3, 0, false⟩ else none
      stageTimer := if c = .loading then some 100 else none
      fire := c = .loading
      pulseTimer := if c = .loading then some 4 else none } }

/-- Boom A suspended out of a stage, with a torque stage timer that is paused where it came from TORQUING. -/
def suspendedFrom (x : StoredState) : State :=
  { busy x.cycle with
    units := ⟨{ unitIn .suspended with
      stored := some x, torqueTimer := if x = .torquing then .paused 7 else .notStarted }, .initial⟩
    arbiter := .initial }

/-- Boom A in a stage on a lane that is not IN_STEP, held LANE. -/
def offStep (c : CycleState) : State :=
  { busy c with
    lanes := ⟨{ goodLane with health := .outOfStep }, .initial⟩
    units := ⟨{ unitIn c with
      holds := ⟨false, c.holdable, false⟩
      abandonTimer := if c = .drilling then some 5 else none
      feed := false, turn := false }, .initial⟩
    engines := ⟨{ workEngine with seatRun := 0 }, .initial⟩ }

/-- Boom A in DRY mode on a HELD hole, in a cycle state, on a fed lane. -/
def dryIn (c : CycleState) : State :=
  { busy c with
    slots := (tableOf [(12, { holeIn (stageHole c) with validity := .held })] (rowOf .opened 1 0 0)).slots
    units := ⟨{ unitIn c with dry := true, feed := false, turn := false }, .initial⟩
    lanes := ⟨{ goodLane with lossTimer := none }, .initial⟩
    arbiter := .initial }

/-- Boom A in DRY mode, drilling a HELD hole on a lane that is not IN_STEP. -/
def dryOffStep : State :=
  { dryIn .drilling with
    lanes := ⟨{ goodLane with health := .outOfStep, lossTimer := none }, .initial⟩
    units := ⟨{ unitIn .drilling with
      dry := true, feed := false, turn := false, holds := ⟨false, true, false⟩, abandonTimer := some 5 }, .initial⟩ }

/-- Boom A with another unit. -/
def unitA (s : State) (f : BoomUnit → BoomUnit) : State := s.setUnit .A (f (s.unit .A))

/-- Boom A's stage timers, each that runs, at `n` ms. -/
def timedAt (n : Nat) (s : State) : State :=
  unitA s fun u => { u with
    abandonTimer := u.abandonTimer.map fun _ => n
    spinTimer := u.spinTimer.map fun _ => n
    setTimer := u.setTimer.map fun _ => n
    torqueTimer := match u.torqueTimer with
      | .running _ => .running n
      | x => x }

/-- Boom A's lane with its loss timer and its report period at `n` ms. -/
def laneAt (n : Nat) (s : State) : State :=
  s.setLane .A { s.lane .A with lossTimer := some n, reportTimer := some n }

/-- Boom A IDLE and in DRY mode; the part is otherwise after reset. -/
def dryIdle : State := unitA State.reset fun u => { u with dry := true }

/-- Boom A HALTED; the part is otherwise after reset. -/
def haltedPart : State := unitA State.reset fun u => { u with cycle := .halted }

/-- A part whose slots all hold one entry. -/
def fullTable (e : Entry) (r : RowRecord) (backlog : List Slot) : State :=
  { State.reset with slots := Vector.replicate 48 (some e), rows := [r], backlog := backlog }

/-- The part with RESET_N low. -/
def lowered (s : State) : State := { s with resetLow := true }

/-- The part with the Port C context, or cursor, or pending set replaced. -/
def portC (f : PortState → PortState) (s : State) : State := s.setPort .C (f (s.port .C))

/-- A match context of scope LIVE over some slots. -/
def liveContext (l : List Slot) : MatchContext := ⟨.live, l, l.head?⟩

/-! ### The invariants of concrete states -/

theorem followed_of {s : State} (h : ∀ b ∈ [Boom.A, .B],
    (s.unit b).holds.flow = ((s.unit b).cycle.holdable && s.arbiter.queue.any fun r => r.boom == b) ∧
    (s.unit b).holds.lane = ((s.unit b).cycle.holdable && !s.laneInStep b) ∧
    (s.unit b).holds.flush = ((s.unit b).cycle == .drilling && (s.unit b).flushCount == 10) ∧
    (s.unit b).feed =
      ((s.unit b).cycle == .drilling && !(s.unit b).holds.present && !(s.unit b).dry && !s.isHeld) ∧
    (s.unit b).turn =
      ((s.unit b).cycle.holdable && !(s.unit b).holds.present && !(s.unit b).dry && !s.isHeld) ∧
    (s.unit b).abandonTimer.isSome = ((s.unit b).cycle == .drilling && (s.unit b).holds.lane) ∧
    ((s.unit b).cycle ≠ .spinning → (s.unit b).spinTimer = none) ∧
    ((s.unit b).cycle = .spinning → (s.unit b).holds.present = false → (s.unit b).spinTimer.isSome = true) ∧
    ((s.unit b).cycle ≠ .setting → (s.unit b).setTimer = none) ∧
    ((s.unit b).cycle ≠ .torquing → (s.unit b).cycle ≠ .suspended → (s.unit b).torqueTimer = .notStarted) ∧
    ((s.unit b).cycle = .torquing → (s.unit b).holds.present = false → (s.unit b).torqueTimer ≠ .notStarted) ∧
    ((s.unit b).cycle = .torquing → (s.unit b).holds.present = true →
      (s.engine b).seatRun = 0 ∧ (s.engine b).engaged = false ∧ (s.engine b).slipRun = 0)) : s.Followed := fun b => by
  obtain ⟨h1, h2, h3, h4, h5, h6, h7, h8, h9, h10, h11, h12⟩ := h b (by cases b <;> decide)
  exact ⟨h1, h2, h3, h4, h5, h6, h7, h8, h9, h10, h11, h12⟩

theorem rowsAgree_of {s : State} (h : s.rows.length ≤ 4 ∧ (s.rows.map RowRecord.id).Nodup ∧
    (∀ i, ∀ e ∈ s.entry i, ∃ r ∈ s.rows, r.id = e.row) ∧
    ∀ r ∈ s.rows, r.entries = (s.slotsOfRow r.id).length ∧ r.accepted = s.countIn r.id .accepted ∧
      r.rejected = s.countIn r.id .rejected) : s.RowsAgree :=
  ⟨h.1, h.2.1, h.2.2.1, h.2.2.2⟩

/-- The checks of `ClaimsAgree` that a concrete part is put to. -/
def claimsOk (s : State) : Bool :=
  decide (s.rows.map RowRecord.id).Nodup && decide s.backlog.Nodup &&
  (allSlots.all fun i => match s.entry i with
    | none => true
    | some e =>
      (s.rows.any fun r => r.id == e.row) && e.claimant.isSome == e.holeState.isClaimed &&
      (match e.claimant with
        | none => true
        | some b => (s.unit b).claimHeld && (s.unit b).workSlot == some i) &&
      s.rows.all fun r => r.state == .opened || r.id != e.row || e.settled) &&
  ([Boom.A, .B].all fun b => !(s.unit b).claimHeld ||
    ((s.unit b).cycle != .idle && (s.unit b).cycle != .halted &&
      match (s.unit b).workSlot with
      | none => false
      | some i => match s.entry i with
        | none => false
        | some e => e.claimant == some b)) &&
  s.backlog.all fun i => match s.entry i with
    | none => false
    | some e => (e.holeState == .accepted || e.holeState == .rejected) &&
      s.rows.any fun r => r.id == e.row && r.state == .opened

theorem claimsAgree_of {s : State} (h : claimsOk s = true) : s.ClaimsAgree := by
  unfold claimsOk at h
  simp only [Bool.and_eq_true, decide_eq_true_eq, List.all_eq_true] at h
  obtain ⟨⟨⟨⟨hnodup, honce⟩, hent⟩, hwork⟩, hback⟩ := h
  have all : ∀ i e, s.entry i = some e → _ := fun i e he => by
    have := hent i (List.mem_finRange i)
    rw [he] at this
    exact this
  refine ⟨hnodup, fun i e he => ?_, fun i e he => ?_, fun i e b he hb => ?_, fun b hb => ?_, fun r hr hs i e he hrow => ?_,
    fun i hi => ?_, honce⟩
  · have := all i e he
    simp only [Bool.and_eq_true, List.any_eq_true, beq_iff_eq] at this
    exact this.1.1.1
  · have := all i e he
    simp only [Bool.and_eq_true, beq_iff_eq] at this
    exact this.1.1.2
  · have := all i e he
    simp only [hb, Bool.and_eq_true, beq_iff_eq] at this
    exact this.1.2
  · have := hwork b (by cases b <;> simp)
    simp only [hb, Bool.not_true, Bool.false_or, Bool.and_eq_true, bne_iff_ne] at this
    obtain ⟨⟨h1, h2⟩, h3⟩ := this
    refine ⟨h1, h2, ?_⟩
    cases hw : (s.unit b).workSlot with
    | none => simp [hw] at h3
    | some i =>
      cases he : s.entry i with
      | none => simp [hw, he] at h3
      | some e => exact ⟨i, e, rfl, he, by simpa [hw, he] using h3⟩
  · have := all i e he
    simp only [Bool.and_eq_true, List.all_eq_true] at this
    have := this.2 r hr
    simpa [hs, hrow] using this
  · have := hback i hi
    cases he : s.entry i with
    | none => simp [he] at this
    | some e =>
      simp only [he, Bool.and_eq_true, Bool.or_eq_true, beq_iff_eq, List.any_eq_true] at this
      obtain ⟨h1, r, hr, h2, h3⟩ := this
      exact ⟨e, r, rfl, h1, hr, h2, h3⟩

/-- The checks of `StagesAgree` that a concrete part is put to. -/
def stagesOk (s : State) : Bool :=
  ([Boom.A, .B].all fun b =>
    (decide (b ∈ s.arbiter.order) == match s.arbiter.grants.get b with
      | some g => g.stage == .drilling
      | none => false) &&
    match s.arbiter.grants.get b with
    | none => true
    | some g => (s.unit b).cycle == g.stage.cycle && !(s.unit b).dry && (s.arbiter.queue.all fun r => r.boom != b) &&
      g.demand == (FlowRequest.ofStage b g.stage).demand && g.minimum == (FlowRequest.ofStage b g.stage).minimum &&
      decide (g.minimum ≤ g.amount) && decide (g.amount ≤ g.demand) && g.degraded == decide (g.amount < g.demand)) &&
  (s.arbiter.queue.all fun r => decide (r = FlowRequest.ofStage r.boom r.stage) &&
    (s.unit r.boom).cycle == r.stage.cycle && !(s.unit r.boom).dry) &&
  decide (s.arbiter.queue.map FlowRequest.boom).Nodup && decide s.arbiter.order.Nodup &&
  decide (60 ≤ s.arbiter.derate ∧ s.arbiter.derate ≤ 100 ∧ s.arbiter.total ≤ s.arbiter.capacity) &&
  (s.loader.queue.all fun b => (s.unit b).cycle == .awaitResin) && decide s.loader.queue.Nodup &&
  match s.loader.grant with
  | none => true
  | some g => g.cancelled || (s.unit g.boom).cycle == .loading

theorem stagesAgree_of {s : State} (h : stagesOk s = true) : s.StagesAgree := by
  unfold stagesOk at h
  simp only [Bool.and_eq_true, decide_eq_true_eq, List.all_eq_true] at h
  obtain ⟨⟨⟨⟨⟨⟨⟨hg, hq⟩, hqo⟩, hoo⟩, hd⟩, hl⟩, hlo⟩, hload⟩ := h
  refine ⟨fun b g e => ?_, fun r hr => ?_, hqo, fun b => ?_, hoo, ⟨hd.1, hd.2.1⟩, hd.2.2, fun b hb => ?_, hlo,
    fun g e c => ?_⟩
  · have := (hg b (by cases b <;> simp)).2
    simp only [e, Bool.and_eq_true, beq_iff_eq, Bool.not_eq_true', List.all_eq_true, bne_iff_ne, decide_eq_true_eq]
      at this
    obtain ⟨⟨⟨⟨⟨⟨⟨h1, h2⟩, h3⟩, h4⟩, h5⟩, h6⟩, h7⟩, h8⟩ := this
    exact ⟨h1, h2, h3, h4, h5, h6, h7, h8⟩
  · have := hq r hr
    simp only [beq_iff_eq, Bool.not_eq_true'] at this
    exact ⟨this.1.1, this.1.2, this.2⟩
  · have := (hg b (by cases b <;> simp)).1
    cases e : s.arbiter.grants.get b with
    | none =>
      simp only [e, beq_iff_eq, decide_eq_false_iff_not] at this
      exact ⟨fun k => absurd k this, fun ⟨_, k, _⟩ => nomatch k⟩
    | some g =>
      simp only [e, beq_iff_eq] at this
      exact ⟨fun k => ⟨g, rfl, beq_iff_eq.mp (this ▸ decide_eq_true k)⟩, fun ⟨_, k, d⟩ => by
        cases k
        exact of_decide_eq_true (this.trans (beq_iff_eq.mpr d))⟩
  · simpa using hl b hb
  · simpa [e, c] using hload

theorem noticesSound_of {s : State} (h : ∀ p ∈ [Port.A, .B, .C],
    ((s.port p).pending.map NoticePair.rank).Pairwise (· < ·) ∧
    ((s.port p).atn = true ↔ s.resetLow = false ∧
      ∃ n ∈ (s.port p).pending, (s.port p).masks.getLsbD n.kind = false)) : s.NoticesSound := fun p =>
  ⟨(h p (by cases p <;> simp)).1, (h p (by cases p <;> simp)).2⟩

theorem paramSet_sound (x : ParamSet) (h : x = .default0 ∨ x = .default1) : x.Sound := by
  rcases h with rfl | rfl <;> constructor <;> decide

theorem storeSound_of {s : State} (h : s.params = .initial) : s.StoreSound := by
  constructor <;> rw [h]
  · exact paramSet_sound _ (.inl rfl)
  · exact paramSet_sound _ (.inr rfl)
  all_goals decide

/-- No claim of boom B: the claims are apart. -/
theorem claimsApart_of {s : State} (h : ∀ i, ∀ e ∈ s.entry i, e.claimant ≠ some .B) : s.ClaimsApart :=
  fun _ j _ f _ hf _ hB => absurd hB (h j f hf)

theorem profilesAgree_of {s : State} (h : ∀ i, ∀ e ∈ s.entry i, e.result = none ∨ e.result = some workResult) :
    s.ProfilesAgree := fun i e r he hr => by
  rcases h i e he with k | k <;> rw [hr] at k
  · cases k
  · cases k
    constructor
    · decide
    · intro k
      match k with
      | 0 | 1 | 2 | 3 | 4 => decide
      | k + 5 => intro x hx; cases hx
    · decide
    · decide

theorem busy_sound (c : CycleState) (h : c ≠ .idle ∧ c ≠ .halted ∧ c ≠ .suspended) :
    (busy c).Followed ∧ (busy c).RowsAgree ∧ (busy c).ClaimsAgree ∧ (busy c).ClaimsApart ∧ (busy c).StagesAgree ∧
      (busy c).NoticesSound ∧ (busy c).StoreSound ∧ (busy c).ProfilesAgree := by
  refine ⟨followed_of ?_, rowsAgree_of ?_, claimsAgree_of ?_, claimsApart_of ?_, stagesAgree_of ?_, noticesSound_of ?_,
    storeSound_of rfl, profilesAgree_of ?_⟩
  all_goals
    obtain ⟨h1, h2, h3⟩ := h
    cases c <;> first | contradiction | decide +kernel

theorem suspended_sound (x : StoredState) : (suspendedFrom x).Followed :=
  followed_of (by cases x <;> decide +kernel)

/-! ### The effect of one command -/

/-- What holds after a command. -/
def after (c : Instr) (s : State) (f : State → Bool) : Bool :=
  match exec c s with
  | .next t => f t
  | _ => false

theorem exists_of_after {c : Instr} {s : State} {f : State → Bool} (h : after c s f = true) :
    ∃ t, exec c s = .next t ∧ f t = true := by
  unfold after at h
  split at h
  · exact ⟨_, ‹_›, h⟩
  · cases h

/-- The code that a command of Port C leaves in the last-result record. -/
def codeC (c : Instr) (s : State) (x : Code) : Bool := after c s fun t => (t.port .C).last.code == x

/-- A lone OPEN row and its PLAN HOLE: an offset above 7000 is clamped (R9, R159). -/
theorem test_open_and_plan :
    (after (.openRow .C 40) State.reset fun t => t.rows == [⟨40, .opened, false, 0, 0, 0⟩]) = true ∧
      (after (.planHole .C 40 3 2 7001 2 1) { State.reset with rows := [⟨40, .opened, false, 0, 0, 0⟩] } fun t =>
        (t.port .C).last == ⟨some 0x21, .clamped, some 0⟩ && (t.entry 0).map Entry.offset == some 7000) = true := by
  decide +kernel

/-- Two holes of chapter 2's worked sequence, 3600 and 4500 mm, with boom A on 3300 mm: 300 mm is too close, and CLAIM
NEXT of boom B takes the other (R36, R38). -/
theorem test_claim_next_separation :
    (after (.claimNext .B) { busy .drilling with
        slots := (tableOf [(12, holeIn .drilling), (5, { hole with offset := 3600, priority := 0 }),
          (8, { hole with offset := 4500 })] (rowOf .opened 3 0 0)).slots } fun t =>
      (t.port .B).last == ⟨some 0x10, .done, some 8⟩ && (t.unit .B).workSlot == some 8) = true ∧
    (after (.claimSlot .B 0 5) { busy .drilling with
        slots := (tableOf [(12, holeIn .drilling), (5, { hole with offset := 3600 })] (rowOf .opened 2 0 0)).slots }
      fun t => (t.port .B).last.code == .tooClose) = true := by
  decide +kernel

/-- Step 2 of the worked cycle: a target of 1700 mm and a grant of 60 (R51). -/
theorem test_collared :
    (after (.collared .A 0) (busy .claimed) fun t =>
      (t.entry 12).map Entry.result == some (some (newResult 1700)) && (t.unit .A).cycle == .drilling &&
        (t.arbiter.grants.a.map FlowGrant.amount) == some 60 && (t.unit .A).feed && (t.unit .A).turn) = true := by
  decide +kernel

/-- A lane out of step holds the boom at the entry, with FEED and TURN low and the abandon timer at 0 (R45, R47). -/
theorem test_collared_held :
    (after (.collared .A 0) (offStep .claimed) fun t =>
      (t.unit .A).holds == ⟨false, true, false⟩ && !(t.unit .A).feed && !(t.unit .A).turn &&
        (t.unit .A).abandonTimer == some 0) = true := by
  decide +kernel

/-- Step 7 of the worked cycle: 4 cartridges, granted at once (R54, R118, R122). -/
theorem test_bit_out :
    (after (.bitOut .A 0) (busy .withdrawing) fun t =>
      t.loader.grant == some ⟨.A, 4, 0, 0, false⟩ && t.loader.state == .diverting && (t.unit .A).cycle == .loading)
      = true := by
  decide +kernel

/-- The fourth cartridge of four ends the loading; the magazine goes from 5 to 4 (R124, R126). -/
theorem test_done_edge :
    (after .doneEdge (busy .loading) fun t =>
      t.loader.magazine == 4 && t.loader.state == .idle && (t.unit .A).cycle == .awaitBolt &&
        (t.entry 12).map Entry.holeState == some .resined) = true := by
  decide +kernel

/-- A JAM edge, and CLEAR JAM after one jam and after two (R127, R128). -/
theorem test_jams :
    (after .jamEdge (busy .loading) fun t => t.loader.state == .jammed && t.loader.magazine == 4 &&
      t.loader.grant == some ⟨.A, 4, 3, 1, false⟩ && (t.port .B).pending.contains .loader) = true ∧
    (after (.clearJam .C) { busy .loading with
      loader := { (busy .loading).loader with state := .jammed, grant := some ⟨.A, 4, 3, 1, false⟩ } } fun t =>
        t.loader.state == .gap && t.loader.stageTimer == some 0) = true ∧
    (after (.clearJam .C) { busy .loading with
      loader := { (busy .loading).loader with state := .jammed, grant := some ⟨.A, 4, 3, 2, false⟩ } } fun t =>
        (t.unit .A).cycle == .idle && t.loader.state == .idle &&
          (t.entry 12).map Entry.holeState == some .rejected) = true := by
  decide +kernel

/-- Steps 10 and 11 of the worked cycle: BOLT IN asks 50, and the set timer's end asks 40 (R56, R58). -/
theorem test_bolt_in_and_set :
    (after (.boltIn .A 0) (busy .awaitBolt) fun t => (t.unit .A).cycle == .spinning &&
      t.arbiter.grants.a.map FlowGrant.amount == some 50 && (t.unit .A).spinTimer == some 0 && !(t.unit .A).feed)
      = true ∧
    (after (.setTimerExpiry .A) (timedAt 15000 (busy .setting)) fun t => (t.unit .A).cycle == .torquing &&
      t.arbiter.grants.a.map FlowGrant.amount == some 40 && (t.unit .A).torqueTimer == .running 0) = true := by
  decide +kernel

/-- A verdict's supplement: 300 mm along, priority 0, generation 1, in slot 0 (R20, R21). A spin max timer of 12000 ms
that has not run its time rejects nothing (R56). -/
theorem test_spin_short :
    (after (.spinMaxExpiry .A) (timedAt 11999 (busy .spinning)) fun t => (t.unit .A).cycle == .spinning) = true ∧
    (after (.spinMaxExpiry .A) (timedAt 12000 (busy .spinning)) fun t =>
      (t.entry 12).map Entry.holeState == some .rejected && t.rows.map RowRecord.entries == [2] &&
        t.rows.map RowRecord.rejected == [1] && t.entry 0 == some { hole with
          offset := 3600, priority := 0, origin := .supplement, parent := some 12, generation := 1 }) = true := by
  decide +kernel

/-- SUSPEND pauses the torque stage timer, and RESUME lets it run on (R61 to R63). -/
theorem test_suspend_resume :
    (after (.suspend .C 0) (busy .torquing) fun t => (t.unit .A).torqueTimer == .paused 7 &&
      (t.unit .A).stored == some .torquing && t.arbiter.grants.a == none && !(t.unit .A).turn &&
        (t.engine .A).seatRun == 0) = true ∧
    (after (.resume .C 0) (suspendedFrom .torquing) fun t => (t.unit .A).torqueTimer == .running 7 &&
      (t.unit .A).cycle == .torquing && (t.unit .A).stored == none && (t.unit .A).turn) = true := by
  decide +kernel

/-- ABORT of a hole of 8 mm returns it to PLANNED without its result part; one of 100 mm is REJECTED (R64). The open
increment and the windows are dropped (R99, R115). -/
theorem test_abort :
    (after (.abort .C 0) (busy .drilling) fun t => t.entry 12 == some hole && (t.unit .A).cycle == .halted &&
      t.arbiter.grants.a == none) = true ∧
    (after (.abort .C 0) ((busy .drilling).setEngine .A { workEngine with
        currentDepth := 100, accumulator := 7, window := windowOf [.void] }) fun t =>
      (t.entry 12).map Entry.holeState == some .rejected && (t.engine .A).accumulator == 0 &&
        (t.engine .A).window == [] &&
        ((t.entry 12).bind Entry.result).map Result.drilledDepth == some (some 100)) = true := by
  decide +kernel

/-- The sync value opens a frame, and the loss timer's end at 50 ms loses the lane and holds the boom; a frame that was
taken first has restarted the timer, and keeps the lane (R70, R78, R45). -/
theorem test_lane :
    (after (.laneCharacter .A 0xA5 true) (busy .drilling) fun t => (t.lane .A).framer == .inFrame [0xA5] 0) = true ∧
    (after (.lossTimerExpiry .A) (laneAt 0 (busy .drilling)) fun t => (t.lane .A).health == .inStep) = true ∧
    (after (.lossTimerExpiry .A) (laneAt 50 (busy .drilling)) fun t => (t.lane .A).health == .lost && (t.lane .A).faults == 1 &&
      (t.unit .A).holds.lane && !(t.unit .A).feed && (t.engine .A).openIncomplete) = true := by
  decide +kernel

/-- The report period moves the fault count into the report value (R81). -/
theorem test_report :
    (after (.reportPeriodExpiry .B) (State.reset.setLane .B { Lane.initial with faults := 7, reportTimer := some 1000 })
      fun t => (t.lane .B).reportValue == 7 && (t.lane .B).faults == 0 && (t.port .C).pending == [.report .B]) = true := by
  decide +kernel

/-- RESET_N keeps SHIFT and lowers any other mode to OPEN (R17, R176). -/
theorem test_reset_keeps_shift :
    (after .resetN { State.reset with protection := .shift } fun t => t.protection == .shift && t.resetLow) = true ∧
      (after .resetN { State.reset with protection := .guarded } fun t => t.protection == .opened) = true := by
  decide +kernel

/-- A byte restarts the gap timer, and a gap of 1 ms tears the frame (R70). -/
theorem test_gap :
    (after (.gapTimerExpiry .A) ((busy .drilling).setLane .A { goodLane with framer := .inFrame [0xA5] 0 }) fun t =>
      (t.lane .A).framer == .inFrame [0xA5] 0) = true ∧
    (after (.gapTimerExpiry .A) ((busy .drilling).setLane .A { goodLane with framer := .inFrame [0xA5] 1 }) fun t =>
      (t.lane .A).framer == .hunting && (t.lane .A).faults == 1) = true := by
  decide +kernel

/-- A magazine of 0 fires nothing, and REFILL lets it fire (R123, R125). -/
theorem test_refill :
    (after .settleExpiry { State.reset with loader := { Loader.initial with
        state := .diverting, grant := some ⟨.A, 4, 0, 0, true⟩, stageTimer := some 300 } } fun t =>
      t.loader.state == .waitMagazine && !t.loader.fire) = true ∧
    (after (.refill .C 41) { State.reset with loader := { Loader.initial with
        state := .waitMagazine, grant := some ⟨.A, 4, 0, 0, true⟩ } } fun t =>
      t.loader.state == .firing && t.loader.fire && t.loader.magazine == 40 &&
        (t.port .C).last.code == .clamped) = true := by
  decide +kernel

/-- A read of segment 0 leaves the cursor at 1 once its whole reply was clocked out, and where it was before (R34). -/
theorem test_read_entry_cursor :
    (after (.readEntry .A 12 0) (busy .drilling) fun t =>
      (after (.readEffects .A 16) t fun u => (u.port .A).cursor == some (12, 1) && (u.port .A).frame == .idle) &&
        (after (.readEffects .A 15) t fun u => (u.port .A).cursor == none && (u.port .A).frame == .idle)) = true := by
  decide +kernel

/-- A pair that comes while the NOTICES reply is clocked out stays pending after it (R170). -/
theorem test_notices_repost :
    (after (.notices .B) (State.reset.post (.stage .A)) fun t =>
      (after (.readEffects .B 3) t fun u => (u.port .B).pending == []) &&
        (after (.readEffects .B 3) (t.post (.stage .A)) fun u => (u.port .B).pending == [.stage .A])) = true := by
  decide +kernel

/-- A request of 50 cuts the other boom's DRILLING grant of 60 to 50 (R152). -/
theorem test_flow_cut :
    (((busy .drilling).requestFlow ⟨.B, .spinning, 50, 50⟩).arbiter.grants.a.map fun g => (g.amount, g.degraded)) =
        some (50, true) ∧
      ((busy .drilling).requestFlow ⟨.B, .drilling, 60, 30⟩).arbiter.grants.b.map (fun g => (g.amount, g.degraded)) =
        some (40, true) := by
  decide +kernel

/-- The queue's front is taken first, and an empty queue is a tick. -/
theorem test_step :
    (match step { State.reset with pending := [.openRow .C 1, .openRow .C 2] } with
      | .next t => t.rows.map RowRecord.id == [1] && t.pending == [.openRow .C 2]
      | _ => false) = true ∧
    (match step (State.reset.setLane .A { goodLane with lossTimer := some 49 }) with
      | .next t => t.pending == [.lossTimerExpiry .A] && (t.lane .A).lossTimer == some 50
      | _ => false) = true := by
  decide +kernel

/-! ### Witnesses of the statements' hypotheses: each names states and operands that meet them together -/

theorem reset_followed : State.reset.Followed := followed_of (by decide +kernel)

theorem dryIdle_followed : dryIdle.Followed := followed_of (by decide +kernel)

theorem offStep_followed (c : CycleState) (h : c.holdable = true) : (offStep c).Followed := by
  cases c <;> first | contradiction | exact followed_of (by decide +kernel)

theorem dryIn_sound (c : CycleState) (h : c ≠ .idle ∧ c ≠ .halted ∧ c ≠ .suspended) :
    (dryIn c).Followed ∧ (dryIn c).ClaimsAgree := by
  obtain ⟨h1, h2, h3⟩ := h
  cases c <;> first | contradiction | exact ⟨followed_of (by decide +kernel), claimsAgree_of (by decide +kernel)⟩

theorem witness_IdleStepTicksTimers :
    ((busy .drilling).pending = [] ∧ (busy .drilling).isHeld = false ∧ (lowered (busy .drilling)).pending = [] ∧
      (lowered (busy .drilling)).isHeld = true) ∧
    (∃ s : State, s.pending = [] ∧ s.isHeld = false ∧ (s.lane .A).lossTimer = some 49 ∧
      (s.lane .B).lossTimer = some 48 ∧ (s.lane .A).reportTimer = some 999 ∧
      (s.lane .A).framer = .inFrame [0xA5] 0 ∧ (s.lane .B).framer = .hunting ∧
      (s.unit .A).torqueTimer = .running 7 ∧ (s.unit .B).torqueTimer = BoomUnit.initial.torqueTimer) :=
  ⟨by decide +kernel,
    { State.reset with
      lanes := ⟨{ goodLane with framer := .inFrame [0xA5] 0, lossTimer := some 49, reportTimer := some 999 },
        { goodLane with lossTimer := some 48 }⟩
      units := ⟨{ BoomUnit.initial with torqueTimer := .running 7 }, .initial⟩ }, by decide +kernel⟩

theorem witness_FramesRoundTrip :
    ((Instr.planHole .C 40 3 2 3300 2 1).wf = true ∧
      encodeFrame (.planHole .C 40 3 2 3300 2 1) = some (.C, [0x21, 40, 3, 2, 0x0C, 0xE4, 2, 1])) ∧
    ((Instr.claimSlot .A 0 0xFF).wf = true ∧ encodeFrame (.claimSlot .A 0 0xFF) = some (.A, [0x11, 0xFF])) ∧
    ((Instr.claimSlot .C 1 0xFF).wf = true ∧ encodeFrame (.claimSlot .C 1 0xFF) = some (.C, [0x11, 1, 0xFF])) ∧
    (Instr.bitOut .A 0).wf = true ∧ encodeFrame (.bitOut .A 0) = some (.A, [0x14]) := by
  decide +kernel

theorem witness_ShortUnknownAndLongFrames :
    State.reset.Takes .C ∧
    (CommandName.ofByte 0x20 = some .openRow ∧ ([] : List Byte).length < CommandName.openRow.argCount .C []) ∧
    CommandName.ofByte 0x0B = none ∧ CommandName.openRow.argCount .C [40] ≤ [40].length := by
  exact ⟨rfl, by decide +kernel⟩

theorem witness_ResetsAndSupply : (busy .drilling).Followed := (busy_sound _ (by decide)).1

theorem witness_RestartDisposesAndResets :
    ((busy .drilling).Takes .C ∧ (busy .drilling).ClaimsAgree ∧
      (busy .drilling).entry 12 = some (holeIn .drilling) ∧ (holeIn .drilling).claimant = some .A ∧
      (holeIn .drilling).validity ≠ .held) ∧
    (∀ d, ((busy .drilling).setEngine .A { workEngine with currentDepth := d }).ClaimsAgree ∧
      (((busy .drilling).setEngine .A { workEngine with currentDepth := d }).engine .A).currentDepth = d) ∧
    ((dryIn .torquing).Takes .C ∧ (dryIn .torquing).ClaimsAgree ∧
      ((dryIn .torquing).entry 12).map Entry.validity = some .held) ∧
    ((busy .claimed).ClaimsAgree ∧ ((busy .claimed).entry 12).map Entry.holeState = some .claimed) ∧
    ((busy .loading).ClaimsAgree ∧ (busy .loading).loader.state = .firing) :=
  ⟨⟨rfl, (busy_sound _ (by decide)).2.2.1, by decide +kernel⟩,
    fun _ => ⟨⟨(busy_sound .drilling (by decide)).2.2.1.rows, (busy_sound .drilling (by decide)).2.2.1.present,
      (busy_sound .drilling (by decide)).2.2.1.named, (busy_sound .drilling (by decide)).2.2.1.held,
      (busy_sound .drilling (by decide)).2.2.1.working, (busy_sound .drilling (by decide)).2.2.1.settled,
      (busy_sound .drilling (by decide)).2.2.1.parents, (busy_sound .drilling (by decide)).2.2.1.once⟩, rfl⟩,
    ⟨rfl, (dryIn_sound _ (by decide)).2, by decide +kernel⟩,
    ⟨(busy_sound _ (by decide)).2.2.1, by decide +kernel⟩, ⟨(busy_sound _ (by decide)).2.2.1, by decide +kernel⟩⟩

theorem witness_FrameStartLatchesStatus :
    State.reset.isHeld = false ∧ (lowered State.reset).isHeld = true ∧
      ((portC (fun q => { q with frame := .dropped }) State.reset).port .C).frame = .dropped ∧
      (portC (fun q => { q with frame := .dropped }) State.reset).frameLost .C = true ∧
      (lowered State.reset).frameLost .C = true ∧
      (Instr.openRow .C 40).canopyCommand = some (.C, .openRow) ∧
      (Instr.collared .C 1).boomCommand = some (.C, 1, .collared) := by
  decide +kernel

theorem witness_ReadsTakeEffectWhole :
    ∀ e ∈ [ReadEffect.nothing, .cursor (some (12, 1)) none, .cursor (some (12, 1)) (some 12),
        .clear [.stage .A] [], .clear [.stage .A] [.stage .A]],
      ∃ s : State, s.Takes .C ∧ (s.port .C).frame = .reply ⟨.done, 0⟩ 0 [1, 2, 3] e ∧
        s.entry 12 = some (holeIn .drilling) ∧ (2 : Nat) < [1, 2, 3].length ∧ [1, 2, 3].length ≤ 3 :=
  fun e _ => ⟨portC (fun q => { q with frame := .reply ⟨.done, 0⟩ 0 [1, 2, 3] e }) (busy .drilling), rfl, rfl,
    rfl, by decide, by decide⟩

theorem witness_AuthorityDenied :
    ((Instr.openRow .A 40).canopyCommand = some (.A, .openRow) ∧ State.reset.Takes .A ∧ State.reset.Takes .C) ∧
    ((Instr.collared .C 0).boomCommand = some (.C, 0, .collared) ∧ ∀ b, ¬ State.reset.MayIssue .C 0 b) ∧
    ((Instr.collared .A 0).boomCommand = some (.A, 0, .collared) ∧ dryIdle.Takes .A ∧ ∀ b, ¬ dryIdle.MayIssue .A 0 b) ∧
    ((Instr.collared .C 2).boomCommand = some (.C, 2, .collared) ∧ dryIdle.Takes .C ∧ ∀ b, ¬ dryIdle.MayIssue .C 2 b) ∧
    Port.boom .A = some .A ∧ (dryIdle.unit .A).dry = true := by
  refine ⟨⟨rfl, rfl, rfl⟩, ⟨rfl, ?_⟩, ⟨rfl, rfl, ?_⟩, ⟨rfl, rfl, ?_⟩, rfl, rfl⟩ <;>
    (intro b; cases b <;> unfold State.MayIssue <;> decide)

theorem witness_RefusedChangesNothing :
    (Instr.openRow .A 40).canopyCommand = some (.A, .openRow) ∧ State.reset.Takes .A ∧
    (∃ t, exec (.openRow .A 40) State.reset = .next t ∧
      ((t.port .A).last.code != .done && (t.port .A).last.code != .clamped) = true) ∧
    (∃ t, exec (.claimNext .A) State.reset = .next t ∧
      ((t.port .A).last.code != .done && (t.port .A).last.code != .clamped) = true) ∧
    (Instr.collared .A 0).boomCommand = some (.A, 0, .collared) ∧
    (∃ t, exec (.collared .A 0) State.reset = .next t ∧
      ((t.port .A).last.code != .done && (t.port .A).last.code != .clamped) = true) :=
  ⟨rfl, rfl, exists_of_after (by decide +kernel), exists_of_after (by decide +kernel), rfl,
    exists_of_after (by decide +kernel)⟩

theorem witness_ReadMatchesReturnsContext :
    (portC (fun q => { q with context := liveContext [3, 47] }) State.reset).Takes .C ∧ State.reset.Takes .A :=
  ⟨rfl, rfl⟩

theorem witness_PlainReadsReply :
    State.reset.Takes .A ∧ State.reset.StoreSound ∧ (3 : Nat) ≤ (0x03#8).toNat :=
  ⟨rfl, storeSound_of rfl, by decide⟩

theorem witness_ReadStatusSnapshot :
    ((busy .loading).Takes .A ∧ (busy .loading).loader.grant = some ⟨.A, 4, 3, 0, false⟩ ∧
      (busy .loading).rows[0]? = some (rowOf .opened 1 0 0)) ∧ State.reset.Takes .B ∧ State.reset.loader.grant = none ∧
    (State.reset.arbiter.queue = [] ∧ State.reset.entry 0 = none ∧ ∀ k : Fin 4, State.reset.rows[k.val]? = none) ∧
    (∃ s : State, s.Takes .A ∧ s.arbiter.queue = [FlowRequest.ofStage .A .drilling, FlowRequest.ofStage .B .spinning] ∧
      (FlowRequest.ofStage .A .drilling).boom = .A ∧ (FlowRequest.ofStage .B .spinning).boom = .B) ∧
    ((fullTable hole (rowOf .opened 48 0 0) []).Takes .A ∧
      ∀ i, (fullTable hole (rowOf .opened 48 0 0) []).entry i ≠ none) ∧
    ∃ s : State, s.Takes .A ∧ s.entry 47 = none ∧ ∀ j, j < 47 → s.entry j ≠ none :=
  ⟨⟨rfl, rfl, rfl⟩, rfl, rfl, by decide,
    ⟨{ State.reset with arbiter := { Arbiter.initial with
      queue := [FlowRequest.ofStage .A .drilling, FlowRequest.ofStage .B .spinning] } }, rfl, rfl, rfl, rfl⟩,
    ⟨rfl, by decide +kernel⟩,
    ⟨{ fullTable hole (rowOf .opened 47 0 0) [] with
      slots := (fullTable hole (rowOf .opened 47 0 0) []).slots.set 47 none }, rfl, by decide +kernel⟩⟩

theorem witness_RecordReadsDeliverSegments :
    ((busy .spinning).Takes .C ∧ (busy .spinning).entry 12 = some (holeIn .bolted) ∧
      (holeIn .bolted).segments = 5 ∧ (0x04#8).toNat < 5 ∧ 5 ≤ (0x05#8).toNat ∧ hole.segments = 2) ∧
    ((tableOf [(12, { holeIn .accepted with drained := false })] (rowOf .frozen 1 1 0)).Takes .C ∧
      (tableOf [(12, holeIn .accepted)] (rowOf .frozen 1 1 0)).rowIs 40 .frozen = true) ∧
    ((portC (fun q => { q with context := liveContext [12], cursor := some (12, 4) }) (busy .spinning)).Takes .C ∧
      ((portC (fun q => { q with context := liveContext [12], cursor := some (12, 4) }) (busy .spinning)).port
        .C).context.best = some 12) ∧
    ((portC (fun q => { q with cursor := some (12, 5) }) (busy .spinning)).Takes .C) ∧
    (State.reset.port .C).context.best = none ∧ (State.reset.port .C).cursor = none ∧
    (48 ≤ (48#8).toNat ∧ 48#8 ≠ 0xFF) ∧ State.reset.entry 47 = none := by
  refine ⟨⟨rfl, ?_⟩, ⟨rfl, ?_⟩, ⟨rfl, ?_⟩, rfl, ?_⟩ <;> decide +kernel

theorem witness_NoticesReportAndClear : (State.reset.post (.stage .A)).Takes .B ∧ State.reset.Takes .A := ⟨rfl, rfl⟩

theorem witness_NoticesConfigured :
    State.reset.Takes .A ∧ (EdgeMode.any.byte = 1 ∧ EdgeMode.rise.byte = 0) ∧ 1 < (0x02#8).toNat := by
  exact ⟨rfl, by decide⟩

theorem witness_NoticesRecorded :
    (busy .drilling).NoticesSound ∧ ((busy .drilling).port .A).edges.mode (.void .A) = .rise ∧
      (portC (fun q => { q with edges := ⟨.any, .any, .any, .any, .any⟩ }) (busy .drilling)).NoticesSound ∧
      ((portC (fun q => { q with edges := ⟨.any, .any, .any, .any, .any⟩ }) (busy .drilling)).port .C).edges.mode
        (.void .A) = .any :=
  ⟨(busy_sound _ (by decide)).2.2.2.2.2.1, by decide +kernel, noticesSound_of (by decide +kernel), by decide +kernel⟩

theorem witness_SearchReplacesContext :
    (busy .drilling).Takes .A ∧ (0x00 = Validity.live.byte - 1 ∧ 0x01 = Validity.skip.byte - 1 ∧
      0x02 = Validity.held.byte - 1) ∧
    ((7#8).toNat ≤ 7 ∧ (2#8).toNat ≤ 2 ∧ (8#8).toNat ≤ 8 ∧ (1#8).toNat ≤ 1) ∧
    (4 ≤ (4#8).toNat ∧ (2#8).toNat ≤ 2 ∧ (0x3F#8).getLsbD 1 = true ∧ 8 ≤ (8#8).toNat ∧ (0x3F#8).getLsbD 2 = true ∧
      3 ≤ (3#8).toNat ∧ (0x3F#8).getLsbD 3 = true ∧ 9 ≤ (9#8).toNat ∧ (0x3F#8).getLsbD 4 = true ∧
      (0x3F#8).getLsbD 5 = true) := by
  exact ⟨rfl, by decide⟩

theorem witness_OpenRowAppends :
    (busy .drilling).Takes .C ∧ (∃ r ∈ (busy .drilling).rows, r.id = 40) ∧
    (∀ r ∈ (busy .drilling).rows, r.id ≠ 41) ∧ (busy .drilling).rows.length < 4 ∧
    ∃ s : State, s.Takes .C ∧ (∀ r ∈ s.rows, r.id ≠ 41) ∧ 4 ≤ s.rows.length :=
  ⟨rfl, by decide, by decide, by decide, { State.reset with rows := List.replicate 4 (rowOf .opened 0 0 0) }, rfl,
    by decide, by decide⟩

theorem witness_PlanHoleWritesEntry :
    ((fullTable hole (rowOf .opened 48 0 0) []).Takes .C ∧
      (fullTable hole (rowOf .opened 48 0 0) []).nextFree = none) ∧
    (State.reset.Takes .C ∧ State.reset.nextFree ≠ none ∧ State.reset.row 40 = none) ∧
    (∀ x ∈ [RowState.opened, .closed], (tableOf [(12, hole)] (rowOf x 1 0 0)).Takes .C ∧
      (tableOf [(12, hole)] (rowOf x 1 0 0)).nextFree = some 0 ∧
      (tableOf [(12, hole)] (rowOf x 1 0 0)).row 40 = some (rowOf x 1 0 0) ∧
      (tableOf [(12, hole)] (rowOf x 1 0 0)).entry 12 = some hole) ∧
    ((rowOf .opened 1 0 0).planEnded = false ∧ (rowOf .closed 1 0 0).state ≠ .opened ∧ 7 < (8#8).toNat ∧
      2 < (3#8).toNat ∧ hole.origin = .plan ∧ hole.row = 40 ∧ hole.position = (3#8).toNat) ∧
    ((7#8).toNat ≤ 7 ∧ Reach.byte .either = 2 ∧
      ∀ j, ∀ e ∈ (tableOf [(12, hole)] (rowOf .opened 1 0 0)).entry j, e.origin = .plan → e.row = 40 →
        e.position ≠ (7#8).toNat) := by
  refine ⟨⟨rfl, ?_⟩, ⟨rfl, ?_⟩, fun x _ => ⟨rfl, ?_⟩, ?_, ?_⟩
  · decide +kernel
  · decide +kernel
  · revert x; intro x _; cases x <;> decide +kernel
  · decide +kernel
  · decide +kernel

theorem witness_SlotsWrittenAndEmptied :
    (busy .drilling).entry 12 = some (holeIn .drilling) ∧ (∃ j, j ≠ 12 ∧ (busy .drilling).entry j = none) ∧
    (∀ j, j ≠ 12 → (fullTable hole (rowOf .opened 48 0 0) []).entry j ≠ none) ∧
    ((busy .drilling).port .A).context.scope ≠ .empty ∧
    ((portC (fun q => { q with context := ⟨.empty, [12], some 12⟩, cursor := some (12, 1) }) (busy .drilling)).port
      .C).context.scope = .empty ∧
    (∀ j ∈ [(12 : Slot), 5], ((portC (fun q => { q with
      frame := .reply ⟨.done, 0⟩ 2 [1] (.cursor (some (j, 1)) none) }) (busy .drilling)).port .C).frame =
        .reply ⟨.done, 0⟩ 2 [1] (.cursor (some (j, 1)) none)) ∧
    (∀ st k bytes j n drain,
      ((busy .drilling).port .C).frame ≠ .reply st k bytes (.cursor (some (j, n)) drain)) := by
  refine ⟨?_, ⟨0, ?_⟩, ?_, ?_, ?_, fun _ _ => rfl, nofun⟩ <;> decide +kernel

/-- A part with an OPEN row whose plan has not ended and whose one hole is settled, or not. -/
def planned (h : HoleState) (backlog : List Slot) : State :=
  { tableOf [(12, holeIn h)] (rowOf .opened 1 0 0) with backlog := backlog }

theorem witness_EndPlanAndClosing :
    (State.reset.Takes .C ∧ State.reset.row 40 = none) ∧
    ((tableOf [] (rowOf .closed 0 0 0)).row 40 = some (rowOf .closed 0 0 0) ∧
      (rowOf .closed 0 0 0).state ≠ .opened) ∧
    ((planned .accepted []).Takes .C ∧ (planned .accepted []).row 40 = some (rowOf .opened 1 0 0) ∧
      (rowOf .opened 1 0 0).planEnded = false ∧
      (∀ i, ∀ e ∈ (planned .accepted []).entry i, e.row = 40 → e.settled = true)) ∧
    ((planned .planned []).row 40 = some (rowOf .opened 1 0 0) ∧
      ∃ e ∈ (planned .planned []).entry 12, e.row = 40 ∧ e.settled = false) ∧
    ((planned .rejected [12]).row 40 = some (rowOf .opened 1 0 0) ∧
      ∃ i ∈ (planned .rejected [12]).backlog, ∃ e ∈ (planned .rejected [12]).entry i, e.row = 40) := by
  refine ⟨⟨rfl, ?_⟩, ?_, ⟨rfl, ?_⟩, ?_, ?_⟩ <;> decide +kernel

theorem witness_RowsFrozenAndThawed :
    (State.reset.Takes .C ∧ State.reset.row 40 = none) ∧
    (∀ x ∈ [RowState.opened, .closed, .frozen], ∀ m ∈ [Protection.opened, .guarded, .shift], ∀ g ∈ [true, false],
      ∃ s : State, s.Takes .C ∧ s.row 40 = some (rowOf x 1 1 0) ∧ (rowOf x 1 1 0).state = x ∧ s.protection = m ∧
        s.guardPin = g) :=
  ⟨⟨rfl, rfl⟩, fun x _ m _ g _ => ⟨{ tableOf [(12, holeIn .accepted)] (rowOf x 1 1 0) with
    protection := m, guardPin := g }, rfl, rfl, rfl, rfl, rfl⟩⟩

theorem witness_ReleaseRowFreesSlots :
    (State.reset.Takes .C ∧ State.reset.row 40 = none) ∧
    (∀ d ∈ [true, false], ∃ s : State, s.Takes .C ∧ s.row 40 = some (rowOf .frozen 1 1 0) ∧
      (rowOf .frozen 1 1 0).state = .frozen ∧ ∀ i, ∀ e ∈ s.entry i, e.row = 40 ∧ e.drained = d) ∧
    -- a released slot, 12, and a slot of another row, 13, in the contexts, cursors and replies
    ∀ i ∈ [(12 : Slot), 13], ∀ x ∈ [Scope.live, .empty], ∃ s : State, s.Takes .C ∧
      s.row 40 = some (rowOf .frozen 1 1 0) ∧ (∀ j, ∀ e ∈ s.entry j, e.row = 40 → e.drained = true) ∧
      (s.entry i).map Entry.row = some (if i = 12 then 40 else 41) ∧
      (s.port .A).context = ⟨x, [12, 13], some i⟩ ∧ (s.port .A).cursor = some (i, 1) ∧
      (s.port .A).frame = .reply ⟨.done, 0⟩ 0 [1, 2, 3] (.cursor (some (i, 1)) none) :=
  ⟨⟨rfl, rfl⟩, fun d _ => ⟨tableOf [(12, { holeIn .accepted with drained := d })] (rowOf .frozen 1 1 0), rfl, rfl, rfl,
    by cases d <;> decide +kernel⟩, fun i hi x _ => ⟨(tableOf [(12, { holeIn .accepted with drained := true }),
      (13, { holeIn .planned with row := 41 })] (rowOf .frozen 1 1 0)).setPort .A { PortState.initial with
        context := ⟨x, [12, 13], some i⟩, cursor := some (i, 1)
        frame := .reply ⟨.done, 0⟩ 0 [1, 2, 3] (.cursor (some (i, 1)) none) }, rfl, rfl,
      by cases x <;> fin_cases hi <;> decide +kernel, by fin_cases hi <;> cases x <;> decide +kernel, rfl, rfl, rfl⟩⟩

theorem witness_BacklogDrains :
    State.reset.backlog = [] ∧ (fullTable (holeIn .rejected) (rowOf .opened 48 0 48) [12]).nextFree = none ∧
      (planned .rejected [12]).backlog = [12] ∧ (planned .rejected [12]).nextFree = some 0 ∧
      (planned .rejected [12]).entry 12 = some (holeIn .rejected) := by
  decide +kernel

theorem witness_ProtectionSet :
    2 < (3#8).toNat ∧ ∀ x ∈ [Protection.opened, .guarded, .shift], ∀ g ∈ [true, false],
      ∃ s : State, s.Takes .C ∧ s.protection = x ∧ s.guardPin = g :=
  ⟨by decide, fun x _ g _ => ⟨{ State.reset with protection := x, guardPin := g }, rfl, rfl, rfl⟩⟩

theorem witness_ShiftLastsUntilPowerOn :
    ∃ t, step { State.reset with protection := .shift } = .next t ∧
      State.protection { State.reset with protection := .shift } = .shift ∧
      State.reset.pending.head? ≠ some .powerOn :=
  ⟨_, rfl, rfl, by decide⟩

theorem witness_EraseEmptiesSlot :
    (State.reset.Takes .C ∧ 47 < (48#8).toNat ∧ (47#8).toNat = (47 : Slot).val ∧ State.reset.entry 47 = none) ∧
    (∀ h ∈ [HoleState.planned, .tested, .accepted], (planned h []).Takes .C ∧
      (planned h []).entry 12 = some (holeIn h) ∧ (planned h []).rowIs 40 .opened = true ∧
      (planned h []).rowIs 40 .frozen = false) ∧
    ((tableOf [(12, holeIn .accepted)] (rowOf .frozen 1 1 0)).rowIs 40 .frozen = true) ∧
    ((tableOf [(12, holeIn .accepted)] (rowOf .closed 1 1 0)).rowIs 40 .frozen = false ∧
      (tableOf [(12, holeIn .accepted)] (rowOf .closed 1 1 0)).rowIs 40 .opened = false) := by
  refine ⟨⟨rfl, ?_⟩, fun h _ => ⟨rfl, ?_⟩, ?_⟩
  · decide +kernel
  · cases h <;> decide +kernel
  · decide +kernel

theorem witness_ValiditySet :
    (State.reset.Takes .C ∧ 3 < (4#8).toNat ∧ (State.reset.port .C).context.best = none ∧
      (48 ≤ (48#8).toNat ∧ 48#8 ≠ 0xFF ∧ 48#8 ≠ 0xFE) ∧ State.reset.entry 47 = none) ∧
    (∀ h ∈ [HoleState.planned, .accepted],
      (portC (fun q => { q with context := liveContext [12] }) (planned h [])).Takes .C ∧
      ((portC (fun q => { q with context := liveContext [12] }) (planned h [])).port .C).context.members = [12] ∧
      ((portC (fun q => { q with context := liveContext [12] }) (planned h [])).port .C).context.best = some 12 ∧
      (portC (fun q => { q with context := liveContext [12] }) (planned h [])).entry 12 = some (holeIn h) ∧
      (portC (fun q => { q with context := liveContext [12] }) (planned h [])).rowIs 40 .opened = true ∧
      (portC (fun q => { q with context := liveContext [12] }) (planned h [])).rowIs 40 .frozen = false) ∧
    (tableOf [(12, holeIn .accepted)] (rowOf .frozen 1 1 0)).rowIs 40 .frozen = true := by
  refine ⟨⟨rfl, ?_⟩, fun h _ => ⟨rfl, ?_⟩, ?_⟩
  · decide +kernel
  · cases h <;> decide +kernel
  · decide +kernel

theorem witness_SupplementsCancelled :
    (State.reset.Takes .C ∧ State.reset.row 40 = none) ∧
    (tableOf [] (rowOf .frozen 0 0 0)).row 40 = some (rowOf .frozen 0 0 0) ∧
    ((planned .rejected []).row 40 = some (rowOf .opened 1 0 0) ∧ (planned .rejected []).backlog = []) ∧
    ((planned .rejected [12]).Takes .C ∧ (planned .rejected [12]).row 40 = some (rowOf .opened 1 0 0) ∧
      (rowOf .opened 1 0 0).state ≠ .frozen ∧ 12 ∈ (planned .rejected [12]).backlog ∧
      (planned .rejected [12]).entry 12 = some (holeIn .rejected)) := by
  refine ⟨⟨rfl, rfl⟩, ?_, ?_, rfl, ?_⟩ <;> decide +kernel

theorem witness_TableVerdictGiven :
    (busy .torquing).entry 12 = some (holeIn .bolted) ∧ (busy .torquing).nextFree = some 0 ∧
    (busy .torquing).row 40 = some (rowOf .opened 1 0 0) ∧
    (∀ k ∈ [7, 8], (fullTable (holeIn .bolted) (rowOf .opened 48 0 0) (List.replicate k 3)).nextFree = none ∧
      (fullTable (holeIn .bolted) (rowOf .opened 48 0 0) (List.replicate k 3)).entry 12 = some (holeIn .bolted) ∧
      (fullTable (holeIn .bolted) (rowOf .opened 48 0 0) (List.replicate k 3)).backlog.length = k) ∧
    (tableOf [(12, { holeIn .bolted with generation := 2 })] (rowOf .opened 1 0 0)).entry 12 =
      some { holeIn .bolted with generation := 2 } ∧
    VerdictReason.good.supplementDue = false ∧ VerdictReason.jam.supplementDue = true ∧
    (∃ s : State, s.entry 12 = some (holeIn .bolted) ∧ s.row 40 = some ⟨40, .opened, true, 1, 0, 0⟩ ∧
      (∀ k, ∀ f ∈ (s.tableVerdict 12 .good).entry k, f.row = 40 → f.settled = true) ∧
      ∀ k ∈ (s.tableVerdict 12 .good).backlog, ∀ f ∈ (s.tableVerdict 12 .good).entry k, f.row ≠ 40) ∧
    (∃ s : State, s.entry 12 = some (holeIn .bolted) ∧ s.row 40 = some ⟨40, .opened, true, 1, 0, 0⟩ ∧
      ∃ f ∈ (s.tableVerdict 12 .jam).entry 0, f.row = 40 ∧ f.settled = false) := by
  refine ⟨?_, ?_, ?_, ?_, ?_, ?_, ?_, ⟨tableOf [(12, holeIn .bolted)] ⟨40, .opened, true, 1, 0, 0⟩, ?_⟩,
    ⟨tableOf [(12, holeIn .bolted)] ⟨40, .opened, true, 1, 0, 0⟩, ?_⟩⟩ <;> decide +kernel

theorem witness_ClaimNextTakesChoice :
    ((busy .drilling).Takes .A ∧ Port.boom .A = some .A ∧ ((busy .drilling).unit .A).dry = false ∧
      ((busy .drilling).unit .A).cycle ≠ .idle) ∧
    (State.reset.Takes .A ∧ (State.reset.unit .A).cycle = .idle ∧ (State.reset.unit .A).dry = false ∧
      ∀ k i e, ¬ State.reset.EligibleAt .A k i e) ∧
    ((planned .planned []).Takes .A ∧ (planned .planned []).Followed ∧
      ((planned .planned []).rows.map RowRecord.id).Nodup ∧ ((planned .planned []).unit .A).cycle = .idle ∧
      ((planned .planned []).unit .A).dry = false ∧ (planned .planned []).EligibleAt .A 0 12 hole ∧
      ∀ l j f, (planned .planned []).EligibleAt .A l j f →
        0 < l ∨ (0 = l ∧ (hole.priority < f.priority ∨ (hole.priority = f.priority ∧ 12 ≤ j)))) := by
  refine ⟨⟨rfl, by decide +kernel⟩, ⟨rfl, by decide +kernel, by decide +kernel, fun k i e h => ?_⟩, rfl,
    followed_of (by decide +kernel), by decide, by decide, by decide, ?_, fun l j f h => ?_⟩
  · have : ∀ i, ∀ e ∈ State.reset.entry i, False := by decide +kernel
    exact this i e h.1
  · refine ⟨by decide +kernel, rfl, rfl, ⟨rowOf .opened 1 0 0, rfl, rfl, rfl⟩, .inl rfl, fun i f _ hc => ?_⟩
    cases hc
  · have : ∀ j, ∀ f ∈ (planned .planned []).entry j, j = 12 ∧ f = hole := by decide +kernel
    obtain ⟨rfl, rfl⟩ := this j f h.1
    cases l with
    | zero => exact .inr ⟨rfl, .inr ⟨rfl, by decide⟩⟩
    | succ l => exact .inl (by omega)

/-- A part whose boom B works the hole of slot 12 at 3300 mm, and whose slot 5 holds another at this offset. -/
def besideB (offset : Nat) : State :=
  { tableOf [(12, { holeIn .claimed with claimant := some .B }), (5, { hole with offset := offset })]
      (rowOf .opened 2 0 0) with
    units := ⟨.initial, unitIn .claimed⟩ }

theorem witness_ClaimedBySlotAndCancelled :
    (State.reset.Takes .A ∧ State.reset.MayIssue .A 0 .A ∧ (State.reset.port .A).context.best = none ∧
      (48 ≤ (48#8).toNat ∧ 48#8 ≠ 0xFF) ∧ (47#8).toNat = (47 : Slot).val ∧ State.reset.entry 47 = none) ∧
    (dryIdle.Takes .C ∧ dryIdle.MayIssue .C 0 .A) ∧
    ((tableOf [(12, holeIn .accepted)] (rowOf .frozen 1 1 0)).rowIs 40 .frozen = true) ∧
    (∃ s : State, s.Takes .A ∧ s.MayIssue .A 0 .A ∧ (s.unit .A).cycle = .idle ∧ s.entry 12 = some hole ∧
      s.rowIs 40 .opened = true ∧ s.rowIs 40 .frozen = false ∧ s.Followed ∧ s.PassesSeparation .A hole) ∧
    (∃ s : State, s.Takes .C ∧ s.MayIssue .C 0 .A ∧ (s.unit .A).cycle = .idle ∧
      s.entry 12 = some { hole with validity := .held } ∧ s.rowIs 40 .opened = true ∧ s.Followed) ∧
    ((besideB 3600).Takes .A ∧ (besideB 3600).MayIssue .A 0 .A ∧
      (besideB 3600).entry 5 = some { hole with offset := 3600 } ∧
      ¬ (besideB 3600).PassesSeparation .A { hole with offset := 3600 }) ∧
    ((busy .claimed).Takes .A ∧ (busy .claimed).MayIssue .A 0 .A ∧ ((busy .claimed).unit .A).cycle = .claimed ∧
      (busy .claimed).Followed ∧ ((busy .claimed).unit .A).claimHeld = true ∧
      ((busy .claimed).unit .A).workSlot = some 12 ∧ (busy .claimed).entry 12 = some (holeIn .claimed)) := by
  refine ⟨⟨rfl, .inl ⟨rfl, rfl, rfl⟩, rfl, by decide, rfl, rfl⟩, ⟨rfl, .inr (.inr ⟨rfl, rfl, rfl⟩)⟩, by decide +kernel,
    ⟨planned .planned [], rfl, .inl ⟨rfl, rfl, rfl⟩, by decide, by decide +kernel, by decide, by decide,
      followed_of (by decide +kernel), fun i f _ hc => nomatch hc⟩,
    ⟨unitA (tableOf [(12, { hole with validity := .held })] (rowOf .opened 1 0 0)) fun u => { u with dry := true }, rfl,
      .inr (.inr ⟨rfl, rfl, rfl⟩), by decide, by decide +kernel, by decide, followed_of (by decide +kernel)⟩,
    ⟨rfl, .inl ⟨rfl, rfl, rfl⟩, by decide +kernel, fun h => ?_⟩,
    ⟨rfl, .inl ⟨rfl, rfl, rfl⟩, rfl, (busy_sound _ (by decide)).1, rfl, rfl, by decide +kernel⟩⟩
  have := h 12 { holeIn .claimed with claimant := some .B } (by decide +kernel) rfl rfl rfl (by decide)
  revert this
  decide

/-- The facts of boom A's claim on slot 12 that most statements ask for. -/
def holds12 (s : State) (c : CycleState) (e : Entry) : Bool :=
  (s.unit .A).cycle == c && (s.unit .A).claimHeld && (s.unit .A).workSlot == some 12 && s.entry 12 == some e

theorem witness_CollaredAndBoltInStartStages :
    (∀ c ∈ [CycleState.claimed, .awaitBolt, .drilling], (busy c).Takes .A ∧ (busy c).MayIssue .A 0 .A ∧
      (busy c).Followed ∧ holds12 (busy c) c (holeIn (stageHole c)) = true) ∧
    ((offStep .claimed).Takes .A ∧ (offStep .claimed).MayIssue .A 0 .A ∧ (offStep .claimed).Followed ∧
      holds12 (offStep .claimed) .claimed (holeIn .claimed) = true) ∧
    ((dryIn .claimed).Takes .C ∧ (dryIn .claimed).MayIssue .C 0 .A ∧ (dryIn .claimed).Followed) := by
  refine ⟨fun c hc => ⟨rfl, .inl ⟨rfl, rfl, rfl⟩, ?_⟩, ⟨rfl, .inl ⟨rfl, rfl, rfl⟩, followed_of ?_, ?_⟩, rfl,
    .inr (.inr ⟨rfl, rfl, rfl⟩), (dryIn_sound _ (by decide)).1⟩
  · have : c = .claimed ∨ c = .awaitBolt ∨ c = .drilling := by simpa using hc
    rcases this with rfl | rfl | rfl <;> exact ⟨(busy_sound _ (by decide)).1, by decide +kernel⟩
  · decide +kernel
  · decide +kernel

theorem witness_CartridgesCounted :
    0 < ParamSet.default0.cartridgeColumn ∧ workResult.unreliable = false ∧
      (3 = min 8 (2 * (workResult.layers.filter fun x => x.cls == .void).length +
        (workResult.layers.filter fun x => x.cls == .soft && decide (50 ≤ x.length)).length)) ∧
      ({ workResult with unreliable := true } : Result).unreliable = true := by
  decide +kernel

theorem witness_BitOutEndsWithdrawal :
    ((busy .claimed).Takes .A ∧ (busy .claimed).MayIssue .A 0 .A ∧ ((busy .claimed).unit .A).cycle ≠ .withdrawing) ∧
    ((busy .withdrawing).Takes .A ∧ (busy .withdrawing).MayIssue .A 0 .A ∧ (busy .withdrawing).Followed ∧
      holds12 (busy .withdrawing) .withdrawing (holeIn .drilled) = true ∧
      (holeIn .drilled).result = some workResult ∧
      cartridgeCount ((busy .withdrawing).active .A) workResult = ((busy .withdrawing).active .A).maxCartridges ∧
      (busy .withdrawing).loader.state = .idle ∧ (busy .withdrawing).StagesAgree) ∧
    (∃ s : State, s.MayIssue .A 0 .A ∧ s.Followed ∧ holds12 s .withdrawing (holeIn .drilled) = true ∧
      s.loader.state ≠ .idle ∧ s.StagesAgree) ∧
    (∃ s : State, s.MayIssue .A 0 .A ∧ s.Followed ∧ s.StagesAgree ∧ holds12 s .withdrawing { holeIn .drilled with
        result := some { workResult with unreliable := true } } = true ∧
      (s.active .A).maxCartridges < cartridgeCount (s.active .A) { workResult with unreliable := true }) ∧
    (∃ s : State, s.MayIssue .A 0 .A ∧ s.Followed ∧ (s.unit .A).cycle = .withdrawing ∧
      (s.unit .A).claimHeld = false) ∧
    ((dryIn .withdrawing).Takes .C ∧ (dryIn .withdrawing).MayIssue .C 0 .A ∧ (dryIn .withdrawing).Followed ∧
      holds12 (dryIn .withdrawing) .withdrawing { holeIn .drilled with validity := .held } = true) := by
  refine ⟨⟨rfl, .inl ⟨rfl, rfl, rfl⟩, by decide⟩,
    ⟨rfl, .inl ⟨rfl, rfl, rfl⟩, (busy_sound _ (by decide)).1, by decide +kernel, rfl, by decide +kernel, rfl,
      (busy_sound _ (by decide)).2.2.2.2.1⟩,
    ⟨{ busy .withdrawing with loader := { Loader.initial with state := .jammed } }, .inl ⟨rfl, rfl, rfl⟩,
      followed_of ?_, ?_, ?_, stagesAgree_of ?_⟩,
    ⟨{ busy .withdrawing with slots := (tableOf [(12, { holeIn .drilled with
      result := some { workResult with unreliable := true } })] (rowOf .opened 1 0 0)).slots }, .inl ⟨rfl, rfl, rfl⟩,
      followed_of ?_, stagesAgree_of ?_, ?_, ?_⟩,
    ⟨unitA (busy .withdrawing) (fun u => { u with claimHeld := false }), .inl ⟨rfl, rfl, rfl⟩, followed_of ?_, rfl,
      rfl⟩,
    rfl, .inr (.inr ⟨rfl, rfl, rfl⟩), (dryIn_sound _ (by decide)).1, by decide +kernel⟩ <;> decide +kernel

theorem witness_SuspendedAndResumed :
    State.reset.Takes .C ∧ 1 < (2#8).toNat ∧ (State.reset.unit .A).cycle ≠ .drilling ∧
    (∀ x : StoredState, (busy x.cycle).Takes .C ∧ ((busy x.cycle).unit .A).cycle = x.cycle ∧ (busy x.cycle).Followed) ∧
    (∀ x : StoredState, (suspendedFrom x).Takes .C ∧ ((suspendedFrom x).unit .A).cycle = .suspended ∧
      ((suspendedFrom x).unit .A).stored = some x ∧ (suspendedFrom x).Followed) ∧
    ((suspendedFrom .torquing).unit .A).torqueTimer = .paused 7 ∧ (suspendedFrom .drilling).laneInStep .A = true :=
  ⟨rfl, by decide, by decide,
    fun x => ⟨rfl, rfl, (busy_sound _ (by cases x <;> decide)).1⟩,
    fun x => ⟨rfl, rfl, rfl, suspended_sound x⟩, by decide, by decide⟩

theorem witness_AbortHaltsAndClearFrees :
    (State.reset.Takes .C ∧ 1 < (2#8).toNat ∧ (State.reset.unit .A).cycle = .idle) ∧
    (haltedPart.Takes .C ∧ (haltedPart.unit .A).cycle = .halted ∧ haltedPart.Followed) ∧
    (∀ c ∈ [CycleState.claimed, .drilling, .withdrawing, .awaitResin, .loading, .awaitBolt, .spinning, .setting,
        .torquing],
      (busy c).Takes .C ∧ (busy c).Followed ∧ (busy c).ClaimsAgree ∧
        holds12 (busy c) c (holeIn (stageHole c)) = true) ∧
    (∃ s : State, s.Takes .C ∧ s.Followed ∧ s.ClaimsAgree ∧ holds12 s .drilling (holeIn .drilling) = true ∧
      (s.engine .A).currentDepth = 100) ∧
    (∃ s : State, s.Takes .C ∧ s.Followed ∧ s.ClaimsAgree ∧ (s.unit .A).cycle = .withdrawing ∧
      (s.unit .A).claimHeld = false) ∧
    ((dryIn .torquing).Takes .C ∧ (dryIn .torquing).Followed ∧ (dryIn .torquing).ClaimsAgree) := by
  refine ⟨⟨rfl, by decide, rfl⟩, ⟨rfl, rfl, followed_of (by decide +kernel)⟩, fun c hc => ⟨rfl, ?_⟩,
    ⟨(busy .drilling).setEngine .A { workEngine with currentDepth := 100 }, rfl, followed_of ?_, claimsAgree_of ?_, ?_,
      rfl⟩,
    ⟨{ State.reset with units := ⟨{ BoomUnit.initial with cycle := .withdrawing, workSlot := some 12 }, .initial⟩ },
      rfl, followed_of ?_, claimsAgree_of ?_, rfl, rfl⟩,
    rfl, (dryIn_sound _ (by decide)).1, (dryIn_sound _ (by decide)).2⟩
  · have hb : c ≠ .idle ∧ c ≠ .halted ∧ c ≠ .suspended := by revert hc; cases c <;> decide
    refine ⟨(busy_sound c hb).1, (busy_sound c hb).2.2.1, ?_⟩
    obtain ⟨h1, h2, h3⟩ := hb
    cases c <;> first | contradiction | decide +kernel
  all_goals decide +kernel

theorem witness_DrySwitched :
    State.reset.Takes .C ∧ 1 < (2#8).toNat ∧ (State.reset.unit .A).cycle = .idle ∧ (State.reset.unit .A).dry = false ∧
      State.reset.Followed ∧ dryIdle.Takes .C ∧ (dryIdle.unit .A).cycle = .idle ∧ (dryIdle.unit .A).dry = true ∧
      dryIdle.Followed ∧ (busy .claimed).Takes .C ∧ ((busy .claimed).unit .A).cycle ≠ .idle ∧
      (State.reset.setLane .A goodLane).Followed :=
  ⟨rfl, by decide, rfl, rfl, reset_followed, rfl, rfl, rfl, dryIdle_followed, rfl, by decide,
    followed_of (by decide +kernel)⟩

/-- The default set 0 as it travels. -/
def defaultValues : ParamValues :=
  ⟨2, 150, 1200, 4000, 1, 250, 600, 300, 1, 100, 150, 600, 4, 25, 12000, 15000, 150, 270, 340, 7200, 20000, 20, 5000⟩

theorem witness_ParametersWritten :
    State.reset.Takes .C ∧ 1 < (2#8).toNat ∧ (∀ b, (State.reset.unit b).cycle = .idle) ∧
    ((busy .drilling).Takes .C ∧ ((busy .drilling).unit .A).cycle ≠ .idle ∧
      ((busy .drilling).unit .A).activeSet = .set0 ∧
      ∀ b, ((busy .drilling).unit b).cycle = .idle ∨ ((busy .drilling).unit b).activeSet ≠ .set1) ∧
    (VoidMode.two.word = defaultValues.voidMode ∧ (clampValues defaultValues .two).Sound ∧
      clampValues defaultValues .two = rawValues defaultValues .two) ∧
    ((clampValues { defaultValues with collarAllowance := 205 } .two).Sound ∧
      clampValues { defaultValues with collarAllowance := 205 } .two ≠
        rawValues { defaultValues with collarAllowance := 205 } .two) ∧
    ¬ (clampValues { defaultValues with tVoid := 1200 } .two).Sound ∧ 1 < (2#16).toNat := by
  refine ⟨rfl, by decide, fun b => by cases b <;> rfl,
    ⟨rfl, by decide, rfl, fun b => by cases b <;> decide⟩, ⟨rfl, ?_, by decide⟩, ⟨?_, by decide⟩,
    fun h => absurd h.thresholds (by decide), by decide⟩
  · rw [show clampValues defaultValues .two = .default0 by decide]
    exact paramSet_sound _ (.inl rfl)
  · constructor <;> decide

theorem witness_SelectionsAndSettingsTaken :
    State.reset.Takes .C ∧ 2 < (3#8).toNat ∧ 1 < (2#8).toNat ∧ (∀ b, (State.reset.unit b).cycle = .idle) ∧
      ((busy .claimed).Takes .C ∧ ((busy .claimed).unit .A).cycle ≠ .idle) ∧ State.reset.magazineLow = true ∧
      ∃ s : State, s.Takes .C ∧ (∀ b, (s.unit b).cycle = .idle) ∧ s.magazineLow = false ∧ s.loader.magazine ≤ 40 :=
  ⟨rfl, by decide, by decide, fun b => by cases b <;> rfl, ⟨rfl, by decide⟩, by decide,
    { State.reset with loader := { Loader.initial with magazine := 40 } }, rfl, fun b => by cases b <;> rfl, by decide,
    by decide⟩

/-- Both booms with DRILLING grants, boom A's the older, at a derate target. -/
def bothDrilling (a b derate : Nat) : State :=
  { State.reset with arbiter := { Arbiter.initial with
    grants := ⟨some (grantOf .drilling a), some (grantOf .drilling b)⟩, order := [.A, .B], derate := derate } }

theorem witness_DerateTaken :
    (∀ x ∈ [(30, 30, 100), (60, 40, 100), (60, 40, 99), (40, 40, 60)],
      (bothDrilling x.1 x.2.1 x.2.2).arbiter.queue = [] ∧ (bothDrilling x.1 x.2.1 x.2.2).arbiter.order = [.A, .B] ∧
      (bothDrilling x.1 x.2.1 x.2.2).arbiter.grants.get .A = some (grantOf .drilling x.1) ∧
      (bothDrilling x.1 x.2.1 x.2.2).arbiter.grants.get .B = some (grantOf .drilling x.2.1) ∧
      ∀ n ∈ [x.1, x.2.1], (grantOf .drilling n).stage = .drilling ∧
        (grantOf .drilling n).minimum ≤ (grantOf .drilling n).amount ∧
        (grantOf .drilling n).amount ≤ (grantOf .drilling n).demand ∧
        (grantOf .drilling n).degraded = decide ((grantOf .drilling n).amount < (grantOf .drilling n).demand)) ∧
    ((bothDrilling 60 40 100).arbiter.total ≤ (bothDrilling 60 40 100).arbiter.capacity ∧
      (bothDrilling 60 40 99).arbiter.capacity < (bothDrilling 60 40 99).arbiter.total) ∧
    State.reset.Takes .C ∧ (100#8).toNat = State.reset.arbiter.derate ∧ (60#8).toNat ≠ State.reset.arbiter.derate ∧
      (busy .drilling).Takes .C ∧ (59#8).toNat ≠ (busy .drilling).arbiter.derate ∧ (busy .drilling).Followed ∧
      (busy .drilling).StagesAgree ∧ (busy .drilling).arbiter.grants.get .A = some (grantOf .drilling 60) :=
  ⟨by decide, by decide, rfl, by decide, by decide, rfl, by decide, (busy_sound _ (by decide)).1, (busy_sound _ (by decide)).2.2.2.2.1, rfl⟩

/-- An arbiter in which boom A holds a grant, and nothing waits. -/
def grantedA (x : FlowStage) (amount : Nat) : State :=
  { State.reset with arbiter := { Arbiter.initial with
    grants := ⟨some (grantOf x amount), none⟩, order := if x = .drilling then [.A] else [] } }

theorem witness_FlowRequestJudged :
    (∃ s : State, s.arbiter.queue ≠ []) ∧
    (State.reset.arbiter.queue = [] ∧ 60 ≤ State.reset.arbiter.available) ∧
    ((grantedA .drilling 60).arbiter.queue = [] ∧ (grantedA .drilling 60).arbiter.available < 60 ∧
      30 ≤ (grantedA .drilling 60).arbiter.available) ∧
    ((grantedA .drilling 60).arbiter.available < 50 ∧
      (grantedA .drilling 60).arbiter.grants.get (Boom.other .B) = some (grantOf .drilling 60) ∧
      50 - (grantedA .drilling 60).arbiter.available ≤ 60 - (grantOf .drilling 60).minimum) ∧
    (∃ s : State, s.arbiter.queue = [] ∧ s.arbiter.available < 50 ∧
      s.arbiter.grants.get (Boom.other .B) = some (grantOf .drilling 30) ∧
      30 - (grantOf .drilling 30).minimum < 50 - s.arbiter.available) ∧
    (∃ s : State, s.arbiter.queue = [] ∧ s.arbiter.available < 30 ∧
      s.arbiter.grants.get (Boom.other .B) = some (grantOf .spinning 50) ∧ s.arbiter.available < 50) :=
  ⟨⟨{ State.reset with arbiter := { Arbiter.initial with queue := [FlowRequest.ofStage .A .drilling] } }, by decide⟩,
    by decide, by decide, by decide,
    ⟨{ grantedA .drilling 30 with arbiter := { (grantedA .drilling 30).arbiter with derate := 60 } }, by decide⟩,
    ⟨{ grantedA .spinning 50 with arbiter := { (grantedA .spinning 50).arbiter with derate := 60 } }, by decide⟩⟩

/-- The loader of boom A in another state, with another magazine, and with both its timers at `m` ms. -/
def loaderAt (x : LoaderState) (n m : Nat) : State :=
  { busy .loading with loader := { (busy .loading).loader with
    state := x, magazine := n, stageTimer := some m, pulseTimer := some m } }

theorem loaderAt_sound (x : LoaderState) (n m : Nat) :
    (loaderAt x n m).Followed ∧ (loaderAt x n m).ClaimsAgree ∧ (loaderAt x n m).StagesAgree := by
  have h := busy_sound .loading (by decide)
  have hs := h.2.2.2.2.1
  have hc := h.2.2.1
  exact ⟨fun b => ⟨(h.1 b).flow, (h.1 b).lane, (h.1 b).flush, (h.1 b).feed, (h.1 b).turn, (h.1 b).abandon, (h.1 b).spin,
      (h.1 b).spinRuns, (h.1 b).set, (h.1 b).torque, (h.1 b).torqueRuns, (h.1 b).runs⟩,
    ⟨hc.rows, hc.present, hc.named, hc.held, hc.working, hc.settled, hc.parents, hc.once⟩,
    ⟨hs.grant, hs.waiting, hs.queueOnce, hs.order, hs.orderOnce, hs.derate, hs.sum, hs.resin, hs.resinOnce, hs.loading⟩⟩

theorem witness_LoaderFiresAndRefills :
    (∀ x n m, (loaderAt x n m).Takes .C ∧ (loaderAt x n m).Followed ∧ (loaderAt x n m).isHeld = false ∧
      (loaderAt x n m).loader.state = x ∧ (loaderAt x n m).loader.magazine = n ∧
      (loaderAt x n m).loader.stageTimer = some m ∧ (loaderAt x n m).loader.pulseTimer = some m) ∧
    (lowered (loaderAt .gap 1 200)).isHeld = true ∧ (lowered State.reset).Followed ∧
      (loaderAt .waitMagazine 0 0).loaderStatus = true ∧ (loaderAt .waitMagazine 1 0).loaderStatus = false ∧
      (loaderAt .idle 6 0).magazineLow = true ∧ (loaderAt .idle 7 0).magazineLow = false :=
  ⟨fun x n m => ⟨rfl, (loaderAt_sound x n m).1, rfl, rfl, rfl, rfl, rfl⟩, by decide, followed_of (by decide +kernel),
    by decide, by decide, by decide, by decide⟩

theorem witness_LoaderDeliversAndJams :
    (∀ x n m, (loaderAt x n m).Followed ∧ (loaderAt x n m).ClaimsAgree ∧ (loaderAt x n m).StagesAgree ∧
      (loaderAt x n m).isHeld = false ∧ (loaderAt x n m).loader.stageTimer = some m) ∧
    ((loaderAt .firing 5 3000).loader.grant = some ⟨.A, 4, 3, 0, false⟩ ∧
      holds12 (loaderAt .firing 5 3000) .loading (holeIn .drilled) = true ∧
      (holeIn .drilled).result = some workResult) ∧
    (∃ s : State, s.Followed ∧ s.ClaimsAgree ∧ s.StagesAgree ∧ s.loader.state = .firing ∧
      s.loader.grant = some ⟨.A, 4, 2, 0, false⟩ ∧ holds12 s .loading (holeIn .drilled) = true) ∧
    (∃ s : State, s.Followed ∧ s.ClaimsAgree ∧ s.StagesAgree ∧ s.loader.state = .firing ∧
      s.loader.grant = some ⟨.B, 4, 2, 0, true⟩ ∧ s.loader.queue = [.A]) := by
  refine ⟨fun x n m => ⟨(loaderAt_sound x n m).1, (loaderAt_sound x n m).2.1, (loaderAt_sound x n m).2.2, rfl, rfl⟩,
    ⟨rfl, by decide +kernel, rfl⟩,
    ⟨{ busy .loading with loader := { (busy .loading).loader with grant := some ⟨.A, 4, 2, 0, false⟩ } },
      followed_of ?_, claimsAgree_of ?_, stagesAgree_of ?_, rfl, rfl, ?_⟩,
    ⟨{ busy .awaitResin with loader := { (busy .loading).loader with
        grant := some ⟨.B, 4, 2, 0, true⟩, queue := [.A] } },
      followed_of ?_, claimsAgree_of ?_, stagesAgree_of ?_, rfl, rfl, rfl⟩⟩ <;> decide +kernel

/-- A jammed loader, with boom A's grant after some jams. -/
def jammedAfter (n : Nat) : State :=
  { loaderAt .jammed 5 0 with loader := { (loaderAt .jammed 5 0).loader with grant := some ⟨.A, 4, 3, n, false⟩ } }

theorem witness_JamCleared :
    (State.reset.Takes .C ∧ State.reset.loader.state ≠ .jammed) ∧
    (∀ n ∈ [1, 2], (jammedAfter n).Takes .C ∧ (jammedAfter n).Followed ∧ (jammedAfter n).ClaimsAgree ∧
      (jammedAfter n).StagesAgree ∧ (jammedAfter n).loader.state = .jammed ∧
      (jammedAfter n).loader.grant = some ⟨.A, 4, 3, n, false⟩ ∧
      holds12 (jammedAfter n) .loading (holeIn .drilled) = true) ∧
    (∃ s : State, s.Takes .C ∧ s.Followed ∧ s.ClaimsAgree ∧ s.StagesAgree ∧ s.loader.state = .jammed ∧
      s.loader.grant = none ∧ s.loader.queue = [.A]) := by
  refine ⟨⟨rfl, by decide⟩, fun n hn => ?_,
    ⟨{ busy .awaitResin with loader := { Loader.initial with state := .jammed, queue := [.A] } }, rfl, followed_of ?_,
      claimsAgree_of ?_, stagesAgree_of ?_, rfl, rfl, rfl⟩⟩
  · have : n = 1 ∨ n = 2 := by simpa using hn
    rcases this with rfl | rfl <;>
      exact ⟨rfl, followed_of (by decide +kernel), claimsAgree_of (by decide +kernel),
        stagesAgree_of (by decide +kernel), rfl, rfl, by decide +kernel⟩
  all_goals decide +kernel

/-- Boom A drilling, with its framer holding these bytes, the last of them `m` ms old. -/
def framing (l : List Byte) (m : Nat) : State :=
  (busy .drilling).setLane .A { goodLane with framer := .inFrame l m }

theorem witness_LaneFramesTaken :
    ((busy .drilling).Followed ∧ (busy .drilling).isHeld = false ∧ ((busy .drilling).lane .A).framer = .hunting ∧
      ((busy .drilling).unit .A).dry = false ∧ (0x00#8 ≠ 0xA5)) ∧
    (lowered State.reset).Followed ∧ (dryIn .drilling).Followed ∧
    (∀ n ∈ [1, 10, 11], ∀ m ∈ [0, 1], (framing (List.replicate n 0xA5) m).Followed ∧
      ((framing (List.replicate n 0xA5) m).lane .A).framer = .inFrame (List.replicate n 0xA5) m ∧
      (List.replicate n 0xA5).length = n) ∧
    0x24 ≠ crc8 ((List.replicate 11 0x00).drop 1) ∧ 0x00 = crc8 ((List.replicate 11 0x00).drop 1) := by
  refine ⟨⟨(busy_sound _ (by decide)).1, rfl, rfl, rfl, by decide⟩, followed_of (by decide +kernel),
    (dryIn_sound _ (by decide)).1, fun n hn m hm => ?_, by decide +kernel, by decide +kernel⟩
  have hn' : n = 1 ∨ n = 10 ∨ n = 11 := by simpa using hn
  have hm' : m = 0 ∨ m = 1 := by simpa using hm
  rcases hn' with rfl | rfl | rfl <;> rcases hm' with rfl | rfl <;>
    exact ⟨followed_of (by decide +kernel), rfl, rfl⟩

theorem witness_FedSampleAdmitted :
    State.reset.Takes .C ∧ 1 < (2#8).toNat ∧ (State.reset.unit .A).dry = false ∧ dryIdle.Takes .C ∧
      (dryIdle.unit .A).dry = true ∧ (dryIn .torquing).Takes .C ∧ ((dryIn .torquing).unit .A).dry = true ∧
      (dryIn .torquing).Followed ∧ (dryIn .torquing).StagesAgree :=
  ⟨rfl, by decide, rfl, rfl, rfl, rfl, rfl, (dryIn_sound _ (by decide)).1, stagesAgree_of (by decide +kernel)⟩

theorem laneAt_followed (c : CycleState) (n : Nat) (h : c ∈ [CycleState.drilling, .torquing, .claimed]) :
    (laneAt n (busy c)).Followed := by
  have f := (busy_sound c (by revert h; cases c <;> decide)).1
  exact fun b => by
    cases b <;> exact ⟨(f _).flow, (f _).lane, (f _).flush, (f _).feed, (f _).turn, (f _).abandon, (f _).spin,
      (f _).spinRuns, (f _).set, (f _).torque, (f _).torqueRuns, (f _).runs⟩

theorem witness_LaneCountsAndLoss :
    (State.reset.Takes .C ∧ 1 < (2#8).toNat ∧ (State.reset.lane .A).reportMode = .auto ∧
      ReportMode.manual.byte = 1 ∧ State.reset.Followed ∧ State.reset.isHeld = false ∧
      (State.reset.lane .A).reportTimer ≠ none ∧ (State.reset.lane .A).lossTimer = none) ∧
    (∃ s : State, s.Takes .C ∧ (s.lane .A).reportMode = .manual ∧ s.Followed ∧ (s.lane .A).reportTimer = none) ∧
    ((lowered State.reset).isHeld = true) ∧
    (∀ c ∈ [CycleState.drilling, .torquing, .claimed], ∀ n ∈ [49, 50, 999, 1000],
      (laneAt n (busy c)).Followed ∧ (laneAt n (busy c)).isHeld = false ∧
      ((laneAt n (busy c)).lane .A).lossTimer = some n ∧ ((laneAt n (busy c)).lane .A).reportTimer = some n ∧
      ((laneAt n (busy c)).unit .A).cycle = c) :=
  ⟨⟨rfl, by decide, rfl, rfl, reset_followed, rfl, by decide, rfl⟩,
    ⟨State.reset.setLane .A { goodLane with reportMode := .manual, reportTimer := none }, rfl, rfl,
      followed_of (by decide +kernel), rfl⟩,
    rfl, fun c hc n _ => ⟨laneAt_followed c n hc, rfl, rfl, rfl, rfl⟩⟩

/-- A boom at work in a stage, held on its lane where that is DRILLING, with its timers at `n` ms. -/
def stageAt (c : CycleState) (n : Nat) : State := timedAt n (if c = .drilling then offStep c else busy c)

theorem witness_StageTimersExpire :
    ((lowered State.reset).Followed ∧ (lowered State.reset).isHeld = true) ∧
    (∀ x ∈ [(CycleState.drilling, 4999), (.drilling, 5000), (.spinning, 11999), (.spinning, 12000), (.setting, 14999),
        (.setting, 15000), (.torquing, 19999), (.torquing, 20000)],
      (stageAt x.1 x.2).Followed ∧ (stageAt x.1 x.2).StagesAgree ∧ (stageAt x.1 x.2).isHeld = false ∧
      holds12 (stageAt x.1 x.2) x.1 (holeIn (stageHole x.1)) = true) ∧
    (∀ n, ((stageAt .drilling n).unit .A).abandonTimer = some n ∧ ((stageAt .drilling n).active .A).laneAbandon = 5000 ∧
      ((stageAt .spinning n).unit .A).spinTimer = some n ∧ ((stageAt .spinning n).active .A).spinMax = 12000 ∧
      ((stageAt .setting n).unit .A).setTimer = some n ∧ ((stageAt .setting n).active .A).setTime = 15000 ∧
      ((stageAt .torquing n).unit .A).torqueTimer = .running n ∧
      ((stageAt .torquing n).active .A).torqueStage = 20000) ∧
    ((timedAt 5000 dryOffStep).Followed ∧
      holds12 (timedAt 5000 dryOffStep) .drilling { holeIn .drilling with validity := .held } = true ∧
      ((timedAt 5000 dryOffStep).unit .A).abandonTimer = some 5000 ∧ ((timedAt 5000 dryOffStep).unit .A).dry = true) ∧
    (holeIn .bolted).result = some workResult ∧ (holeIn .drilling).result = some workResult := by
  refine ⟨⟨followed_of (by decide +kernel), rfl⟩, fun x hx => ?_, fun n => ⟨rfl, rfl, rfl, rfl, rfl, rfl, rfl, rfl⟩,
    ⟨followed_of (by decide +kernel), by decide +kernel, rfl, rfl⟩, rfl, rfl⟩
  simp only [List.mem_cons, List.not_mem_nil, or_false] at hx
  rcases hx with rfl | rfl | rfl | rfl | rfl | rfl | rfl | rfl <;>
    exact ⟨followed_of (by decide +kernel), stagesAgree_of (by decide +kernel), rfl, by decide +kernel⟩

/-- A run with its window stage replaced. -/
def windowed (d : DrillRun) (l : List IncRecord) (held : Option Window) : DrillRun :=
  { d with engine := { d.engine with window := l, heldWindow := held } }

theorem witness_SampleWorkAndIncrements :
    ((runAt 8 0 0).engine.collar = some 412 ∧ (runAt 8 0 0).engine.reference = some 420 ∧
      10 - 1 = (sampleOf 421 1000 1200 800).position - 412 ∧
      (9 < (runAt 8 0 0).result.target ∧ 9 / 10 = (runAt 8 0 0).engine.frontDepth / 10)) ∧
    (8 ≤ (runAt 8 0 0).engine.frontDepth ∧ (sampleOf 0 1000 1200 800).thrust ≤ 1000 ∧
      (sampleOf 0 1000 1200 800).torque ≤ 800 ∧ (sampleOf 0 1000 1200 800).speed ≤ 1200) ∧
    ((runAt 8 0 0).engine.frontDepth < (sampleOf 422 0 0 0).position - 412 ∧
      (sampleOf 422 0 0 0).position - 412 < (runAt 8 0 0).result.target ∧
      (runAt 8 0 0).engine.frontDepth / 10 < ((sampleOf 422 0 0 0).position - 412) / 10) ∧
    ((runAt 1690 169 0).engine.frontDepth < (sampleOf 2112 0 0 0).position - 412 ∧
      (runAt 1690 169 0).result.target ≤ (sampleOf 2112 0 0 0).position - 412) ∧
    ((runAt 20 2 0).engine.openIncrement = 2 ∧ (runAt 20 2 0).engine.openIncrement < 3) ∧
    ({ runAt 20 2 0 with overVoid := true } : DrillRun).overVoid = true ∧
    ((runAt 8 0 0).overVoid = false ∧ (runAt 8 0 0).engine.window.length + 1 < 8 ∧
      ¬ (windowed (runAt 8 0 0) (windowOf (List.replicate 7 .void)) none).engine.window.length + 1 < 8) ∧
    ({ runAt 0 0 0 with engine := Engine.initial } : DrillRun).engine.collar = none := by
  decide +kernel

/-- Boom A at work on a hole, drilling it from another front, with another window and void limit in ONE mode. -/
def drillingAt (s : State) (d : DrillRun) (voidLimit : Nat) : State :=
  { s.setEngine .A d.engine with
    params := { s.params with set0 := { s.params.set0 with voidMode := .one, voidLimit := voidLimit } } }

/-- The run of boom A's hole. -/
def runIn (s : State) (e : Entry) : DrillRun := s.runOf .A e workResult

/-- A run whose next VOID increment fills an open window. -/
def nearVoid : DrillRun := windowed (runAt 8 0 0) (windowOf (List.replicate 7 .void)) none

theorem drillingAt_followed (s : State) (d : DrillRun) (n : Nat) (hs : s = busy .drilling ∨ s = dryIn .drilling) :
    (drillingAt s d n).Followed := by
  have h : s.Followed := by
    rcases hs with rfl | rfl
    · exact (busy_sound _ (by decide)).1
    · exact (dryIn_sound _ (by decide)).1
  exact fun b => ⟨(h b).flow, (h b).lane, (h b).flush, (h b).feed, (h b).turn, (h b).abandon, (h b).spin, (h b).spinRuns,
    (h b).set, (h b).torque, (h b).torqueRuns, fun h1 h2 => by
      rcases hs with rfl | rfl <;> cases b <;> contradiction⟩

theorem witness_WindowsReleased :
    (workResult.LayersAgree ∧ workResult.layers.length < 8) ∧
    ((newResult 1700).layers = [] ∧ bandProfile.layers = bandProfile.layers.dropLast ++ [⟨1100, 600, .hard, false⟩] ∧
      bandedRoof = bandedRoof.dropLast ++ [⟨1040, 40, .medium, false⟩] ∧ 8 ≤ bandedRoof.length ∧
      LayerClass.soft.byte.toNat ≤ LayerClass.medium.byte.toNat) ∧
    (ParamSet.default1.voidMode = .one ∧ ParamSet.default0.voidMode = .two ∧ (runAt 8 0 0).engine.heldWindow = none ∧
      (runAt 8 0 0).overVoid = false ∧
      ∃ d : DrillRun, d.engine.heldWindow = some ⟨windowOf [.void, .void], true⟩) ∧
    ((busy .drilling).NoticesSound ∧ holds12 (busy .drilling) .drilling (holeIn .drilling) = true ∧
      ∃ d : DrillRun, d.voidChanges = [true, false]) ∧
    ((drillingAt (busy .drilling) nearVoid 10).Followed ∧ (drillingAt (busy .drilling) nearVoid 10).unit .A =
        unitIn .drilling ∧
      ((runIn (drillingAt (busy .drilling) nearVoid 10) (holeIn .drilling)).sample
        ((drillingAt (busy .drilling) nearVoid 10).active .A) (sampleOf 422 0 0 0)).2 = .overVoid) ∧
    ((drillingAt (dryIn .drilling) nearVoid 10).Followed ∧
      ((drillingAt (dryIn .drilling) nearVoid 10).unit .A).dry = true ∧
      ((runIn (drillingAt (dryIn .drilling) nearVoid 10) { holeIn .drilling with validity := .held }).sample
        ((drillingAt (dryIn .drilling) nearVoid 10).active .A) (sampleOf 422 0 0 0)).2 = .overVoid) := by
  refine ⟨⟨?_, by decide⟩, by decide, ⟨rfl, rfl, rfl, rfl,
      { runAt 8 0 0 with engine := { Engine.initial with heldWindow := some ⟨windowOf [.void, .void], true⟩ } }, rfl⟩,
    ⟨(busy_sound _ (by decide)).2.2.2.2.2.1, by decide +kernel, { runAt 8 0 0 with voidChanges := [true, false] }, rfl⟩,
    ⟨drillingAt_followed _ _ _ (.inl rfl), by decide +kernel⟩, ⟨drillingAt_followed _ _ _ (.inr rfl), by decide +kernel⟩⟩
  exact profilesAgree_of (s := busy .torquing) (by decide +kernel) 12 (holeIn .bolted) _ (by decide +kernel) rfl

/-- A run at its target, with the profile of the worked hole. -/
def atTarget (competent unreliable : Bool) (extensions lengthClass : Nat) : DrillRun :=
  { runAt 1700 170 0 with
    lengthClass := lengthClass
    result := { workResult with
      layers := if competent then workResult.layers else []
      unreliable := unreliable, extensions := extensions } }

/-- Boom A's hole, 10 mm before its target in rock that is competent, or that is not. -/
def deepHole (competent : Bool) : Entry :=
  { holeIn .drilling with result := some (atTarget competent false 0 2).result }

/-- The part with that hole at work. -/
def beforeTarget (competent : Bool) : State :=
  { drillingAt (busy .drilling) (runAt 1690 169 0) 500 with
    slots := (tableOf [(12, deepHole competent)] (rowOf .opened 1 0 0)).slots }

/-- What the next sample of that hole comes to. -/
def outcomeOf (competent : Bool) (position : Nat) : DrillOutcome :=
  (((beforeTarget competent).runOf .A (deepHole competent) (atTarget competent false 0 2).result).sample
    ((beforeTarget competent).active .A) (sampleOf position 0 0 0)).2

theorem witness_TargetTested :
    (∀ c ∈ [true, false], ∀ u ∈ [true, false], ∀ x ∈ [(0, 3), (1, 3), (0, 4)],
      ((atTarget c u x.1 x.2).flush .default0).overVoid = false ∧
      ((atTarget c u x.1 x.2).flush .default0).result.unreliable = u ∧
      ((atTarget c u x.1 x.2).flush .default0).result.extensions = x.1 ∧
      ((atTarget c u x.1 x.2).flush .default0).lengthClass = x.2 ∧
      (if c then 300 ≤ competentLength ((atTarget c u x.1 x.2).flush .default0).result.layers 1700 600
        else competentLength ((atTarget c u x.1 x.2).flush .default0).result.layers 1700 600 < 300)) ∧
    (∀ l ∈ [[], windowOf [.void], windowOf [.void, .void]], ∀ h ∈ [none, some ⟨windowOf [.void, .void], true⟩],
      (windowed (runAt 1700 170 0) l h).overVoid = false ∧ (windowed (runAt 1700 170 0) l h).engine.window = l ∧
      (windowed (runAt 1700 170 0) l h).engine.heldWindow = h) ∧
    ((windowed (runAt 1700 170 0) (windowOf [.void, .void]) none).flush { ParamSet.default1 with
      voidLimit := 10 }).overVoid = true ∧
    (∀ c ∈ [true, false], (beforeTarget c).Followed ∧ holds12 (beforeTarget c) .drilling (deepHole c) = true ∧
      (deepHole c).result = some (atTarget c false 0 2).result) ∧
    ∀ c ∈ [true, false], outcomeOf c 2103 = .goesOn ∧ outcomeOf c 2112 = if c then .reached else .extended := by
  refine ⟨by decide +kernel, by decide +kernel, by decide +kernel, fun c _ => ⟨fun b => ?_, ?_, rfl⟩, by decide +kernel⟩
  · have h := drillingAt_followed (busy .drilling) (runAt 1690 169 0) 500 (.inl rfl) b
    exact ⟨h.flow, h.lane, h.flush, h.feed, h.turn, h.abandon, h.spin, h.spinRuns, h.set, h.torque, h.torqueRuns, h.runs⟩
  · cases c <;> decide +kernel

theorem witness_SpinAndSetSamples :
    (∀ c ∈ [CycleState.spinning, .setting], (busy c).Followed ∧ holds12 (busy c) c (holeIn .bolted) = true) ∧
    (holeIn .bolted).result = some workResult ∧
    (149999 < ((busy .spinning).active .A).spinRevs * 6000 ∧ ((busy .spinning).active .A).spinRevs * 6000 ≤ 150000) ∧
    0 < ((busy .spinning).active .A).setTime ∧
    (∃ s : State, s.Followed ∧ holds12 s .spinning (holeIn .bolted) = true ∧ (s.active .A).setTime = 0) ∧
    (sampleOf 0 0 20 0).speed ≤ 20 ∧ 20 < (sampleOf 0 0 21 0).speed := by
  refine ⟨fun c hc => ?_, rfl, by decide, by decide,
    ⟨{ busy .spinning with params := { ParamStore.initial with set0 := { ParamSet.default0 with setTime := 0 } } },
      followed_of (by decide +kernel), by decide +kernel, rfl⟩, by decide, by decide⟩
  have : c = .spinning ∨ c = .setting := by simpa using hc
  rcases this with rfl | rfl <;> exact ⟨(busy_sound _ (by decide)).1, by decide +kernel⟩

/-- Boom A torquing with another engine. -/
def torquingWith (g : Engine) : State := (busy .torquing).setEngine .A g

theorem witness_TorqueSamplesJudged :
    (∀ g : Engine, (torquingWith g).Followed ∧ holds12 (torquingWith g) .torquing (holeIn .bolted) = true ∧
      (torquingWith g).engine .A = g ∧ ((torquingWith g).unit .A).holds.present = false) ∧
    (holeIn .bolted).result = some workResult ∧
    ((offStep .torquing).Followed ∧ ((offStep .torquing).unit .A).holds.present = true ∧
      holds12 (offStep .torquing) .torquing (holeIn .bolted) = true) ∧
    (ParamSet.default0.targetTorque ≤ (sampleOf 0 0 0 270).torque ∧
      (sampleOf 0 0 0 269).torque < ParamSet.default0.targetTorque ∧
      ParamSet.default0.maxTorque < (sampleOf 0 0 0 341).torque ∧
      (sampleOf 0 0 0 149).torque < ParamSet.default0.seatTorque ∧
      ParamSet.default0.seatTorque ≤ (sampleOf 0 0 0 150).torque) ∧
    (ParamSet.default0.maxTurn < 12002 * 3 / 5 ∧ 12001 * 3 / 5 ≤ ParamSet.default0.maxTurn) ∧
    ((sampleOf 0 0 0 149).torque * 4 < 200 * 3 ∧ 200 * 3 ≤ (sampleOf 0 0 0 150).torque * 4) := by
  refine ⟨fun g => ⟨?_, ?_, rfl, rfl⟩, rfl, ⟨offStep_followed _ rfl, by decide, by decide +kernel⟩, by decide, by decide,
    by decide⟩
  · have h := (busy_sound .torquing (by decide)).1
    exact fun b => ⟨(h b).flow, (h b).lane, (h b).flush, (h b).feed, (h b).turn, (h b).abandon, (h b).spin,
      (h b).spinRuns, (h b).set, (h b).torque, (h b).torqueRuns, by cases b <;> intro h1 h2 <;> contradiction⟩
  · exact (by decide +kernel : holds12 (busy .torquing) .torquing (holeIn .bolted) = true)

/-- A busy part with a sample lane's expiry at the front of its queue, which the steps below take. -/
def stepping : State := { laneAt 50 (busy .drilling) with pending := [.lossTimerExpiry .A] }

theorem stepping_next : ∃ t, step stepping = .next t := by
  have : (match step stepping with | .next _ => true | _ => false) = true := by decide +kernel
  split at this
  · exact ⟨_, ‹_›⟩
  · cases this

theorem witness_StepKeepsBoomsFollowed :
    (stepping.Followed ∧ ∃ t, step stepping = .next t) ∧
    (∃ t, exec (.collared .A 0) (busy .claimed) = .next t ∧
      (!((busy .claimed).unit .A).feed && (t.unit .A).feed) = true) ∧
    (∃ t, exec (.suspend .C 0) (busy .drilling) = .next t ∧
      (((busy .drilling).unit .A).feed && !(t.unit .A).feed) = true) :=
  ⟨⟨followed_of (by decide +kernel), stepping_next⟩, exists_of_after (by decide +kernel),
    exists_of_after (by decide +kernel)⟩

theorem witness_StepKeepsTableAgreed :
    stepping.RowsAgree ∧ stepping.ClaimsAgree ∧ stepping.ClaimsApart ∧ ∃ t, step stepping = .next t :=
  ⟨rowsAgree_of (by decide +kernel), claimsAgree_of (by decide +kernel), claimsApart_of (by decide +kernel),
    stepping_next⟩

theorem witness_StepKeepsStagesAgreed : stepping.StagesAgree ∧ ∃ t, step stepping = .next t :=
  ⟨stagesAgree_of (by decide +kernel), stepping_next⟩

theorem witness_StepKeepsFigures :
    stepping.ProfilesAgree ∧ stepping.NoticesSound ∧ stepping.ContextsOrdered ∧ stepping.StoreSound ∧
      stepping.CountsBounded ∧ ∃ t, step stepping = .next t :=
  ⟨profilesAgree_of (by decide +kernel), noticesSound_of (by decide +kernel), fun p => by cases p <;> decide,
    storeSound_of rfl,
    ⟨by decide, by decide, fun b => by cases b <;> decide, fun b => by cases b <;> decide,
      fun b => by cases b <;> decide, fun b => by cases b <;> decide, fun b => by cases b <;> decide,
      fun b => by cases b <;> decide, fun b => by cases b <;> decide, fun b x h => by
        cases b <;> cases h
        decide⟩, stepping_next⟩

end Sys2Proof.Tests
end

/-! PROOFS. The commands of the Hole Table. A command runs on the state whose frame has ended, and the statements run
the table's operations on the state before it and end the frame last; so the first part says, once per operation, that
it neither looks at a frame that has ended nor starts one again. -/

namespace Sys2Proof.Machine

/-! ### What the table reads is the same whatever the port's frame -/

@[simp] theorem State.row_setFrame (s : State) (p : Port) (f : Frame) (id : Byte) :
    (s.setFrame p f).row id = s.row id := rfl

@[simp] theorem State.rowIs_setFrame (s : State) (p : Port) (f : Frame) (id : Byte) (x : RowState) :
    (s.setFrame p f).rowIs id x = s.rowIs id x := rfl

@[simp] theorem State.rowSettled_setFrame (s : State) (p : Port) (f : Frame) (id : Byte) :
    (s.setFrame p f).rowSettled id = s.rowSettled id := rfl

@[simp] theorem State.backlogHas_setFrame (s : State) (p : Port) (f : Frame) (id : Byte) :
    (s.setFrame p f).backlogHas id = s.backlogHas id := rfl

@[simp] theorem State.nextFree_setFrame (s : State) (p : Port) (f : Frame) :
    (s.setFrame p f).nextFree = s.nextFree := rfl

@[simp] theorem State.tableFull_setFrame (s : State) (p : Port) (f : Frame) :
    (s.setFrame p f).tableFull = s.tableFull := rfl

@[simp] theorem State.parentsOf_setFrame (s : State) (p : Port) (f : Frame) (row : Byte) :
    (s.setFrame p f).parentsOf row = s.parentsOf row := rfl

/-! ### Updates of the table beside a frame -/

@[simp] theorem State.setEntry_setFrame (s : State) (p : Port) (f : Frame) (i : Slot) (e : Option Entry) :
    (s.setFrame p f).setEntry i e = (s.setEntry i e).setFrame p f := rfl

@[simp] theorem State.setRows_setFrame (s : State) (p : Port) (f : Frame) (r : List RowRecord) :
    (s.setFrame p f).setRows r = (s.setRows r).setFrame p f := rfl

@[simp] theorem State.setBacklog_setFrame (s : State) (p : Port) (f : Frame) (l : List Slot) :
    (s.setFrame p f).setBacklog l = (s.setBacklog l).setFrame p f := rfl

@[simp] theorem State.modRow_setFrame (s : State) (p : Port) (f : Frame) (id : Byte) (g : RowRecord → RowRecord) :
    (s.setFrame p f).modRow id g = (s.modRow id g).setFrame p f := rfl

@[simp] theorem State.modEntry_setFrame (s : State) (p : Port) (f : Frame) (i : Slot) (g : Entry → Entry) :
    (s.setFrame p f).modEntry i g = (s.modEntry i g).setFrame p f := by
  unfold State.modEntry
  rw [State.entry_setFrame]
  split <;> rfl

@[simp] theorem State.foldl_modEntry_setFrame (l : List Slot) (g : Entry → Entry) (s : State) (p : Port) (f : Frame) :
    l.foldl (fun acc i => acc.modEntry i g) (s.setFrame p f) =
      (l.foldl (fun acc i => acc.modEntry i g) s).setFrame p f := by
  induction l generalizing s with
  | nil => rfl
  | cons i rest ih => simp only [List.foldl_cons, State.modEntry_setFrame, ih]

/-! ### Updates of the ports leave an ended frame ended -/

/-- A change of every port that goes past an idle frame goes past the frame that a command ended. -/
theorem State.mapPorts_setFrame_idle {g : PortState → PortState}
    (hg : ∀ q : PortState, g { q with frame := .idle } = { g q with frame := .idle }) (s : State) (p : Port) :
    (s.setFrame p .idle).mapPorts g = (s.mapPorts g).setFrame p .idle := by
  cases p <;> simp [State.setFrame, State.mapPorts, State.setPort, State.port, Triple.set, Triple.map, Triple.get, hg]

@[simp] theorem State.post_setFrame_idle (s : State) (p : Port) (n : NoticePair) :
    (s.setFrame p .idle).post n = (s.post n).setFrame p .idle :=
  State.mapPorts_setFrame_idle (fun _ => rfl) s p

theorem PortState.slotWritten_idle (i : Slot) (q : PortState) :
    ({ q with frame := .idle } : PortState).slotWritten i = { q.slotWritten i with frame := .idle } := by
  unfold PortState.slotWritten
  split <;> rfl

theorem PortState.slotEmptied_idle (i : Slot) (q : PortState) :
    ({ q with frame := .idle } : PortState).slotEmptied i = { q.slotEmptied i with frame := .idle } := rfl

/-! ### The table's operations leave an ended frame ended -/

@[simp] theorem State.closingCheck_setFrame_idle (s : State) (p : Port) (id : Byte) :
    (s.setFrame p .idle).closingCheck id = (s.closingCheck id).setFrame p .idle := by
  unfold State.closingCheck
  simp only [State.row_setFrame, State.rowSettled_setFrame, State.backlogHas_setFrame, State.modRow_setFrame,
    State.post_setFrame_idle]
  split
  · split <;> rfl
  · rfl

@[simp] theorem State.writeSlot_setFrame_idle (s : State) (p : Port) (i : Slot) (e : Entry) :
    (s.setFrame p .idle).writeSlot i e = (s.writeSlot i e).setFrame p .idle := by
  unfold State.writeSlot
  simp only [State.setEntry_setFrame, State.modRow_setFrame,
    State.mapPorts_setFrame_idle (PortState.slotWritten_idle i), State.tableFull_setFrame, State.post_setFrame_idle]
  split <;> rfl

@[simp] theorem State.emptySlot_setFrame_idle (s : State) (p : Port) (i : Slot) :
    (s.setFrame p .idle).emptySlot i = (s.emptySlot i).setFrame p .idle := by
  unfold State.emptySlot
  simp only [State.entry_setFrame, State.setEntry_setFrame, State.modRow_setFrame,
    State.mapPorts_setFrame_idle (PortState.slotEmptied_idle i)]
  split <;> rfl

@[simp] theorem State.writeSupplement_setFrame_idle (s : State) (p : Port) (i : Slot) :
    (s.setFrame p .idle).writeSupplement i = (s.writeSupplement i).setFrame p .idle := by
  unfold State.writeSupplement
  simp only [State.entry_setFrame, State.nextFree_setFrame, State.setFrame_params, State.writeSlot_setFrame_idle]
  split <;> rfl

theorem State.drain_setFrame_idle (n : Nat) (s : State) (p : Port) :
    (s.setFrame p .idle).drain n = (s.drain n).setFrame p .idle := by
  induction n generalizing s with
  | zero => rfl
  | succ n ih =>
    unfold State.drain
    simp only [State.setFrame_backlog, State.tableFull_setFrame, State.entry_setFrame, State.setBacklog_setFrame,
      State.writeSupplement_setFrame_idle, State.closingCheck_setFrame_idle, ih]
    split
    · rfl
    · split
      · rfl
      · split <;> rfl

@[simp] theorem State.drainBacklog_setFrame_idle (s : State) (p : Port) :
    (s.setFrame p .idle).drainBacklog = s.drainBacklog.setFrame p .idle :=
  State.drain_setFrame_idle s.backlog.length s p

/-! ### Taken commands -/

/-- The last-result record written after the frame has ended is the answer. -/
theorem State.setFrame_setLast (t : State) (p : Port) (n : CommandName) (c : Code) (slot : Option Slot) :
    (t.setFrame p .idle).setLast p ⟨some n.code, c, slot⟩ = t.answered p n c slot := by
  simp [State.setFrame, State.setLast, State.answered, State.setPort, State.port]

/-- A command that is taken, and whose run comes to `t` with the frame ended, answers on `t`. -/
theorem State.command_answered {s t : State} {p : Port} {c : Code} {slot : Option Slot} {run : State → Taken}
    (h : s.Takes p) (n : CommandName) (hrun : run (s.setFrame p .idle) = ⟨t.setFrame p .idle, c, slot⟩) :
    s.command p n run = t.answered p n c slot := by
  rw [State.command_taken h, hrun]
  exact State.setFrame_setLast t p n c slot

/-- A command that only Port C issues runs there. -/
@[simp] theorem canopyOnly_portC (s : State) (run : Taken) : canopyOnly .C s run = run := if_pos rfl

/-! ### OPEN ROW -/

theorem exec_openRow (p : Port) (row : Byte) (s : State) : exec (.openRow p row) s = execOpenRow p row s := rfl

theorem State.row_isSome_iff (s : State) (id : Byte) : (s.row id).isSome = true ↔ ∃ r ∈ s.rows, r.id = id := by
  simp [State.row]

theorem State.row_isSome_eq_false_iff (s : State) (id : Byte) :
    (s.row id).isSome = false ↔ ∀ r ∈ s.rows, r.id ≠ id := by
  simp [State.row]

/-- Settles O20: the two checks in their order, and the record that is appended. -/
theorem openRowAppends : Obligations.OpenRowAppends := by
  unfold Obligations.OpenRowAppends
  rintro p row s takes rfl
  unfold Answers
  rw [exec_openRow, execOpenRow]
  refine ⟨fun present => ?_, fun absent full => ?_, fun absent room => ?_⟩
  · refine congrArg _ (State.command_answered takes _ ?_)
    simp [(s.row_isSome_iff row).2 present, refuse]
  · refine congrArg _ (State.command_answered takes _ ?_)
    simp [(s.row_isSome_eq_false_iff row).2 absent, rowTableSize, full, refuse]
  · refine congrArg _ (State.command_answered (t := s.setRows (s.rows ++ [newRow row])) takes _ ?_)
    simp [(s.row_isSome_eq_false_iff row).2 absent, rowTableSize, Nat.not_le.2 room, taken]

/-! ### ERASE -/

theorem exec_erase (p : Port) (slot : Byte) (s : State) : exec (.erase p slot) s = execErase p slot s := rfl

theorem slotOf_eq_none {x : Byte} (h : 47 < x.toNat) : slotOf x = none :=
  dif_neg (by omega)

theorem slotOf_eq_some {x : Byte} {i : Slot} (h : x.toNat = i.val) : slotOf x = some i := by
  unfold slotOf
  rw [dif_pos (by omega)]
  exact congrArg some (Fin.ext h)

/-- A row is in one state at a time. -/
theorem State.rowIs_eq_false_of_ne {s : State} {id : Byte} {x y : RowState} (h : s.rowIs id x = true) (hxy : x ≠ y) :
    s.rowIs id y = false := by
  unfold State.rowIs at h ⊢
  split at h
  · simp_all
  · cases h

/-- Settles O29: the checks in their order, and the erasing run with the frame ended before it or after it. -/
theorem eraseEmptiesSlot : Obligations.EraseEmptiesSlot := by
  unfold Obligations.EraseEmptiesSlot
  intro x s takes
  unfold Answers
  rw [exec_erase, execErase]
  refine ⟨fun above => ?_, fun i hi => ⟨fun empty => ?_, fun e held => ⟨fun frozen => ?_, fun thawed other => ?_,
    fun opened free => ?_⟩⟩⟩
  all_goals refine congrArg _ (State.command_answered takes _ ?_)
  · simp [slotOf_eq_none above, refuse]
  · simp [slotOf_eq_some hi, empty, refuse]
  · simp [slotOf_eq_some hi, held, frozen, refuse]
  · rcases other with notOpened | ⟨notPlanned, notTested⟩
    · simp [slotOf_eq_some hi, held, thawed, notOpened, refuse]
    · simp [slotOf_eq_some hi, held, thawed, notPlanned, notTested, refuse]
  · have thawed : s.rowIs e.row .frozen = false := State.rowIs_eq_false_of_ne opened (by decide)
    simp [slotOf_eq_some hi, held, thawed, opened, free, taken]

/-! ### CANCEL SUPPLEMENTS -/

theorem exec_cancelSupplements (p : Port) (row : Byte) (s : State) :
    exec (.cancelSupplements p row) s = execCancelSupplements p row s := rfl

theorem State.entry_modEntry (s : State) (i j : Slot) (f : Entry → Entry) :
    (s.modEntry i f).entry j = if j = i then (s.entry j).map f else s.entry j := by
  unfold State.modEntry
  cases held : s.entry i with
  | none => by_cases same : j = i <;> simp [same, held]
  | some e => by_cases same : j = i <;> simp [same, held, State.entry_setEntry]

/-- Where making a change twice is making it once, a list of slots is changed at its members, however often it holds
them. -/
theorem State.entry_foldl_modEntry {f : Entry → Entry} (idem : ∀ e, f (f e) = f e) (l : List Slot) (s : State)
    (j : Slot) :
    (l.foldl (fun acc i => acc.modEntry i f) s).entry j = if j ∈ l then (s.entry j).map f else s.entry j := by
  induction l generalizing s with
  | nil => simp
  | cons i rest ih =>
    have twice : f ∘ f = f := funext idem
    rw [List.foldl_cons, ih, State.entry_modEntry]
    by_cases same : j = i <;> by_cases later : j ∈ rest <;> simp [same, later, twice]

theorem State.foldl_modEntry_frame (f : Entry → Entry) (l : List Slot) (s : State) :
    ∃ x, l.foldl (fun acc i => acc.modEntry i f) s = { s with slots := x } := by
  induction l generalizing s with
  | nil => exact ⟨s.slots, rfl⟩
  | cons i rest ih =>
    obtain ⟨x, hx⟩ := State.modEntry_frame s i f
    obtain ⟨y, hy⟩ := ih { s with slots := x }
    exact ⟨y, by rw [List.foldl_cons, hx, hy]⟩

theorem Entry.markLost_markLost (e : Entry) : e.markLost.markLost = e.markLost := by
  unfold Entry.markLost Entry.markResult
  cases e.result <;> rfl

theorem State.mem_parentsOf {s : State} {row : Byte} {i : Slot} :
    i ∈ s.parentsOf row ↔ i ∈ s.backlog ∧ ∃ e, s.entry i = some e ∧ e.row = row := by
  unfold State.parentsOf
  rw [List.mem_filter]
  cases s.entry i <;> simp

theorem State.parentsOf_eq_nil {s : State} {row : Byte}
    (h : ∀ i ∈ s.backlog, ∀ e, s.entry i = some e → e.row ≠ row) : s.parentsOf row = [] := by
  refine List.eq_nil_iff_forall_not_mem.2 fun i hi => ?_
  obtain ⟨waits, e, held, inRow⟩ := State.mem_parentsOf.1 hi
  exact h i waits e held inRow

/-- The state in which the row's parents have left the backlog with their SUPPLEMENT_LOST marks (R22). -/
def State.supplementsDropped (s : State) (row : Byte) : State :=
  (s.parentsOf row).foldl (fun acc i => acc.modEntry i Entry.markLost)
    (s.setBacklog (s.backlog.filter fun i => !((s.parentsOf row).contains i)))

theorem State.supplementsDropped_frame (s : State) (row : Byte) : ∃ x, s.supplementsDropped row =
    { s with slots := x, backlog := s.backlog.filter fun i => !((s.parentsOf row).contains i) } :=
  State.foldl_modEntry_frame _ _ _

theorem State.supplementsDropped_backlog (s : State) (row : Byte) :
    (s.supplementsDropped row).backlog = s.backlog.filter fun i => !((s.parentsOf row).contains i) := by
  obtain ⟨x, hx⟩ := s.supplementsDropped_frame row
  rw [hx]

theorem State.supplementsDropped_entry (s : State) (row : Byte) (i : Slot) :
    (s.supplementsDropped row).entry i =
      (s.entry i).map fun e => if i ∈ s.backlog ∧ e.row = row then e.markLost else e := by
  unfold State.supplementsDropped
  rw [State.entry_foldl_modEntry Entry.markLost_markLost, State.entry_setBacklog]
  cases held : s.entry i with
  | none => simp
  | some e => by_cases lost : i ∈ s.backlog ∧ e.row = row <;> simp [State.mem_parentsOf, held, lost]

/-- CANCEL SUPPLEMENTS of a row that has parents waiting. -/
theorem exec_cancelSupplements_drops {s : State} {row : Byte} {r : RowRecord} (takes : s.Takes .C)
    (present : s.row row = some r) (thawed : r.state ≠ .frozen) (waiting : s.parentsOf row ≠ []) :
    exec (.cancelSupplements .C row) s =
      .next ((((s.supplementsDropped row).post .table).closingCheck row).answered .C .cancelSupplements .done none) := by
  rw [exec_cancelSupplements, execCancelSupplements]
  refine congrArg _ (State.command_answered takes _ ?_)
  unfold State.supplementsDropped
  simp [present, thawed, waiting, taken]

/-- Settles O31: the checks in their order, and the parents of the row dropped from the backlog. -/
theorem supplementsCancelled : Obligations.SupplementsCancelled := by
  unfold Obligations.SupplementsCancelled
  intro row s takes
  refine ⟨fun absent => ?_, fun r present => ⟨fun frozen => ?_, fun thawed noParent => ?_, fun thawed waiting => ?_⟩⟩
  · refine congrArg _ (State.command_answered takes _ ?_)
    simp [absent, refuse]
  · refine congrArg _ (State.command_answered takes _ ?_)
    simp [present, frozen, refuse]
  · refine congrArg _ (State.command_answered takes _ ?_)
    simp [present, thawed, State.parentsOf_eq_nil noParent, taken]
  · obtain ⟨i, waits, e, held, inRow⟩ := waiting
    have lost : s.parentsOf row ≠ [] := List.ne_nil_of_mem (State.mem_parentsOf.2 ⟨waits, e, held, inRow⟩)
    refine ⟨s.supplementsDropped row, exec_cancelSupplements_drops takes present thawed lost, ?_,
      s.supplementsDropped_entry row, ?_⟩
    · rw [State.supplementsDropped_backlog]
      refine List.filter_congr fun j jWaits => ?_
      cases jHeld : s.entry j <;> simp [State.mem_parentsOf, jWaits, jHeld, bne, beq_eq_decide]
    · obtain ⟨x, hx⟩ := s.supplementsDropped_frame row
      rw [hx]

end Sys2Proof.Machine

/-! PROOFS. What an operation may do to the ports, said once for every operation: it records pairs of a given list, and
it may write or empty slots. What the invariants and the statements ask of the ports (pending sets, attention lines,
match contexts, what is kept) follows from that. -/

namespace Sys2Proof.Machine

/-! ### After `post` and `offerChange` -/

@[simp] theorem State.post_slots (s : State) (n : NoticePair) : (s.post n).slots = s.slots := rfl
@[simp] theorem State.post_rows (s : State) (n : NoticePair) : (s.post n).rows = s.rows := rfl
@[simp] theorem State.post_backlog (s : State) (n : NoticePair) : (s.post n).backlog = s.backlog := rfl
@[simp] theorem State.post_protection (s : State) (n : NoticePair) : (s.post n).protection = s.protection := rfl
@[simp] theorem State.post_units (s : State) (n : NoticePair) : (s.post n).units = s.units := rfl
@[simp] theorem State.post_lanes (s : State) (n : NoticePair) : (s.post n).lanes = s.lanes := rfl
@[simp] theorem State.post_engines (s : State) (n : NoticePair) : (s.post n).engines = s.engines := rfl
@[simp] theorem State.post_loader (s : State) (n : NoticePair) : (s.post n).loader = s.loader := rfl
@[simp] theorem State.post_arbiter (s : State) (n : NoticePair) : (s.post n).arbiter = s.arbiter := rfl
@[simp] theorem State.post_params (s : State) (n : NoticePair) : (s.post n).params = s.params := rfl
@[simp] theorem State.post_guardPin (s : State) (n : NoticePair) : (s.post n).guardPin = s.guardPin := rfl
@[simp] theorem State.post_supplyUp (s : State) (n : NoticePair) : (s.post n).supplyUp = s.supplyUp := rfl
@[simp] theorem State.post_resetLow (s : State) (n : NoticePair) : (s.post n).resetLow = s.resetLow := rfl
@[simp] theorem State.post_readCount (s : State) (n : NoticePair) : (s.post n).readCount = s.readCount := rfl
@[simp] theorem State.post_tickCount (s : State) (n : NoticePair) : (s.post n).tickCount = s.tickCount := rfl
@[simp] theorem State.post_pending (s : State) (n : NoticePair) : (s.post n).pending = s.pending := rfl
@[simp] theorem State.unit_post (s : State) (n : NoticePair) (c : Boom) :
    (s.post n).unit c = s.unit c := rfl
@[simp] theorem State.lane_post (s : State) (n : NoticePair) (c : Boom) :
    (s.post n).lane c = s.lane c := rfl
@[simp] theorem State.engine_post (s : State) (n : NoticePair) (c : Boom) :
    (s.post n).engine c = s.engine c := rfl
@[simp] theorem State.entry_post (s : State) (n : NoticePair) (j : Slot) :
    (s.post n).entry j = s.entry j := rfl

/-- An offered change is a change of every port. -/
theorem State.offerChange_eq_mapPorts (s : State) (n : NoticePair) (x y : Bool) :
    s.offerChange n x y = s.mapPorts fun q =>
      if x = y then q else if y || q.edges.mode n == .any then q.record s.resetLow n else q := by
  unfold State.offerChange
  split <;> rfl

@[simp] theorem State.offerChange_slots (s : State) (n : NoticePair) (x y : Bool) :
    (s.offerChange n x y).slots = s.slots := by
  rw [State.offerChange_eq_mapPorts]; rfl
@[simp] theorem State.offerChange_rows (s : State) (n : NoticePair) (x y : Bool) :
    (s.offerChange n x y).rows = s.rows := by
  rw [State.offerChange_eq_mapPorts]; rfl
@[simp] theorem State.offerChange_backlog (s : State) (n : NoticePair) (x y : Bool) :
    (s.offerChange n x y).backlog = s.backlog := by
  rw [State.offerChange_eq_mapPorts]; rfl
@[simp] theorem State.offerChange_protection (s : State) (n : NoticePair) (x y : Bool) :
    (s.offerChange n x y).protection = s.protection := by
  rw [State.offerChange_eq_mapPorts]; rfl
@[simp] theorem State.offerChange_units (s : State) (n : NoticePair) (x y : Bool) :
    (s.offerChange n x y).units = s.units := by
  rw [State.offerChange_eq_mapPorts]; rfl
@[simp] theorem State.offerChange_lanes (s : State) (n : NoticePair) (x y : Bool) :
    (s.offerChange n x y).lanes = s.lanes := by
  rw [State.offerChange_eq_mapPorts]; rfl
@[simp] theorem State.offerChange_engines (s : State) (n : NoticePair) (x y : Bool) :
    (s.offerChange n x y).engines = s.engines := by
  rw [State.offerChange_eq_mapPorts]; rfl
@[simp] theorem State.offerChange_loader (s : State) (n : NoticePair) (x y : Bool) :
    (s.offerChange n x y).loader = s.loader := by
  rw [State.offerChange_eq_mapPorts]; rfl
@[simp] theorem State.offerChange_arbiter (s : State) (n : NoticePair) (x y : Bool) :
    (s.offerChange n x y).arbiter = s.arbiter := by
  rw [State.offerChange_eq_mapPorts]; rfl
@[simp] theorem State.offerChange_params (s : State) (n : NoticePair) (x y : Bool) :
    (s.offerChange n x y).params = s.params := by
  rw [State.offerChange_eq_mapPorts]; rfl
@[simp] theorem State.offerChange_guardPin (s : State) (n : NoticePair) (x y : Bool) :
    (s.offerChange n x y).guardPin = s.guardPin := by
  rw [State.offerChange_eq_mapPorts]; rfl
@[simp] theorem State.offerChange_supplyUp (s : State) (n : NoticePair) (x y : Bool) :
    (s.offerChange n x y).supplyUp = s.supplyUp := by
  rw [State.offerChange_eq_mapPorts]; rfl
@[simp] theorem State.offerChange_resetLow (s : State) (n : NoticePair) (x y : Bool) :
    (s.offerChange n x y).resetLow = s.resetLow := by
  rw [State.offerChange_eq_mapPorts]; rfl
@[simp] theorem State.offerChange_readCount (s : State) (n : NoticePair) (x y : Bool) :
    (s.offerChange n x y).readCount = s.readCount := by
  rw [State.offerChange_eq_mapPorts]; rfl
@[simp] theorem State.offerChange_tickCount (s : State) (n : NoticePair) (x y : Bool) :
    (s.offerChange n x y).tickCount = s.tickCount := by
  rw [State.offerChange_eq_mapPorts]; rfl
@[simp] theorem State.offerChange_pending (s : State) (n : NoticePair) (x y : Bool) :
    (s.offerChange n x y).pending = s.pending := by
  rw [State.offerChange_eq_mapPorts]; rfl
@[simp] theorem State.unit_offerChange (s : State) (n : NoticePair) (x y : Bool) (c : Boom) :
    (s.offerChange n x y).unit c = s.unit c := by
  rw [State.offerChange_eq_mapPorts]; rfl
@[simp] theorem State.lane_offerChange (s : State) (n : NoticePair) (x y : Bool) (c : Boom) :
    (s.offerChange n x y).lane c = s.lane c := by
  rw [State.offerChange_eq_mapPorts]; rfl
@[simp] theorem State.engine_offerChange (s : State) (n : NoticePair) (x y : Bool) (c : Boom) :
    (s.offerChange n x y).engine c = s.engine c := by
  rw [State.offerChange_eq_mapPorts]; rfl
@[simp] theorem State.entry_offerChange (s : State) (n : NoticePair) (x y : Bool) (j : Slot) :
    (s.offerChange n x y).entry j = s.entry j := by
  rw [State.offerChange_eq_mapPorts]; rfl

@[simp] theorem State.feedLine_offerChange (s : State) (n : NoticePair) (x y : Bool) (b : Boom) :
    (s.offerChange n x y).feedLine b = s.feedLine b := by
  simp [State.feedLine]

@[simp] theorem State.laneInStep_offerChange (s : State) (n : NoticePair) (x y : Bool) (b : Boom) :
    (s.offerChange n x y).laneInStep b = s.laneInStep b := by
  simp [State.laneInStep]

@[simp] theorem State.loaderStatus_offerChange (s : State) (n : NoticePair) (x y : Bool) :
    (s.offerChange n x y).loaderStatus = s.loaderStatus := by
  simp [State.loaderStatus]

@[simp] theorem State.magazineLow_offerChange (s : State) (n : NoticePair) (x y : Bool) :
    (s.offerChange n x y).magazineLow = s.magazineLow := by
  simp [State.magazineLow]

/-- The offers of an action compare the statuses of the same two states throughout. -/
theorem State.offersSince_eq (s u : State) : s.offersSince u =
    (((((s.offerChange (.permit .A) (u.feedLine .A) (s.feedLine .A)).offerChange (.permit .B) (u.feedLine .B)
      (s.feedLine .B)).offerChange (.lane .A) (u.laneInStep .A) (s.laneInStep .A)).offerChange (.lane .B)
      (u.laneInStep .B) (s.laneInStep .B)).offerChange .loader u.loaderStatus s.loaderStatus).offerChange .magazineLow
      u.magazineLow s.magazineLow := by
  simp [State.offersSince]

/-! ### Moves of a port -/

/-- What an operation may do to the ports: the pairs that it may record, and whether it may write or empty slots. -/
structure PortRights where
  notices : List NoticePair
  writes : Bool
  empties : Bool

/-- One change of a port by an operation with these rights. -/
inductive PortMove (R : PortRights) (resetLow : Bool) : PortState → PortState → Prop
  | record (q : PortState) (n : NoticePair) : n ∈ R.notices → PortMove R resetLow q (q.record resetLow n)
  | written (q : PortState) (i : Slot) : R.writes = true → PortMove R resetLow q (q.slotWritten i)
  | emptied (q : PortState) (i : Slot) : R.empties = true → PortMove R resetLow q (q.slotEmptied i)

/-- Every port comes from `s` to `t` by moves of these rights; RESET_N keeps its level. -/
def State.PortsMove (R : PortRights) (s t : State) : Prop :=
  t.resetLow = s.resetLow ∧ ∀ p, Relation.ReflTransGen (PortMove R s.resetLow) (s.port p) (t.port p)

theorem State.PortsMove.refl (R : PortRights) (s : State) : s.PortsMove R s := ⟨rfl, fun _ => .refl⟩

theorem State.PortsMove.of_ports {R : PortRights} {s t : State} (h : t.ports = s.ports) (hr : t.resetLow = s.resetLow) :
    s.PortsMove R t :=
  ⟨hr, fun p => by rw [show t.port p = s.port p from congrArg (Triple.get · p) h]⟩

theorem State.PortsMove.trans {R : PortRights} {s t u : State} (h : s.PortsMove R t) (k : t.PortsMove R u) :
    s.PortsMove R u := by
  obtain ⟨hr, hp⟩ := h
  obtain ⟨kr, kp⟩ := k
  rw [hr] at kr kp
  exact ⟨kr, fun p => (hp p).trans (kp p)⟩

/-- An operation that every port of the part takes by one move, or not at all. -/
theorem State.PortsMove.map {R : PortRights} {s : State} {f : PortState → PortState}
    (h : ∀ q, Relation.ReflTransGen (PortMove R s.resetLow) q (f q)) : s.PortsMove R (s.mapPorts f) :=
  ⟨rfl, fun p => by rw [State.port_mapPorts]; exact h _⟩

section
variable {R : PortRights}

theorem State.PortsMove.post {n : NoticePair} (h : n ∈ R.notices) (s : State) : s.PortsMove R (s.post n) :=
  .map fun q => .single (.record q n h)

theorem State.PortsMove.offer {n : NoticePair} (h : n ∈ R.notices) (s : State) (x : Bool) :
    s.PortsMove R (s.offer n x) := by
  refine .map fun q => ?_
  split
  · exact .single (.record q n h)
  · exact .refl

/-- An offer needs the right to its pair only where the status changes. -/
theorem State.PortsMove.offerChange {n : NoticePair} {x y : Bool} (h : x ≠ y → n ∈ R.notices) (s : State) :
    s.PortsMove R (s.offerChange n x y) := by
  unfold State.offerChange
  split
  · exact .refl R s
  · rename_i changed
    exact .offer (h changed) s y

/-- The offers of an action need the rights to the pairs whose statuses it has changed. -/
theorem State.PortsMove.offersSince {s u : State}
    (permit : ∀ b, u.feedLine b ≠ s.feedLine b → .permit b ∈ R.notices)
    (lane : ∀ b, u.laneInStep b ≠ s.laneInStep b → .lane b ∈ R.notices)
    (loader : u.loaderStatus ≠ s.loaderStatus → .loader ∈ R.notices)
    (low : u.magazineLow ≠ s.magazineLow → .magazineLow ∈ R.notices) : s.PortsMove R (s.offersSince u) := by
  rw [State.offersSince_eq]
  exact ((((((PortsMove.refl R s).trans (.offerChange (permit .A) _)).trans (.offerChange (permit .B) _)).trans
    (.offerChange (lane .A) _)).trans (.offerChange (lane .B) _)).trans (.offerChange loader _)).trans
    (.offerChange low _)

end
end Sys2Proof.Machine

namespace Sys2Proof.Machine

/-! ### What moves of the ports keep -/

/-- The pair at a place in the order of a reply; kinds 9 to 12 have one place for two numbers (R166, R170). -/
def NoticePair.atRank (k : Nat) : NoticePair :=
  [.stage .A, .stage .B, .permit .A, .permit .B, .flow .A, .flow .B, .extend .A, .extend .B, .void .A, .void .B,
    .verdict .A, .verdict .B, .lane .A, .lane .B, .report .A, .report .B, .countOver .A, .countOver .B, .loader,
    .loader, .magazineLow, .magazineLow, .row, .row].getD k .table

/-- A pair is told by its place in the order of a reply. -/
theorem NoticePair.rank_injective : Function.Injective NoticePair.rank := by
  have back : Function.LeftInverse NoticePair.atRank NoticePair.rank := by
    rintro (b | b | b | b | b | b | b | b | b | _ | _ | _ | _)
    iterate 9 cases b <;> rfl
    all_goals rfl
  exact back.injective

/-- A pair recorded in a set that is in reply order keeps it in reply order. -/
theorem insertPair_sorted (n : NoticePair) {l : List NoticePair} (h : (l.map NoticePair.rank).Pairwise (· < ·)) :
    ((insertPair n l).map NoticePair.rank).Pairwise (· < ·) := by
  induction l with
  | nil => simp [insertPair]
  | cons m rest ih =>
    rw [List.map_cons] at h
    obtain ⟨first, sorted⟩ := List.pairwise_cons.1 h
    unfold insertPair
    split
    · exact h
    · rename_i other
      split
      · rename_i below
        refine List.pairwise_cons.2 ⟨fun x hx => ?_, h⟩
        rcases List.mem_cons.1 hx with rfl | later
        · exact below
        · exact below.trans (first x later)
      · rename_i notBelow
        have above : m.rank < n.rank := lt_of_le_of_ne (Nat.not_lt.1 notBelow) fun same =>
          other (NoticePair.rank_injective same).symm
        refine List.pairwise_cons.2 ⟨fun x hx => ?_, ih sorted⟩
        obtain ⟨k, hk, rfl⟩ := List.mem_map.1 hx
        rcases (mem_insertPair n k rest).1 hk with rfl | later
        · exact above
        · exact first _ (List.mem_map_of_mem later)

/-- The pending set and the attention line of a port are in order (R168, R169). -/
def PortState.NoticesInOrder (resetLow : Bool) (q : PortState) : Prop :=
  (q.pending.map NoticePair.rank).Pairwise (· < ·) ∧
    (q.atn = true ↔ resetLow = false ∧ ∃ n ∈ q.pending, q.masks.getLsbD n.kind = false)

theorem State.noticesSound_iff (s : State) : s.NoticesSound ↔ ∀ p, (s.port p).NoticesInOrder s.resetLow :=
  ⟨fun h p => ⟨(h p).sorted, (h p).atn⟩, fun h p => ⟨(h p).1, (h p).2⟩⟩

/-- An attention line that is worked out again is in order. -/
theorem PortState.withAtn_atn_iff (resetLow : Bool) (q : PortState) :
    (q.withAtn resetLow).atn = true ↔ resetLow = false ∧ ∃ n ∈ q.pending, q.masks.getLsbD n.kind = false := by
  simp [PortState.withAtn, PortState.unmaskedPending]

/-- The members of a match context are in ascending order, and the best match is one of them. -/
def MatchContext.Ordered (c : MatchContext) : Prop :=
  c.members.Pairwise (· < ·) ∧ ∀ i, c.best = some i → i ∈ c.members

theorem MatchContext.Ordered.drop {c : MatchContext} (h : c.Ordered) (i : Slot) : (c.drop i).Ordered := by
  obtain ⟨sorted, best⟩ := h
  refine ⟨sorted.filter _, fun j hj => ?_⟩
  simp only [MatchContext.drop] at hj ⊢
  split at hj
  · cases hj
  · rename_i other
    refine List.mem_filter.2 ⟨best j hj, ?_⟩
    simp only [bne_iff_ne, ne_eq]
    rintro rfl
    exact other hj

section
variable {R : PortRights} {x : Bool} {q q' : PortState}

theorem PortMove.edges (h : PortMove R x q q') : q'.edges = q.edges := by
  cases h with
  | record => rfl
  | written i => unfold PortState.slotWritten; split <;> rfl
  | emptied => rfl

theorem PortMove.masks (h : PortMove R x q q') : q'.masks = q.masks := by
  cases h with
  | record => rfl
  | written i => unfold PortState.slotWritten; split <;> rfl
  | emptied => rfl

theorem PortMove.last (h : PortMove R x q q') : q'.last = q.last := by
  cases h with
  | record => rfl
  | written i => unfold PortState.slotWritten; split <;> rfl
  | emptied => rfl

theorem PortMove.frame_idle (h : PortMove R x q q') (k : q.frame = .idle) : q'.frame = .idle := by
  cases h with
  | record n => simp [PortState.record, PortState.withAtn, k, Frame.repost]
  | written i => unfold PortState.slotWritten; split <;> exact k
  | emptied i => simp [PortState.slotEmptied, k, Frame.slotEmptied]

theorem PortMove.pending (h : PortMove R x q q') :
    (∀ n ∈ q.pending, n ∈ q'.pending) ∧ ∀ n ∈ q'.pending, n ∈ q.pending ∨ n ∈ R.notices := by
  have stays : ∀ p : PortState, p.pending = q.pending →
      (∀ n ∈ q.pending, n ∈ p.pending) ∧ ∀ n ∈ p.pending, n ∈ q.pending ∨ n ∈ R.notices := fun p hp => by
    rw [hp]
    exact ⟨fun _ h => h, fun _ h => .inl h⟩
  cases h with
  | record n hn =>
    simp only [PortState.record_pending, mem_insertPair]
    exact ⟨fun m hm => .inr hm, fun m hm => hm.elim (fun e => .inr (e ▸ hn)) .inl⟩
  | written i => exact stays _ (by unfold PortState.slotWritten; split <;> rfl)
  | emptied i => exact stays _ rfl

theorem PortMove.cursor (h : PortMove R x q q') (k : R.empties = false) : q'.cursor = q.cursor := by
  cases h with
  | record => rfl
  | written i => unfold PortState.slotWritten; split <;> rfl
  | emptied i e => rw [k] at e; cases e

theorem PortMove.scope (h : PortMove R x q q') : q'.context.scope = q.context.scope := by
  cases h with
  | record => rfl
  | written i => unfold PortState.slotWritten; split <;> rfl
  | emptied i => unfold PortState.slotEmptied; dsimp only; split <;> rfl

theorem PortMove.context (h : PortMove R x q q') (k : R.empties = false)
    (w : R.writes = false ∨ q.context.scope ≠ .empty) : q'.context = q.context := by
  cases h with
  | record => rfl
  | written i e =>
    unfold PortState.slotWritten
    rcases w with w | w
    · rw [w] at e; cases e
    · rw [if_neg w]
  | emptied i e => rw [k] at e; cases e

theorem PortMove.ordered (h : PortMove R x q q') (k : q.context.Ordered) : q'.context.Ordered := by
  cases h with
  | record => exact k
  | written i =>
    unfold PortState.slotWritten
    split
    · exact k.drop i
    · exact k
  | emptied i =>
    unfold PortState.slotEmptied
    dsimp only
    split
    · exact k
    · exact k.drop i

theorem PortMove.noticesInOrder (h : PortMove R x q q') (k : q.NoticesInOrder x) : q'.NoticesInOrder x := by
  cases h with
  | record n => exact ⟨insertPair_sorted n k.1, PortState.withAtn_atn_iff x _⟩
  | written i => unfold PortState.slotWritten; split <;> exact k
  | emptied i => exact k

/-- What one move keeps, moves keep. -/
theorem PortMove.keeps {P : PortState → Prop} (step : ∀ q q', PortMove R x q q' → P q → P q')
    (h : Relation.ReflTransGen (PortMove R x) q q') (k : P q) : P q' := by
  induction h with
  | refl => exact k
  | tail _ m ih => exact step _ _ m ih

end

section
variable {R : PortRights} {s t : State}

theorem State.PortsMove.edges (h : s.PortsMove R t) (p : Port) : (t.port p).edges = (s.port p).edges :=
  PortMove.keeps (P := fun q => q.edges = (s.port p).edges) (fun _ _ m k => m.edges.trans k) (h.2 p) rfl

theorem State.PortsMove.masks (h : s.PortsMove R t) (p : Port) : (t.port p).masks = (s.port p).masks :=
  PortMove.keeps (P := fun q => q.masks = (s.port p).masks) (fun _ _ m k => m.masks.trans k) (h.2 p) rfl

theorem State.PortsMove.last (h : s.PortsMove R t) (p : Port) : (t.port p).last = (s.port p).last :=
  PortMove.keeps (P := fun q => q.last = (s.port p).last) (fun _ _ m k => m.last.trans k) (h.2 p) rfl

theorem State.PortsMove.frame_idle (h : s.PortsMove R t) {p : Port} (k : (s.port p).frame = .idle) :
    (t.port p).frame = .idle :=
  PortMove.keeps (P := fun q => q.frame = .idle) (fun _ _ m k => m.frame_idle k) (h.2 p) k

theorem State.PortsMove.cursor (h : s.PortsMove R t) (e : R.empties = false) (p : Port) :
    (t.port p).cursor = (s.port p).cursor :=
  PortMove.keeps (P := fun q => q.cursor = (s.port p).cursor) (fun _ _ m k => (m.cursor e).trans k) (h.2 p) rfl

theorem State.PortsMove.scope (h : s.PortsMove R t) (p : Port) :
    (t.port p).context.scope = (s.port p).context.scope :=
  PortMove.keeps (P := fun q => q.context.scope = (s.port p).context.scope) (fun _ _ m k => m.scope.trans k)
    (h.2 p) rfl

theorem State.PortsMove.context (h : s.PortsMove R t) (e : R.empties = false) {p : Port}
    (w : R.writes = false ∨ (s.port p).context.scope ≠ .empty) : (t.port p).context = (s.port p).context :=
  PortMove.keeps (P := fun q => q.context = (s.port p).context)
    (fun _ _ m k => (m.context e (w.imp_right fun n => by rwa [k])).trans k) (h.2 p) rfl

/-- No pending pair is lost. -/
theorem State.PortsMove.pending (h : s.PortsMove R t) {p : Port} {n : NoticePair} (k : n ∈ (s.port p).pending) :
    n ∈ (t.port p).pending :=
  PortMove.keeps (P := fun q => n ∈ q.pending) (fun _ _ m k => m.pending.1 n k) (h.2 p) k

theorem State.PortsMove.posted (h : s.PortsMove R t) {n : NoticePair} (k : s.Posted n) : t.Posted n :=
  fun q => h.pending (k q)

theorem State.PortsMove.within (h : s.PortsMove R t) : s.NoticesWithin t R.notices :=
  fun p => ⟨fun _ k => h.pending k, PortMove.keeps
    (P := fun q => ∀ n ∈ q.pending, n ∈ (s.port p).pending ∨ n ∈ R.notices)
    (fun _ _ m k n hn => (m.pending.2 n hn).elim (k n) .inr) (h.2 p) fun _ k => .inl k⟩

theorem State.PortsMove.beside (h : s.PortsMove R t) (e : R.empties = false) : s.PortsBeside t :=
  fun p => ⟨h.masks p, h.edges p, h.cursor e p, h.last p, fun w => h.context e (.inr w)⟩

theorem State.PortsMove.kept (h : s.PortsMove R t) (e : R.empties = false) (w : R.writes = false) :
    s.PortsKept t none :=
  fun p => ⟨h.masks p, h.edges p, h.context e (.inl w), h.cursor e p, fun _ => h.last p⟩

theorem State.PortsMove.noticesSound (h : s.PortsMove R t) (k : s.NoticesSound) : t.NoticesSound := by
  rw [State.noticesSound_iff] at k ⊢
  intro p
  rw [h.1]
  exact PortMove.keeps (fun _ _ m => m.noticesInOrder) (h.2 p) (k p)

theorem State.PortsMove.contextsOrdered (h : s.PortsMove R t) (k : s.ContextsOrdered) : t.ContextsOrdered :=
  fun p => PortMove.keeps (P := fun q => q.context.Ordered) (fun _ _ m => m.ordered) (h.2 p) (k p)

end

/-- A posted pair is pending at every port. -/
theorem State.post_posted (s : State) (n : NoticePair) : (s.post n).Posted n := fun p => by
  rw [State.port_post, PortState.record_pending, mem_insertPair]
  exact .inl rfl

end Sys2Proof.Machine

namespace Sys2Proof.Machine

/-! ### The moves of each operation -/

/-- A change of the blocks beside the ports is no move of a port. -/
theorem State.PortsMove.blocks {R : PortRights} {s t u : State} (h : s.PortsMove R t)
    (hp : u.ports = t.ports) (hr : u.resetLow = t.resetLow) : s.PortsMove R u :=
  h.trans (.of_ports hp hr)

theorem State.PortsMove.fold {R : PortRights} {α : Type} {f : State → α → State}
    (h : ∀ (s : State) x, s.PortsMove R (f s x))
    (l : List α) (s : State) : s.PortsMove R (l.foldl f s) := by
  induction l generalizing s with
  | nil => exact .refl R s
  | cons x rest ih => exact (h s x).trans (ih _)

section
variable {R : PortRights}

namespace State.PortsMove

/-! #### Flow -/

theorem giveFlow {r : FlowRequest} (h : .flow r.boom ∈ R.notices) (s : State) (x : Nat) :
    s.PortsMove R (s.giveFlow r x) :=
  .trans ((PortsMove.refl R _).blocks (by rfl) (by rfl)) (.post h _)

theorem judgeRequest {r : FlowRequest} (own : .flow r.boom ∈ R.notices)
    (other : r.stage ≠ .drilling → .flow r.boom.other ∈ R.notices) {s t : State} (h : s.judgeRequest r = some t) :
    s.PortsMove R t := by
  unfold State.judgeRequest at h
  simp only [] at h
  split at h
  · cases h
    exact .giveFlow own s _
  · split at h
    · cases h
      exact .giveFlow own s _
    · split at h
      · rename_i g hg
        cases h
        have cuts : r.stage ≠ .drilling := by
          unfold Arbiter.cuttable at hg
          split at hg
          · split at hg
            · rename_i k
              exact k.1
            · cases hg
          · cases hg
        exact ((PortsMove.refl R _).blocks (by rfl) (by rfl)).trans ((PortsMove.post (other cuts) _).trans (.giveFlow own _ _))
      · cases h

theorem requestFlow {r : FlowRequest} (own : .flow r.boom ∈ R.notices)
    (other : r.stage ≠ .drilling → .flow r.boom.other ∈ R.notices) (s : State) : s.PortsMove R (s.requestFlow r) := by
  unfold State.requestFlow
  simp only []
  split
  · split
    · rename_i t h
      exact .judgeRequest own other h
    · exact (PortsMove.refl R s).blocks (by rfl) (by rfl)
  · exact (PortsMove.refl R s).blocks (by rfl) (by rfl)

section
variable (flow : ∀ b, NoticePair.flow b ∈ R.notices)
include flow

theorem serveFlowQueue (n : Nat) (s : State) : s.PortsMove R (s.serveFlowQueue n) := by
  induction n generalizing s with
  | zero => exact .refl R s
  | succ n ih =>
    unfold State.serveFlowQueue
    split
    · exact .refl R s
    · split
      · rename_i t h
        exact (PortsMove.blocks (.judgeRequest (flow _) (fun _ => flow _) h) (by rfl) (by rfl)).trans (ih _)
      · exact .refl R s

theorem topUp (s : State) (b : Boom) : s.PortsMove R (s.topUp b) := by
  unfold State.topUp
  split
  · simp only []
    split
    · exact ((PortsMove.refl R _).blocks (by rfl) (by rfl)).trans (.post (flow b) _)
    · exact .refl R s
  · exact .refl R s

theorem cutDown (s : State) (b : Boom) : s.PortsMove R (s.cutDown b) := by
  unfold State.cutDown
  split
  · simp only []
    split
    · exact ((PortsMove.refl R _).blocks (by rfl) (by rfl)).trans (.post (flow b) _)
    · exact .refl R s
  · exact .refl R s

theorem servicePass (s : State) : s.PortsMove R s.servicePass :=
  ((PortsMove.serveFlowQueue flow _ s).trans (.fold (.topUp flow) _ _)).trans (.fold (.cutDown flow) _ _)

theorem releaseFlow (s : State) (b : Boom) : s.PortsMove R (s.releaseFlow b) := by
  unfold State.releaseFlow
  split
  · exact (((PortsMove.refl R _).blocks (by rfl) (by rfl)).trans (.post (flow b) _)).trans (.servicePass flow _)
  · split
    · exact .trans ((PortsMove.refl R _).blocks (by rfl) (by rfl)) (.servicePass flow _)
    · exact .refl R s

end

/-! #### Cycle states and the loader -/

theorem setCycle {b : Boom} (h : .stage b ∈ R.notices) (s : State) (c : CycleState) : s.PortsMove R (s.setCycle b c) :=
  .trans ((PortsMove.refl R _).blocks (by rfl) (by rfl)) (.post h _)

theorem grantLoader {b : Boom} (h : .stage b ∈ R.notices) (s : State) : s.PortsMove R (s.grantLoader b) :=
  .trans ((PortsMove.refl R _).blocks (by rfl) (by rfl)) (.setCycle h _ _)

theorem requestLoader {b : Boom} (h : .stage b ∈ R.notices) (s : State) : s.PortsMove R (s.requestLoader b) := by
  unfold State.requestLoader
  split
  · exact .grantLoader h s
  · exact (PortsMove.refl R s).blocks (by rfl) (by rfl)

theorem serveLoader (stage : ∀ b, NoticePair.stage b ∈ R.notices) (s : State) : s.PortsMove R s.serveLoader := by
  unfold State.serveLoader
  split
  · exact (PortsMove.refl R s).blocks (by rfl) (by rfl)
  · exact .trans ((PortsMove.refl R _).blocks (by rfl) (by rfl)) (.grantLoader (stage _) _)

theorem cancelLoader (stage : ∀ b, NoticePair.stage b ∈ R.notices) (s : State) (b : Boom) :
    s.PortsMove R (s.cancelLoader b) := by
  unfold State.cancelLoader
  simp only []
  split
  · split
    · exact (PortsMove.refl R s).blocks (by rfl) (by rfl)
    · exact (PortsMove.refl R s).blocks (by rfl) (by rfl)
    · exact .trans ((PortsMove.refl R _).blocks (by rfl) (by rfl)) (.serveLoader stage _)
  · exact (PortsMove.refl R s).blocks (by rfl) (by rfl)

/-! #### The Hole Table -/

theorem closingCheck (h : .row ∈ R.notices) (s : State) (id : Byte) : s.PortsMove R (s.closingCheck id) := by
  obtain ⟨_, _, _, _, _, _, e⟩ | e := State.closingCheck_cases s id
  · rw [e]
    exact .trans ((PortsMove.refl R _).blocks (by rfl) (by rfl)) (.post h _)
  · rw [e]
    exact .refl R s

theorem returnEntry (h : .row ∈ R.notices) (s : State) (i : Slot) : s.PortsMove R (s.returnEntry i) := by
  unfold State.returnEntry
  split
  · exact .trans ((PortsMove.refl R _).blocks (by rfl) (by rfl)) (.closingCheck h _ _)
  · exact .refl R s

theorem modEntry (s : State) (i : Slot) (f : Entry → Entry) : s.PortsMove R (s.modEntry i f) := by
  unfold State.modEntry
  split
  · exact (PortsMove.refl R s).blocks (by rfl) (by rfl)
  · exact .refl R s

theorem updateClaimed (s : State) (b : Boom) (f : Entry → Entry) : s.PortsMove R (s.updateClaimed b f) := by
  unfold State.updateClaimed
  split
  · exact (PortsMove.refl R s).blocks (by rfl) (by rfl)
  · exact .refl R s

theorem updateResult (s : State) (b : Boom) (f : Result → Result) : s.PortsMove R (s.updateResult b f) :=
  .updateClaimed s b _

theorem writeDrilledDepth (s : State) (b : Boom) : s.PortsMove R (s.writeDrilledDepth b) := .updateResult s b _

theorem emptySlot (h : R.empties = true) (s : State) (i : Slot) : s.PortsMove R (s.emptySlot i) := by
  unfold State.emptySlot
  split
  · exact .trans ((PortsMove.refl R _).blocks (by rfl) (by rfl)) (.map fun q => .single (.emptied q i h))
  · exact .refl R s

section
variable (table : NoticePair.table ∈ R.notices) (writes : R.writes = true)
include table writes

theorem writeSlot (s : State) (i : Slot) (e : Entry) : s.PortsMove R (s.writeSlot i e) := by
  have written : s.PortsMove R (((s.setEntry i (some e)).modRow e.row fun r =>
      { r with entries := r.entries + 1 }).mapPorts (PortState.slotWritten i)) :=
    .trans ((PortsMove.refl R _).blocks (by rfl) (by rfl)) (.map fun q => .single (.written q i writes))
  unfold State.writeSlot
  simp only []
  split
  · exact written.trans (.post table _)
  · exact written

theorem writeSupplement (s : State) (i : Slot) : s.PortsMove R (s.writeSupplement i) := by
  unfold State.writeSupplement
  split
  · exact .writeSlot table writes s _ _
  · exact .refl R s

theorem handleSupplement (s : State) (i : Slot) : s.PortsMove R (s.handleSupplement i) := by
  unfold State.handleSupplement
  split
  · split
    · exact .trans (.modEntry s i _) (.post table _)
    · split
      · split
        · exact .trans ((PortsMove.refl R _).blocks (by rfl) (by rfl)) (.post table _)
        · exact .trans (.modEntry s i _) (.post table _)
      · exact .writeSupplement table writes s i
  · exact .refl R s

variable (row : NoticePair.row ∈ R.notices)
include row

theorem drain (n : Nat) (s : State) : s.PortsMove R (s.drain n) := by
  induction n generalizing s with
  | zero => exact .refl R s
  | succ n ih =>
    unfold State.drain
    split
    · exact .refl R s
    · split
      · exact .refl R s
      · split
        · exact ((((PortsMove.refl R _).blocks (by rfl) (by rfl)).trans (.writeSupplement table writes (s.setBacklog _) _)).trans
            (.closingCheck row _ _)).trans (ih _)
        · exact ((PortsMove.refl R _).blocks (by rfl) (by rfl)).trans (ih _)

theorem drainBacklog (s : State) : s.PortsMove R s.drainBacklog := .drain table writes row _ s

theorem tableVerdict (s : State) (i : Slot) (v : VerdictReason) : s.PortsMove R (s.tableVerdict i v) := by
  unfold State.tableVerdict
  split
  · refine .trans ?_ (.closingCheck row _ _)
    split
    · exact .trans ((PortsMove.refl R _).blocks (by rfl) (by rfl)) (.handleSupplement table writes _ _)
    · exact (PortsMove.refl R s).blocks (by rfl) (by rfl)
  · exact .refl R s

end

/-! #### Booms -/

theorem requestStage {b : Boom} (own : .flow b ∈ R.notices) {x : FlowStage}
    (other : x ≠ .drilling → .flow b.other ∈ R.notices) (s : State) : s.PortsMove R (s.requestStage b x) := by
  unfold State.requestStage
  split
  · exact .refl R s
  · cases x
    · exact .requestFlow own other s
    · exact .requestFlow own other s
    · exact .requestFlow own other s

section
variable {b : Boom} (stage : NoticePair.stage b ∈ R.notices) (flow : ∀ c, NoticePair.flow c ∈ R.notices)
include stage flow

theorem leaveStage (s : State) (c : CycleState) : s.PortsMove R (s.leaveStage b c) :=
  .trans (.setCycle stage s c) (.releaseFlow flow _ b)

theorem enterTorquing (s : State) : s.PortsMove R (s.enterTorquing b) :=
  .trans (.setCycle stage s _) (.requestStage (flow b) (fun _ => flow _) _)

theorem spinComplete (s : State) : s.PortsMove R (s.spinComplete b) := by
  unfold State.spinComplete
  simp only []
  split
  · exact (PortsMove.leaveStage stage flow s _).trans (.trans ((PortsMove.refl R _).blocks (by rfl) (by rfl)) (.enterTorquing stage flow _))
  · exact (PortsMove.leaveStage stage flow s _).blocks (by rfl) (by rfl)

theorem endDrilling (s : State) : s.PortsMove R (s.endDrilling b) :=
  .trans (.trans (((PortsMove.writeDrilledDepth s b).blocks (by rfl) (by rfl))) (.updateClaimed _ b _))
    (.leaveStage stage flow _ _)

end

section
variable {b : Boom} (stage : ∀ c, NoticePair.stage c ∈ R.notices) (flow : ∀ c, NoticePair.flow c ∈ R.notices)
  (table : NoticePair.table ∈ R.notices) (row : NoticePair.row ∈ R.notices) (writes : R.writes = true)
  (verdict : NoticePair.verdict b ∈ R.notices)
include stage flow table row writes verdict

theorem boomVerdict (s : State) (v : VerdictReason) (c : CycleState) : s.PortsMove R (s.boomVerdict b v c) := by
  unfold State.boomVerdict
  split
  · exact ((((((PortsMove.tableVerdict table writes row s _ v).blocks (by rfl) (by rfl))).trans (.releaseFlow flow _ b)).trans
      (.cancelLoader stage _ b)).trans (.post verdict _)).trans (.setCycle (stage b) _ c)
  · exact .refl R s

theorem rejectDrilling (s : State) (v : VerdictReason) : s.PortsMove R (s.rejectDrilling b v) := by
  unfold State.rejectDrilling
  split
  · exact .endDrilling (stage b) flow s
  · exact .trans (((PortsMove.writeDrilledDepth s b).blocks (by rfl) (by rfl)))
      (.boomVerdict stage flow table row writes verdict _ v _)

end

/-! #### Samples -/

theorem applyRun {b : Boom} {d : DrillRun} (void : d.voidChanges ≠ [] → .void b ∈ R.notices) (s : State) :
    s.PortsMove R (s.applyRun b d) := by
  have written : s.PortsMove R ((s.setEngine b d.engine).updateClaimed b fun e =>
      { e with lengthClass := d.lengthClass, result := some d.result }) :=
    .trans ((PortsMove.refl R _).blocks (by rfl) (by rfl)) (.updateClaimed _ b _)
  unfold State.applyRun
  simp only []
  cases changes : d.voidChanges with
  | nil => exact written
  | cons x rest =>
    have right : .void b ∈ R.notices := void (by rw [changes]; exact List.cons_ne_nil x rest)
    exact written.trans (.fold (fun s x => .offer right s x) _ _)

theorem watchFlush (s : State) (b : Boom) (x : Sample) : s.PortsMove R (s.watchFlush b x) := by
  unfold State.watchFlush
  split
  · exact (PortsMove.refl R s).blocks (by rfl) (by rfl)
  · exact .refl R s

theorem laneMark (s : State) (b : Boom) : s.PortsMove R (s.laneMark b) := by
  unfold State.laneMark
  split
  · exact (PortsMove.refl R s).blocks (by rfl) (by rfl)
  · exact .refl R s

theorem countFaults {b : Boom} {n : Nat} (s : State)
    (full : (s.lane b).faults < faultTop → faultTop ≤ (s.lane b).faults + n → .countOver b ∈ R.notices) :
    s.PortsMove R (s.countFaults b n) := by
  unfold State.countFaults
  simp only []
  split
  · rename_i h
    exact .trans ((PortsMove.refl R _).blocks (by rfl) (by rfl)) (.post (full h.1 h.2) _)
  · exact (PortsMove.refl R s).blocks (by rfl) (by rfl)

theorem discardFault {b : Boom} (s : State)
    (full : (s.lane b).faults < faultTop → faultTop ≤ (s.lane b).faults + 1 → .countOver b ∈ R.notices) :
    s.PortsMove R (s.discardFault b) := by
  unfold State.discardFault
  simp only []
  refine .trans ?_ (.laneMark _ b)
  split
  · exact .countFaults s full
  · exact (PortsMove.countFaults s full).blocks (by rfl) (by rfl)

theorem tearFrame {b : Boom} (s : State)
    (full : (s.lane b).faults < faultTop → faultTop ≤ (s.lane b).faults + 1 → .countOver b ∈ R.notices) :
    s.PortsMove R (s.tearFrame b) :=
  .trans ((PortsMove.refl R _).blocks (by rfl) (by rfl)) (.discardFault _ (by simpa using full))

theorem transferCount {b : Boom} (h : .report b ∈ R.notices) (s : State) : s.PortsMove R (s.transferCount b) :=
  .trans ((PortsMove.refl R _).blocks (by rfl) (by rfl)) (.post h _)

theorem loseLane {b : Boom} (full : .countOver b ∈ R.notices) (s : State) : s.PortsMove R (s.loseLane b) :=
  .trans (.trans ((PortsMove.refl R _).blocks (by rfl) (by rfl)) (.countFaults _ fun _ _ => full)) (.laneMark _ b)

section
variable {b : Boom} (stage : ∀ c, NoticePair.stage c ∈ R.notices) (flow : ∀ c, NoticePair.flow c ∈ R.notices)
  (table : NoticePair.table ∈ R.notices) (row : NoticePair.row ∈ R.notices) (writes : R.writes = true)
  (verdict : NoticePair.verdict b ∈ R.notices)
include stage flow table row writes verdict

theorem torqueSample (s : State) (x : Sample) : s.PortsMove R (s.torqueSample b x) := by
  unfold State.torqueSample
  simp only []
  have first : ∀ (t : State) (e : Engine) (f : Result → Result), t.PortsMove R ((t.setEngine b e).updateResult b f) :=
    fun t e f => .trans ((PortsMove.refl R _).blocks (by rfl) (by rfl)) (.updateResult _ b f)
  split
  · exact .trans (.trans (first s _ _) (.updateResult _ b _)) (.boomVerdict stage flow table row writes verdict _ _ _)
  · split
    · split
      · exact .trans (first s _ _) (.boomVerdict stage flow table row writes verdict _ _ _)
      · split
        · exact .trans ((first s _ _).blocks (by rfl) (by rfl)) (.boomVerdict stage flow table row writes verdict _ _ _)
        · exact (first s _ _).blocks (by rfl) (by rfl)
    · split
      · exact ((first s _ _).blocks (by rfl) (by rfl)).trans (.updateResult _ b _)
      · exact (first s _ _).blocks (by rfl) (by rfl)

theorem setSample (s : State) (x : Sample) : s.PortsMove R (s.setSample b x) := by
  unfold State.setSample
  split
  · exact .boomVerdict stage flow table row writes verdict s _ _
  · exact .refl R s

omit table row writes verdict in
theorem spinSample (s : State) (x : Sample) : s.PortsMove R (s.spinSample b x) := by
  unfold State.spinSample
  simp only []
  split
  · exact .trans (.trans ((PortsMove.refl R _).blocks (by rfl) (by rfl)) (.updateResult _ b _)) (.spinComplete (stage b) flow _)
  · exact .trans ((PortsMove.refl R _).blocks (by rfl) (by rfl)) (.updateResult _ b _)

variable (extend : NoticePair.extend b ∈ R.notices) (void : NoticePair.void b ∈ R.notices)
include extend void

omit void in
theorem afterRun (s : State) (o : DrillOutcome) : s.PortsMove R (s.afterRun b o) := by
  unfold State.afterRun
  split
  · exact .refl R s
  · exact .post extend s
  · exact .endDrilling (stage b) flow s
  · exact .rejectDrilling stage flow table row writes verdict s _

theorem drillSample (s : State) (x : Sample) : s.PortsMove R (s.drillSample b x) := by
  unfold State.drillSample
  split
  · split
    · simp only []
      exact .trans (.applyRun (fun _ => void) s)
        (.afterRun stage flow table row writes verdict extend _ _)
    · exact .refl R s
  · exact .refl R s

theorem engineSample (s : State) (x : Sample) : s.PortsMove R (s.engineSample b x) := by
  unfold State.engineSample
  split
  · exact .drillSample stage flow table row writes verdict extend void s x
  · exact .spinSample stage flow s x
  · exact .setSample stage flow table row writes verdict s x
  · unfold State.torquingSample
    split
    · exact .torqueSample stage flow table row writes verdict s x
    · exact .refl R s
  · exact .refl R s

variable (full : NoticePair.countOver b ∈ R.notices)
include full

theorem admitSample (s : State) (raw : RawSample) : s.PortsMove R (s.admitSample b raw) := by
  unfold State.admitSample
  simp only []
  refine .blocks (.trans ?_ (.watchFlush _ b _)) (by rfl) (by rfl)
  refine .trans ?_ (.engineSample stage flow table row writes verdict extend void _ _)
  split
  · exact .trans (.trans ((PortsMove.refl R _).blocks (by rfl) (by rfl)) (.countFaults _ fun _ _ => full)) (.laneMark _ b)
  · exact .trans ((PortsMove.refl R _).blocks (by rfl) (by rfl)) (.countFaults _ fun _ _ => full)

theorem takeCharacter (s : State) (c : Byte) (good : Bool) : s.PortsMove R (s.takeCharacter b c good) := by
  unfold State.takeCharacter
  split
  · exact .refl R s
  · split
    · split
      · exact (PortsMove.refl R s).blocks (by rfl) (by rfl)
      · exact .refl R s
    · split
      · exact .tearFrame s fun _ _ => full
      · split
        · exact (PortsMove.refl R s).blocks (by rfl) (by rfl)
        · unfold State.completeFrame
          simp only []
          split
          · exact .trans ((PortsMove.refl R _).blocks (by rfl) (by rfl))
              (.admitSample stage flow table row writes verdict extend void full _ _)
          · exact .trans ((PortsMove.refl R _).blocks (by rfl) (by rfl)) (.discardFault _ fun _ _ => full)

end

/-! #### Actions -/

theorem sync (s : State) : s.PortsMove R s.sync := by
  obtain ⟨u, e, h⟩ := State.sync_frame s
  rw [h]
  exact (PortsMove.refl R s).blocks (by rfl) (by rfl)

/-- An action moves the ports as its own effects do, and offers the statuses that it has changed. -/
theorem acting {s : State} {f : State → State} (own : s.PortsMove R (f s))
    (permit : ∀ b, s.feedLine b ≠ (f s).sync.feedLine b → .permit b ∈ R.notices)
    (lane : ∀ b, s.laneInStep b ≠ (f s).laneInStep b → .lane b ∈ R.notices)
    (loader : s.loaderStatus ≠ (f s).loaderStatus → .loader ∈ R.notices)
    (low : s.magazineLow ≠ (f s).magazineLow → .magazineLow ∈ R.notices) : s.PortsMove R (s.acting f) := by
  obtain ⟨u, e, h⟩ := State.sync_frame (f s)
  refine (own.trans (.sync _)).trans (.offersSince permit ?_ ?_ ?_)
  · rw [h]
    exact lane
  · rw [h]
    exact loader
  · rw [h]
    exact low

end State.PortsMove
end
end Sys2Proof.Machine

/-! PROOFS. An action whole: what each block of the part is after it, by the action's own effects. -/

namespace Sys2Proof.Machine

/-! ### A boom brought in step -/

theorem Boom.ne_other (b : Boom) : b ≠ b.other := fun h => Boom.other_ne b h.symm

@[simp] theorem State.unit_setUnit_other (s : State) (b : Boom) (u : BoomUnit) :
    (s.setUnit b u).unit b.other = s.unit b.other :=
  Pair.get_set_other s.units b u

@[simp] theorem State.engine_setEngine_other (s : State) (b : Boom) (e : Engine) :
    (s.setEngine b e).engine b.other = s.engine b.other :=
  Pair.get_set_other s.engines b e

@[simp] theorem State.lane_setLane_other (s : State) (b : Boom) (l : Lane) :
    (s.setLane b l).lane b.other = s.lane b.other :=
  Pair.get_set_other s.lanes b l

/-- The hold conditions of a boom read its own cycle state and flush count, its requests and its lane. -/
theorem State.holdConditions_congr {s t : State} {b : Boom} (hc : (t.unit b).cycle = (s.unit b).cycle)
    (hf : (s.unit b).cycle = .drilling → (t.unit b).flushCount = (s.unit b).flushCount)
    (hq : (t.arbiter.queue.any fun r => r.boom == b) = s.arbiter.queue.any fun r => r.boom == b)
    (hl : t.laneInStep b = s.laneInStep b) : t.holdConditions b = s.holdConditions b := by
  unfold State.holdConditions
  rw [hc, hq, hl]
  by_cases drilling : (s.unit b).cycle = .drilling
  · rw [hf drilling]
  · rw [beq_false_of_ne drilling, Bool.false_and, Bool.false_and]

theorem State.syncBoom_unit (s : State) (b : Boom) :
    (s.syncBoom b).unit b = (s.unit b).follow (s.holdConditions b) s.isHeld := by
  unfold State.syncBoom
  simp only []
  split <;> simp

theorem State.syncBoom_unit_other (s : State) (b : Boom) : (s.syncBoom b).unit b.other = s.unit b.other := by
  unfold State.syncBoom
  simp only []
  split <;> simp

theorem State.syncBoom_engine (s : State) (b : Boom) : (s.syncBoom b).engine b =
    if (s.unit b).cycle = .torquing ∧ (s.holdConditions b).present = true then (s.engine b).dropTorqueRun
    else s.engine b := by
  unfold State.syncBoom
  simp only []
  split <;> simp

theorem State.syncBoom_engine_other (s : State) (b : Boom) : (s.syncBoom b).engine b.other = s.engine b.other := by
  unfold State.syncBoom
  simp only []
  split <;> simp

theorem State.syncBoom_holdConditions_other (s : State) (b : Boom) :
    (s.syncBoom b).holdConditions b.other = s.holdConditions b.other := by
  have frame := State.syncBoom_frame s b
  refine State.holdConditions_congr (by rw [State.syncBoom_unit_other]) (fun _ => by rw [State.syncBoom_unit_other])
    ?_ ?_
  · rw [frame]
  · rw [frame]; rfl

theorem State.syncBoom_isHeld (s : State) (b : Boom) : (s.syncBoom b).isHeld = s.isHeld := by
  rw [State.syncBoom_frame]
  rfl

/-- After an action each unit follows the conditions that the action's own effects have left. -/
theorem State.sync_unit (s : State) (b : Boom) :
    s.sync.unit b = (s.unit b).follow (s.holdConditions b) s.isHeld := by
  unfold State.sync
  cases b with
  | A => rw [show Boom.A = Boom.B.other from rfl, State.syncBoom_unit_other]; exact State.syncBoom_unit s .A
  | B =>
    rw [State.syncBoom_unit, State.syncBoom_isHeld, show Boom.B = Boom.A.other from rfl, State.syncBoom_unit_other,
      State.syncBoom_holdConditions_other]

theorem State.sync_engine (s : State) (b : Boom) : s.sync.engine b =
    if (s.unit b).cycle = .torquing ∧ (s.holdConditions b).present = true then (s.engine b).dropTorqueRun
    else s.engine b := by
  unfold State.sync
  cases b with
  | A => rw [show Boom.A = Boom.B.other from rfl, State.syncBoom_engine_other]; exact State.syncBoom_engine s .A
  | B =>
    rw [State.syncBoom_engine, show Boom.B = Boom.A.other from rfl, State.syncBoom_unit_other,
      State.syncBoom_holdConditions_other, State.syncBoom_engine_other]

/-! ### What an action keeps of its own effects -/

section
variable (s : State) (f : State → State)

theorem State.acting_eq : ∃ p, s.acting f = { (f s).sync with ports := p } := State.offersSince_frame _ _

@[simp] theorem State.acting_slots : (s.acting f).slots = (f s).slots := by
  obtain ⟨_, _, _, h⟩ := State.acting_frame s f; rw [h]
@[simp] theorem State.acting_rows : (s.acting f).rows = (f s).rows := by
  obtain ⟨_, _, _, h⟩ := State.acting_frame s f; rw [h]
@[simp] theorem State.acting_backlog : (s.acting f).backlog = (f s).backlog := by
  obtain ⟨_, _, _, h⟩ := State.acting_frame s f; rw [h]
@[simp] theorem State.acting_protection : (s.acting f).protection = (f s).protection := by
  obtain ⟨_, _, _, h⟩ := State.acting_frame s f; rw [h]
@[simp] theorem State.acting_lanes : (s.acting f).lanes = (f s).lanes := by
  obtain ⟨_, _, _, h⟩ := State.acting_frame s f; rw [h]
@[simp] theorem State.acting_loader : (s.acting f).loader = (f s).loader := by
  obtain ⟨_, _, _, h⟩ := State.acting_frame s f; rw [h]
@[simp] theorem State.acting_arbiter : (s.acting f).arbiter = (f s).arbiter := by
  obtain ⟨_, _, _, h⟩ := State.acting_frame s f; rw [h]
@[simp] theorem State.acting_params : (s.acting f).params = (f s).params := by
  obtain ⟨_, _, _, h⟩ := State.acting_frame s f; rw [h]
@[simp] theorem State.acting_guardPin : (s.acting f).guardPin = (f s).guardPin := by
  obtain ⟨_, _, _, h⟩ := State.acting_frame s f; rw [h]
@[simp] theorem State.acting_supplyUp : (s.acting f).supplyUp = (f s).supplyUp := by
  obtain ⟨_, _, _, h⟩ := State.acting_frame s f; rw [h]
@[simp] theorem State.acting_resetLow : (s.acting f).resetLow = (f s).resetLow := by
  obtain ⟨_, _, _, h⟩ := State.acting_frame s f; rw [h]
@[simp] theorem State.acting_readCount : (s.acting f).readCount = (f s).readCount := by
  obtain ⟨_, _, _, h⟩ := State.acting_frame s f; rw [h]
@[simp] theorem State.acting_tickCount : (s.acting f).tickCount = (f s).tickCount := by
  obtain ⟨_, _, _, h⟩ := State.acting_frame s f; rw [h]
@[simp] theorem State.acting_pending : (s.acting f).pending = (f s).pending := by
  obtain ⟨_, _, _, h⟩ := State.acting_frame s f; rw [h]
@[simp] theorem State.entry_acting (i : Slot) : (s.acting f).entry i = (f s).entry i := by
  unfold State.entry; rw [State.acting_slots]
@[simp] theorem State.lane_acting (b : Boom) : (s.acting f).lane b = (f s).lane b := by
  unfold State.lane; rw [State.acting_lanes]
@[simp] theorem State.isHeld_acting : (s.acting f).isHeld = (f s).isHeld := by
  simp [State.isHeld]
@[simp] theorem State.laneInStep_acting (b : Boom) : (s.acting f).laneInStep b = (f s).laneInStep b := by
  simp [State.laneInStep]

/-- A unit after an action. -/
theorem State.acting_unit (b : Boom) :
    (s.acting f).unit b = ((f s).unit b).follow ((f s).holdConditions b) (f s).isHeld := by
  obtain ⟨p, h⟩ := State.acting_eq s f
  rw [h]
  exact State.sync_unit (f s) b

/-- An engine after an action: a boom that the action leaves held in TORQUING has dropped its runs (R137). -/
theorem State.acting_engine (b : Boom) : (s.acting f).engine b =
    if ((f s).unit b).cycle = .torquing ∧ ((f s).holdConditions b).present = true then
      ((f s).engine b).dropTorqueRun else (f s).engine b := by
  obtain ⟨p, h⟩ := State.acting_eq s f
  rw [h]
  exact State.sync_engine (f s) b

end

/-! ### Followed booms -/

theorem State.sync_followed (s : State) : s.sync.Followed := by
  intro b
  obtain ⟨units, engines, frame⟩ := State.sync_frame s
  have hq : s.sync.arbiter = s.arbiter := by rw [frame]
  have hl : s.sync.laneInStep b = s.laneInStep b := by rw [frame]; rfl
  have hh : s.sync.isHeld = s.isHeld := by rw [frame]; rfl
  have he := State.sync_engine s b
  have hu := State.sync_unit s b
  have hold : s.holdConditions b = ⟨(s.unit b).cycle.holdable && s.arbiter.queue.any fun r => r.boom == b,
      (s.unit b).cycle.holdable && !s.laneInStep b,
      (s.unit b).cycle == .drilling && (s.unit b).flushCount == 10⟩ := by
    unfold State.holdConditions
    split
    · rename_i c
      simp [c]
    · rename_i c
      have d : (s.unit b).cycle ≠ .drilling := fun k => c (by rw [k]; rfl)
      simp [c, d, Holds.none]
  have cycle : (s.sync.unit b).cycle = (s.unit b).cycle := by rw [hu]; rfl
  have holds : (s.sync.unit b).holds = s.holdConditions b := by rw [hu]; rfl
  constructor
  · rw [holds, cycle, hq, hold]
  · rw [holds, cycle, hl, hold]
  · rw [hu]
    exact congrArg Holds.flush hold
  · rw [hu, hh]
    unfold BoomUnit.follow BoomUnit.feedCondition BoomUnit.running
    cases (s.unit b).cycle <;> simp [CycleState.holdable]
  · rw [hu, hh]
    rfl
  · rw [hu]
    unfold BoomUnit.follow BoomUnit.nextAbandon
    by_cases d : (s.unit b).cycle = .drilling ∧ (s.holdConditions b).lane = true
    · simp [d]
    · rw [if_neg d]
      simpa using d
  · intro c
    rw [cycle] at c
    rw [hu]
    exact if_neg c
  · intro c p
    rw [cycle] at c
    rw [holds] at p
    rw [hu]
    unfold BoomUnit.follow BoomUnit.nextSpin
    cases t : (s.unit b).spinTimer <;> simp [c, p]
  · intro c
    rw [cycle] at c
    rw [hu]
    exact if_neg c
  · intro c d
    rw [cycle] at c d
    rw [hu]
    unfold BoomUnit.follow BoomUnit.nextTorque
    cases k : (s.unit b).cycle <;> simp_all
  · intro c p
    rw [cycle] at c
    rw [holds] at p
    rw [hu]
    unfold BoomUnit.follow BoomUnit.nextTorque
    cases t : (s.unit b).torqueTimer <;> simp [c, p]
  · intro c p
    rw [cycle] at c
    rw [holds] at p
    rw [he, if_pos ⟨c, p⟩]
    exact ⟨rfl, rfl, rfl⟩

/-- A boom follows its conditions in every state that shares what they read. -/
theorem State.BoomFollows.congr {s t : State} {b : Boom} (h : s.BoomFollows b) (hu : t.unit b = s.unit b)
    (hq : (t.arbiter.queue.any fun r => r.boom == b) = s.arbiter.queue.any fun r => r.boom == b)
    (hl : t.laneInStep b = s.laneInStep b) (hh : t.isHeld = s.isHeld)
    (he : (s.unit b).cycle = .torquing → t.engine b = s.engine b) : t.BoomFollows b := by
  obtain ⟨flow, lane, flush, feed, turn, abandon, spin, spinRuns, set, torque, torqueRuns, runs⟩ := h
  constructor <;> rw [hu]
  · rw [flow, hq]
  · rw [lane, hl]
  · exact flush
  · rw [feed, hh]
  · rw [turn, hh]
  · exact abandon
  · exact spin
  · exact spinRuns
  · exact set
  · exact torque
  · exact torqueRuns
  · intro c p
    rw [he c]
    exact runs c p

/-- After an action both booms follow their conditions. -/
theorem State.acting_followed (s : State) (f : State → State) : (s.acting f).Followed := by
  obtain ⟨p, h⟩ := State.acting_eq s f
  rw [h]
  exact fun b => (State.sync_followed (f s) b).congr rfl rfl rfl rfl fun _ => rfl

/-- A boom that followed its conditions, and whose conditions an action leaves alone, is as it was. -/
theorem State.BoomFollows.acting_unit {s : State} {b : Boom} (h : s.BoomFollows b) {f : State → State}
    (hu : (f s).unit b = s.unit b) (hh : (f s).isHeld = s.isHeld)
    (hq : ((f s).arbiter.queue.any fun r => r.boom == b) = s.arbiter.queue.any fun r => r.boom == b)
    (hl : (f s).laneInStep b = s.laneInStep b) : (s.acting f).unit b = s.unit b := by
  rw [State.acting_unit, hu, hh, State.holdConditions_congr (by rw [hu]) (fun _ => by rw [hu]) hq hl, h.follow_eq]

end Sys2Proof.Machine

/-! PROOFS. The layer builder (R106 to R108): how one increment is laid, and what that keeps of a profile. -/

namespace Sys2Proof.Machine

/-! ### One increment laid -/

theorem appendLayer_same (l : List Layer) (x : Layer) (depth : Nat) :
    appendLayer (l ++ [x]) depth x.cls = l ++ [{ x with length := x.length + 10 }] := by
  simp [appendLayer, incrementMm]

theorem appendLayer_new {l : List Layer} {x : Layer} {c : LayerClass} (h : c ≠ x.cls)
    (room : (l ++ [x]).length < 8) (depth : Nat) :
    appendLayer (l ++ [x]) depth c = l ++ [x] ++ [⟨depth, 10, c, false⟩] := by
  unfold appendLayer
  simp only [List.getLast?_concat]
  rw [if_neg h, if_pos (show (l ++ [x]).length < maxLayers from room)]
  rfl

theorem appendLayer_merge {l : List Layer} {x : Layer} {c : LayerClass} (h : c ≠ x.cls)
    (full : 8 ≤ (l ++ [x]).length) (depth : Nat) : appendLayer (l ++ [x]) depth c =
      l ++ [{ x with length := x.length + 10, cls := x.cls.weaker c, merged := true }] := by
  unfold appendLayer
  simp only [List.getLast?_concat]
  rw [if_neg h, if_neg (show ¬ (l ++ [x]).length < maxLayers from Nat.not_lt.2 full), List.dropLast_concat]
  rfl

/-- Everything that one increment can do to the layers: it is the first; it extends the last layer; it starts a new one;
or it merges into the last of eight (R106, R107). -/
theorem appendLayer_cases (layers : List Layer) (depth : Nat) (c : LayerClass) :
    (layers = [] ∧ appendLayer layers depth c = [⟨0, 10, c, false⟩]) ∨
    ∃ l x, layers = l ++ [x] ∧
      ((c = x.cls ∧ appendLayer layers depth c = l ++ [{ x with length := x.length + 10 }]) ∨
        (c ≠ x.cls ∧ layers.length < 8 ∧ appendLayer layers depth c = l ++ [x] ++ [⟨depth, 10, c, false⟩]) ∨
        (c ≠ x.cls ∧ 8 ≤ layers.length ∧ appendLayer layers depth c =
          l ++ [{ x with length := x.length + 10, cls := x.cls.weaker c, merged := true }])) := by
  rcases List.eq_nil_or_concat' layers with rfl | ⟨l, x, rfl⟩
  · exact .inl ⟨rfl, rfl⟩
  · refine .inr ⟨l, x, rfl, ?_⟩
    by_cases same : c = x.cls
    · subst same
      exact .inl ⟨rfl, appendLayer_same l x depth⟩
    · rcases Nat.lt_or_ge (l ++ [x]).length 8 with room | full
      · exact .inr (.inl ⟨same, room, appendLayer_new same room depth⟩)
      · exact .inr (.inr ⟨same, full, appendLayer_merge same full depth⟩)

/-- VOID is the weakest class: a merge keeps a VOID layer VOID. -/
theorem LayerClass.void_weaker (c : LayerClass) : LayerClass.void.weaker c = .void := by
  cases c <;> rfl

/-! ### Profiles that run without a gap -/

/-- The layers run from depth 0 without a gap, in steps of 10 mm. -/
def LayersRun (layers : List Layer) : Prop :=
  ∀ k, ∀ x ∈ layers[k]?, x.start = ((layers.take k).map Layer.length).sum ∧ 0 < x.length ∧ 10 ∣ x.length

theorem LayersRun.concat_iff (l : List Layer) (x : Layer) : LayersRun (l ++ [x]) ↔
    LayersRun l ∧ x.start = (l.map Layer.length).sum ∧ 0 < x.length ∧ 10 ∣ x.length := by
  constructor
  · intro h
    refine ⟨fun k y hy => ?_, ?_⟩
    · have below : k < l.length := (List.getElem?_eq_some_iff.1 hy).1
      have := h k y (by rw [List.getElem?_append_left below]; exact hy)
      rwa [List.take_append_of_le_length below.le] at this
    · have := h l.length x (by simp)
      rwa [List.take_left] at this
  · rintro ⟨h, last⟩ k y hy
    rcases Nat.lt_trichotomy k l.length with below | rfl | above
    · rw [List.getElem?_append_left below] at hy
      rw [List.take_append_of_le_length below.le]
      exact h k y hy
    · have : y = x := by simpa using hy.symm
      subst this
      rwa [List.take_left]
    · rw [List.getElem?_eq_none (by simp; omega)] at hy
      cases hy

/-- What one increment keeps of the layers and their depth, before the void total is worked out again. -/
structure Result.Runs (r : Result) : Prop where
  size : r.layers.length ≤ 8
  run : LayersRun r.layers
  sum : r.profiledDepth = (r.layers.map Layer.length).sum

theorem Result.LayersAgree.runs {r : Result} (h : r.LayersAgree) : r.Runs := ⟨h.size, h.run, h.sum⟩

theorem Result.Runs.layInc {r : Result} (h : r.Runs) (c : LayerClass) : (r.layInc c).Runs := by
  obtain ⟨size, run, sum⟩ := h
  unfold Result.layInc
  obtain ⟨none, e⟩ | ⟨l, x, some, cases⟩ := appendLayer_cases r.layers r.profiledDepth c
  · rw [none] at sum
    refine ⟨by simp [e], ?_, by rw [e, sum]; rfl⟩
    rw [e]
    exact (LayersRun.concat_iff [] _).2 ⟨by rintro k x hx; simp at hx, by simp⟩
  · rw [some] at size run sum
    obtain ⟨before, start, long, tens⟩ := (LayersRun.concat_iff l x).1 run
    have total : r.profiledDepth = (l.map Layer.length).sum + x.length := by simpa using sum
    have longer : 10 ∣ x.length + 10 := Dvd.dvd.add tens (dvd_refl 10)
    have room : l.length + 1 ≤ 8 := by simpa using size
    obtain ⟨_, e⟩ | ⟨_, less, e⟩ | ⟨_, _, e⟩ := cases <;> constructor <;>
      simp only [e, LayersRun.concat_iff, incrementMm]
    · simpa using room
    · exact ⟨before, start, by omega, longer⟩
    · simp [total]; omega
    · rw [some] at less; simp at less ⊢; omega
    · exact ⟨⟨before, start, long, tens⟩, by simpa using total, by decide, by decide⟩
    · simp [total]; omega
    · simpa using room
    · exact ⟨before, start, by omega, longer⟩
    · simp [total]; omega

/-! ### The void total -/

theorem voidTotalOf_concat (l : List Layer) (x : Layer) :
    voidTotalOf (l ++ [x]) = voidTotalOf l + if x.cls = .void then x.length else 0 := by
  unfold voidTotalOf
  by_cases v : x.cls = .void <;> simp [List.filter_append, v]

theorem length_appendLayer_ge (layers : List Layer) (depth : Nat) (c : LayerClass) :
    layers.length ≤ (appendLayer layers depth c).length := by
  obtain ⟨none, e⟩ | ⟨l, x, some, ⟨_, e⟩ | ⟨_, _, e⟩ | ⟨_, _, e⟩⟩ := appendLayer_cases layers depth c
  · simp [none]
  all_goals rw [e, some]; simp

/-- An increment never takes VOID rock out of a profile. -/
theorem voidTotalOf_appendLayer_ge (layers : List Layer) (depth : Nat) (c : LayerClass) :
    voidTotalOf layers ≤ voidTotalOf (appendLayer layers depth c) := by
  obtain ⟨none, e⟩ | ⟨l, x, some, ⟨_, e⟩ | ⟨_, _, e⟩ | ⟨_, _, e⟩⟩ := appendLayer_cases layers depth c
  · rw [none]; exact Nat.zero_le _
  · rw [e, some, voidTotalOf_concat, voidTotalOf_concat]
    by_cases v : x.cls = .void <;> simp [v]
  · rw [e, some, voidTotalOf_concat (l ++ [x])]
    exact Nat.le_add_right _ _
  · rw [e, some, voidTotalOf_concat, voidTotalOf_concat]
    by_cases v : x.cls = .void <;> simp [v, LayerClass.void_weaker]

/-- Without a merge an increment adds its 10 mm to the void total where it is VOID, and nothing else. -/
theorem voidTotalOf_appendLayer {layers : List Layer} {depth : Nat} {c : LayerClass}
    (room : (appendLayer layers depth c).length < 8) :
    voidTotalOf (appendLayer layers depth c) = voidTotalOf layers + if c = .void then 10 else 0 := by
  obtain ⟨none, e⟩ | ⟨l, x, some, ⟨same, e⟩ | ⟨_, _, e⟩ | ⟨_, full, e⟩⟩ := appendLayer_cases layers depth c
  · rw [e, none]
    exact voidTotalOf_concat [] _
  · rw [e, some, voidTotalOf_concat, voidTotalOf_concat, same]
    by_cases v : x.cls = .void <;> simp [v, Nat.add_assoc]
  · rw [e, some, voidTotalOf_concat (l ++ [x])]
  · exact absurd (lt_of_le_of_lt (length_appendLayer_ge layers depth c) room) (Nat.not_lt.2 full)

/-! ### A window laid -/

/-- The increments of a window laid one after the other (R105, R106). -/
def Result.layAll (r : Result) (isVoid : Bool) (l : List IncRecord) : Result :=
  l.foldl (fun acc x => acc.layInc (effectiveClass isVoid x.cls)) r

theorem Result.layWindow_eq (r : Result) (w : Window) (isVoid : Bool) : r.layWindow w isVoid =
    { r.layAll isVoid w.records with voidTotal := voidTotalOf (r.layAll isVoid w.records).layers } := rfl

@[simp] theorem Result.layAll_nil (r : Result) (isVoid : Bool) : r.layAll isVoid [] = r := rfl

@[simp] theorem Result.layAll_cons (r : Result) (isVoid : Bool) (x : IncRecord) (l : List IncRecord) :
    r.layAll isVoid (x :: l) = (r.layInc (effectiveClass isVoid x.cls)).layAll isVoid l := rfl

theorem Result.Runs.layAll {r : Result} (h : r.Runs) (isVoid : Bool) (l : List IncRecord) :
    (r.layAll isVoid l).Runs := by
  induction l generalizing r with
  | nil => exact h
  | cons x rest ih => exact ih (h.layInc _)

theorem Result.layAll_profiledDepth (r : Result) (isVoid : Bool) (l : List IncRecord) :
    (r.layAll isVoid l).profiledDepth = r.profiledDepth + 10 * l.length := by
  induction l generalizing r with
  | nil => rfl
  | cons x rest ih =>
    rw [Result.layAll_cons, ih]
    simp only [Result.layInc, incrementMm, List.length_cons]
    omega

theorem Result.layAll_length_ge (r : Result) (isVoid : Bool) (l : List IncRecord) :
    r.layers.length ≤ (r.layAll isVoid l).layers.length := by
  induction l generalizing r with
  | nil => exact le_refl _
  | cons x rest ih => exact le_trans (length_appendLayer_ge _ r.profiledDepth _) (ih (r.layInc _))

theorem Result.layAll_voids_ge (r : Result) (isVoid : Bool) (l : List IncRecord) :
    voidTotalOf r.layers ≤ voidTotalOf (r.layAll isVoid l).layers := by
  induction l generalizing r with
  | nil => exact le_refl _
  | cons x rest ih => exact le_trans (voidTotalOf_appendLayer_ge _ r.profiledDepth _) (ih (r.layInc _))

theorem effectiveClass_eq_void_iff (isVoid : Bool) (c : LayerClass) : effectiveClass isVoid c = .void ↔ isVoid = true := by
  cases isVoid <;> cases c <;> decide

theorem Result.layAll_voids {r : Result} {isVoid : Bool} {l : List IncRecord}
    (room : (r.layAll isVoid l).layers.length < 8) :
    voidTotalOf (r.layAll isVoid l).layers = voidTotalOf r.layers + if isVoid then 10 * l.length else 0 := by
  induction l generalizing r with
  | nil => simp
  | cons x rest ih =>
    have first : (r.layInc (effectiveClass isVoid x.cls)).layers.length < 8 :=
      lt_of_le_of_lt (Result.layAll_length_ge _ isVoid rest) room
    rw [Result.layAll_cons] at room ⊢
    rw [ih room, show (r.layInc (effectiveClass isVoid x.cls)).layers = appendLayer r.layers r.profiledDepth
      (effectiveClass isVoid x.cls) from rfl, voidTotalOf_appendLayer first]
    simp only [effectiveClass_eq_void_iff, List.length_cons]
    cases isVoid <;> simp
    omega

/-- A released window leaves a profile that agrees with itself. -/
theorem Result.LayersAgree.layWindow {r : Result} (h : r.LayersAgree) (w : Window) (isVoid : Bool) :
    (r.layWindow w isVoid).LayersAgree := by
  obtain ⟨size, run, sum⟩ := h.runs.layAll isVoid w.records
  exact ⟨size, run, sum, rfl⟩

/-- The layers, the profiled depth and the void total are the same. -/
def Result.SameProfile (r q : Result) : Prop :=
  q.layers = r.layers ∧ q.profiledDepth = r.profiledDepth ∧ q.voidTotal = r.voidTotal

/-- The agreement of a profile looks at the layers, the profiled depth and the void total only. -/
theorem Result.LayersAgree.congr {r q : Result} (h : r.LayersAgree) (k : r.SameProfile q) : q.LayersAgree := by
  obtain ⟨size, run, sum, voids⟩ := h
  obtain ⟨hl, hp, hv⟩ := k
  constructor
  · rwa [hl]
  · rwa [hl]
  · rw [hp, hl, sum]
  · rw [hv, hl, voids]

end Sys2Proof.Machine

/-! PROOFS. What the work of one sample keeps, through every part of it: the bounds of the engine's counts, a profile that
agrees with itself, and a list of VOID changes that accounts for the void state. -/

namespace Sys2Proof.Machine

/-- The bounds of what an engine counts (R85, R133): the accumulator and the counts, the sums, the runs and the peak. -/
def Engine.Bounded (e : Engine) : Prop :=
  (e.accumulator ≤ 16777215 ∧ e.incomplete ≤ 255 ∧ e.saturated ≤ 255) ∧
  (e.revolutionSum ≤ 1048575 ∧ e.turnSum ≤ 1048575) ∧
  (e.seatRun ≤ 3 ∧ (e.seated = false → e.seatRun ≤ 2)) ∧
  e.slipRun ≤ 3 ∧ ∀ x, e.peak = some x → x ≤ 800

theorem Engine.initial_bounded : Engine.initial.Bounded :=
  ⟨by decide, by decide, by decide, by decide, fun _ h => nomatch h⟩

theorem Engine.Bounded.dropTorqueRun {e : Engine} (h : e.Bounded) : e.dropTorqueRun.Bounded := by
  obtain ⟨counts, sums, _, _, peak⟩ := h
  exact ⟨counts, sums, ⟨Nat.zero_le _, fun _ => Nat.zero_le _⟩, Nat.zero_le _, peak⟩

theorem Engine.Bounded.openAt {e : Engine} (h : e.Bounded) (j : Nat) : (e.openAt j).Bounded := by
  obtain ⟨⟨_, counts⟩, rest⟩ := h
  exact ⟨⟨Nat.zero_le _, counts⟩, rest⟩

theorem Engine.Bounded.dropRun {e : Engine} (h : e.Bounded) : e.dropRun.Bounded := by
  obtain ⟨⟨_, counts⟩, rest⟩ := h
  exact ⟨⟨Nat.zero_le _, counts⟩, rest⟩

theorem Engine.Bounded.credit {e : Engine} (h : e.Bounded) (w : Nat) : (e.credit w).Bounded := by
  obtain ⟨⟨_, counts⟩, rest⟩ := h
  unfold Engine.credit
  split
  · exact ⟨⟨le_refl _, counts⟩, rest⟩
  · rename_i below
    exact ⟨⟨(Nat.not_le.1 below).le, counts⟩, rest⟩

theorem countTo255_le (n : Nat) : countTo255 n ≤ 255 := Nat.min_le_left _ _

theorem Engine.Bounded.countClose {e : Engine} (h : e.Bounded) (p : ParamSet) (c : LayerClass) (x y : Bool) :
    (e.countClose p c x y).Bounded := by
  obtain ⟨⟨accumulator, incomplete, saturated⟩, rest⟩ := h
  refine ⟨⟨accumulator, ?_, ?_⟩, rest⟩
  · simp only [Engine.countClose]
    split
    · exact countTo255_le _
    · exact incomplete
  · simp only [Engine.countClose]
    split
    · exact countTo255_le _
    · exact saturated

theorem Engine.credit_voidState (e : Engine) (w : Nat) : (e.credit w).voidState = e.voidState := by
  unfold Engine.credit
  split <;> rfl

/-- The run after the held window of a flush. -/
def DrillRun.flushHeld (d : DrillRun) (p : ParamSet) : DrillRun :=
  match p.voidMode with
  | .one => { d with engine := { d.engine with window := [] } }
  | .two => ({ d with engine := { d.engine with window := [] } } : DrillRun).releaseHeld p
      (!d.engine.window.isEmpty && (closeWindow d.engine.window).isOpen)

/-- The run after the early window of a flush that goes on past the held one. -/
def DrillRun.flushEarly (d : DrillRun) (p : ParamSet) : DrillRun :=
  let w := closeWindow d.engine.window
  if !d.engine.window.isEmpty then
    match p.voidMode with
    | .one => (d.flushHeld p).release p w w.isOpen
    | .two => (d.flushHeld p).release p w (w.isOpen && (d.flushHeld p).engine.previousOpen)
  else d.flushHeld p

theorem DrillRun.flush_eq (d : DrillRun) (p : ParamSet) :
    d.flush p = if (d.flushHeld p).overVoid then d.flushHeld p
      else if (d.flushEarly p).overVoid then d.flushEarly p
      else { d.flushEarly p with
        engine := { (d.flushEarly p).engine with window := [], heldWindow := none, previousOpen := false } } := rfl

/-- A run in order, in a hole whose VOID status was `void` before the sample: its engine is bounded where `P` holds, and
its profile agrees with itself where `Q` does. -/
structure DrillRun.Sound (P Q : Prop) (void : Bool) (d : DrillRun) : Prop where
  engine : P → d.engine.Bounded
  result : Q → d.result.LayersAgree
  changes : d.engine.voidState ≠ void → d.engine.voidState ∈ d.voidChanges

namespace DrillRun.Sound
variable {P Q : Prop} {void : Bool} {d : DrillRun} (h : d.Sound P Q void) (p : ParamSet)
include h

/-- A change of the windows, the open increment or the marks beside the counts. -/
theorem setEngine (e : Engine) (k : P → e.Bounded) (hv : e.voidState = d.engine.voidState) :
    ({ d with engine := e } : DrillRun).Sound P Q void :=
  ⟨k, h.result, fun changed => hv ▸ h.changes (hv ▸ changed)⟩

theorem release (w : Window) (isVoid : Bool) : (d.release p w isVoid).Sound P Q void := by
  obtain ⟨engine, result, changes⟩ := h
  refine ⟨engine, fun q => (result q).layWindow w isVoid, fun changed => ?_⟩
  unfold DrillRun.release at changed ⊢
  simp only [] at changed ⊢
  split
  · rename_i same
    rw [← same] at changed ⊢
    exact changes changed
  · exact List.mem_append_right _ List.mem_cons_self

theorem releaseHeld (x : Bool) : (d.releaseHeld p x).Sound P Q void := by
  unfold DrillRun.releaseHeld
  split
  · exact (h.setEngine { d.engine with heldWindow := none, previousOpen := _ } h.engine rfl).release p _ _
  · exact h

theorem windowFull (w : Window) : (d.windowFull p w).Sound P Q void := by
  unfold DrillRun.windowFull
  split
  · exact h.release p w _
  · have held := h.releaseHeld p w.isOpen
    simp only []
    split
    · exact held
    · exact held.setEngine { (d.releaseHeld p w.isOpen).engine with heldWindow := some w } held.engine rfl

theorem handOn (x : IncRecord) : (d.handOn p x).Sound P Q void := by
  unfold DrillRun.handOn
  simp only []
  split
  · exact h.setEngine { d.engine with window := _ } h.engine rfl
  · exact (h.setEngine { d.engine with window := [] } h.engine rfl).windowFull p _

theorem close (k w : Nat) (x y : Bool) : (d.close p k w x y).Sound P Q void := by
  unfold DrillRun.close
  split
  · exact h
  · let c := ownClass p d.engine.heldClass w x y
    let e := d.engine.countClose p c x y
    have counted : DrillRun.Sound P Q void { d with
        engine := e
        result := { d.result with incomplete := e.incomplete, saturated := e.saturated, unreliable := e.unreliable } } :=
      ⟨fun k => (h.engine k).countClose p c x y, fun q => (h.result q).congr ⟨rfl, rfl, rfl⟩, h.changes⟩
    exact counted.handOn p ⟨k, c, x, y⟩

theorem closePassed (k n : Nat) : (d.closePassed p k n).Sound P Q void := by
  induction n generalizing d k with
  | zero => exact h
  | succ n ih => exact ih (h.close p k 0 false false) (k + 1)

theorem closeTo (j : Nat) : (d.closeTo p j).Sound P Q void := by
  unfold DrillRun.closeTo
  simp only []
  split
  · have closed := (h.close p d.engine.openIncrement d.engine.accumulator d.engine.openIncomplete
      d.engine.openSaturated).closePassed p (d.engine.openIncrement + 1) (j - d.engine.openIncrement - 1)
    exact closed.setEngine _ (fun k => (closed.engine k).openAt j) rfl
  · exact h

theorem ended : ({ d with engine := { d.engine with window := [], heldWindow := none, previousOpen := false } } :
    DrillRun).Sound P Q void := h.setEngine { d.engine with window := [], heldWindow := none, previousOpen := false } h.engine rfl

theorem flush : (d.flush p).Sound P Q void := by
  have cleared : ({ d with engine := { d.engine with window := [] } } : DrillRun).Sound P Q void :=
    h.setEngine { d.engine with window := [] } h.engine rfl
  have held : (flushHeld d p).Sound P Q void := by
    unfold flushHeld
    split
    · exact cleared
    · exact cleared.releaseHeld p _
  have early : (flushEarly d p).Sound P Q void := by
    unfold flushEarly
    split
    · split
      · exact held.release p _ _
      · exact held.release p _ _
    · exact held
  rw [flush_eq]
  split
  · exact held
  · split
    · exact early
    · exact early.ended

theorem extend : d.extend.Sound P Q void := ⟨fun k => (h.engine k).openAt (d.result.target / incrementMm), fun q => (h.result q).congr ⟨rfl, rfl, rfl⟩, h.changes⟩

theorem targetTest : (d.targetTest p).1.Sound P Q void := by
  have t := h.flush p
  unfold DrillRun.targetTest
  simp only []
  split
  · exact t
  · split
    · exact t
    · split
      · exact t.extend
      · exact t.setEngine { (d.flush p).engine with weakAnchor := true } t.engine rfl

theorem collarSample (x : Sample) : (d.collarSample x).Sound P Q void := ⟨h.engine, fun q => (h.result q).congr ⟨rfl, rfl, rfl⟩, h.changes⟩

theorem moveFront (depth : Nat) : (d.moveFront p depth).1.Sound P Q void := by
  have moved : ({ d with engine := { d.engine with frontDepth := depth } } : DrillRun).Sound P Q void :=
    h.setEngine { d.engine with frontDepth := depth } h.engine rfl
  unfold DrillRun.moveFront
  simp only []
  split
  · split
    · exact moved.closeTo p _
    · exact (moved.closeTo p _).targetTest p
  · split
    · exact moved.closeTo p _
    · exact moved

theorem sample (x : Sample) : (d.sample p x).1.Sound P Q void := by
  unfold DrillRun.sample
  split
  · exact h.collarSample x
  · rename_i c _
    have moved : P → Engine.Bounded { d.engine with reference := some x.position, currentDepth := x.position - c } := h.engine
    have credited := h.setEngine _
      (fun k => (moved k).credit (sampleWork x (advanceForWork (d.engine.reference.getD c) x.position)))
      (Engine.credit_voidState _ _)
    simp only []
    split
    · exact credited.moveFront p _
    · exact credited

end DrillRun.Sound
end Sys2Proof.Machine

/-! PROOFS. What every operation of the part keeps or accounts for: the moves of the ports, the VOID statuses with their
offers, the parameters and the protection mode, sound profiles and bounded counts. One lemma for each operation. -/

namespace Sys2Proof.Machine

/-! ### Every right -/

/-- The 22 notice pairs (R166). -/
def allPairs : List NoticePair :=
  [Boom.A, Boom.B].flatMap (fun b => [.stage b, .permit b, .flow b, .extend b, .void b, .verdict b, .lane b, .report b,
    .countOver b]) ++ [.loader, .magazineLow, .row, .table]

theorem mem_allPairs (n : NoticePair) : n ∈ allPairs := by
  cases n with
  | loader | magazineLow | row | table => decide
  | stage b | permit b | flow b | extend b | void b | verdict b | lane b | report b | countOver b =>
    cases b <;> decide

/-- The right to everything that an operation does to the ports. -/
def PortRights.all : PortRights := ⟨allPairs, true, true⟩

/-! ### Offers -/

/-- A change of a status from `before` to `after` is offered: a rise is pending at every port, a fall at the ports in
ANY mode for its kind (R167). -/
def State.Offered (t : State) (n : NoticePair) (before after : Bool) : Prop :=
  ∀ p, (before = false → after = true → n ∈ (t.port p).pending) ∧
    (before = true → after = false → (t.port p).edges.mode n = .any → n ∈ (t.port p).pending)

theorem State.Offered.same (t : State) (n : NoticePair) (x : Bool) : t.Offered n x x := fun _ =>
  ⟨fun h k => absurd (h.symm.trans k) Bool.false_ne_true, fun h k => absurd (k.symm.trans h) Bool.false_ne_true⟩

/-- A pair that is pending stays so through every move of the ports. -/
theorem State.Offered.move {R : PortRights} {t u : State} {n : NoticePair} {x y : Bool} (h : t.Offered n x y)
    (k : t.PortsMove R u) : u.Offered n x y := fun p =>
  ⟨fun hx hy => k.pending ((h p).1 hx hy), fun hx hy any => k.pending ((h p).2 hx hy (by rwa [← k.edges p]))⟩

theorem State.Offered.trans {t : State} {n : NoticePair} {x y z : Bool} (h : t.Offered n x y) (k : t.Offered n y z) :
    t.Offered n x z := by
  cases y with
  | false =>
    cases x with
    | false => exact k
    | true => exact fun p => ⟨(nomatch ·), fun hx _ => (h p).2 hx rfl⟩
  | true =>
    cases x with
    | false => exact fun p => ⟨fun hx _ => (h p).1 hx rfl, fun hx => nomatch hx⟩
    | true => exact k

theorem State.offer_offered (s : State) (n : NoticePair) (x y : Bool) : (s.offer n y).Offered n x y := by
  have recorded : ∀ p, (y = true ∨ (s.port p).edges.mode n = .any) → n ∈ ((s.offer n y).port p).pending := by
    intro p mode
    rw [State.offer, State.port_mapPorts]
    simp [mode, mem_insertPair]
  have kept : ∀ p, ((s.offer n y).port p).edges = (s.port p).edges :=
    (State.PortsMove.offer (R := .all) (mem_allPairs n) s y).edges
  exact fun p => ⟨fun _ hy => recorded p (.inl hy), fun _ _ any => recorded p (.inr (by rwa [← kept p]))⟩

theorem State.offerChange_offered (s : State) (n : NoticePair) (x y : Bool) : (s.offerChange n x y).Offered n x y := by
  unfold State.offerChange
  split
  · rename_i same
    rw [same]
    exact .same s n y
  · exact s.offer_offered n x y

/-! ### Counts -/

/-- The bounds of what a receiver counts (R77, R80). -/
def Lane.Bounded (l : Lane) : Prop :=
  (l.faults ≤ 65535 ∧ l.reportValue ≤ 65535) ∧ l.windowCount < 64 ∧ l.windowTally ≤ 255

theorem State.countsBounded_iff (s : State) : s.CountsBounded ↔ s.backlog.length ≤ 8 ∧ s.loader.magazine ≤ 40 ∧
    (∀ b, (s.lane b).Bounded) ∧ (∀ b, (s.unit b).flushCount ≤ 10) ∧ ∀ b, (s.engine b).Bounded := by
  constructor
  · rintro ⟨backlog, magazine, faults, window, flush, engine, sums, seat, slip, peak⟩
    exact ⟨backlog, magazine, fun b => ⟨faults b, window b⟩, flush,
      fun b => ⟨engine b, sums b, seat b, slip b, peak b⟩⟩
  · rintro ⟨backlog, magazine, lane, flush, engine⟩
    refine ⟨backlog, magazine, fun b => (lane b).1, fun b => (lane b).2, flush, fun b => (engine b).1,
      fun b => (engine b).2.1, fun b => (engine b).2.2.1, fun b => (engine b).2.2.2.1, fun b => (engine b).2.2.2.2⟩

/-- The profile of an entry agrees with itself. -/
def Entry.ProfileAgrees (e : Entry) : Prop := ∀ r, e.result = some r → r.LayersAgree

/-! ### Regular changes -/

theorem State.OwnKept.trans {s t u : State} (h : s.OwnKept t) (k : t.OwnKept u) : s.OwnKept u := by
  obtain ⟨guard, supply, reset, reads, ticks, pending⟩ := h
  obtain ⟨guard', supply', reset', reads', ticks', pending'⟩ := k
  exact ⟨guard'.trans guard, supply'.trans supply, reset'.trans reset, reads'.trans reads, ticks'.trans ticks,
    pending'.trans pending⟩

/-- What a change by the part's operations keeps or accounts for. -/
structure State.Regular (s t : State) : Prop where
  ports : s.PortsMove .all t
  void : ∀ b, t.Offered (.void b) (s.engine b).voidState (t.engine b).voidState
  params : t.params = s.params
  protection : t.protection = s.protection
  own : s.OwnKept t
  profiles : s.ProfilesAgree → t.ProfilesAgree
  counts : s.CountsBounded → t.CountsBounded

namespace State.Regular

theorem refl (s : State) : s.Regular s :=
  ⟨.refl _ s, fun _ => .same s _ _, rfl, rfl, ⟨rfl, rfl, rfl, rfl, rfl, rfl⟩, id, id⟩

theorem trans {s t u : State} (h : s.Regular t) (k : t.Regular u) : s.Regular u where
  ports := h.ports.trans k.ports
  void b := ((h.void b).move k.ports).trans (k.void b)
  params := k.params.trans h.params
  protection := k.protection.trans h.protection
  own := h.own.trans k.own
  profiles p := k.profiles (h.profiles p)
  counts p := k.counts (h.counts p)

/-- The counts look at the backlog, the loader, the lanes, the units and the engines only. -/
theorem counts_congr {s t : State} (h : s.CountsBounded) (k : t = { t with backlog := s.backlog, loader := s.loader, lanes := s.lanes, units := s.units, engines := s.engines }) :
    t.CountsBounded := by
  rw [State.countsBounded_iff] at h
  rw [k, State.countsBounded_iff]
  exact h

/-- A change of the arbiter, the rows and the ports. -/
theorem beside {s t : State} (ports : s.PortsMove .all t)
    (h : ∃ r a p, t = { s with rows := r, arbiter := a, ports := p }) : s.Regular t := by
  obtain ⟨r, a, p, rfl⟩ := h
  exact ⟨ports, fun _ => .same _ _ _, rfl, rfl, ⟨rfl, rfl, rfl, rfl, rfl, rfl⟩, id, fun h => counts_congr h rfl⟩

/-! #### Blocks -/

theorem flow {s t : State} (ports : s.PortsMove .all t) (h : ∃ a p, t = { s with arbiter := a, ports := p }) :
    s.Regular t := by
  obtain ⟨a, p, e⟩ := h
  exact .beside ports ⟨s.rows, a, p, e⟩

theorem post (s : State) (n : NoticePair) : s.Regular (s.post n) := .flow (.post (mem_allPairs n) s) ⟨_, _, rfl⟩

theorem setArbiter (s : State) (a : Arbiter) : s.Regular (s.setArbiter a) :=
  .flow ((PortsMove.refl _ s).blocks rfl rfl) ⟨_, _, rfl⟩

theorem setRows (s : State) (r : List RowRecord) : s.Regular (s.setRows r) :=
  .beside ((PortsMove.refl _ s).blocks rfl rfl) ⟨_, _, _, rfl⟩

theorem setLoader (s : State) (l : Loader) (h : l.magazine ≤ s.loader.magazine) : s.Regular (s.setLoader l) where
  ports := (PortsMove.refl _ s).blocks rfl rfl
  void _ := .same _ _ _
  params := rfl
  protection := rfl
  own := ⟨rfl, rfl, rfl, rfl, rfl, rfl⟩
  profiles p := p
  counts k := by
    rw [State.countsBounded_iff] at k ⊢
    obtain ⟨backlog, magazine, rest⟩ := k
    exact ⟨backlog, h.trans magazine, rest⟩

theorem setUnit (s : State) (b : Boom) (u : BoomUnit) (h : (s.unit b).flushCount ≤ 10 → u.flushCount ≤ 10) :
    s.Regular (s.setUnit b u) where
  ports := ((PortsMove.refl _ s).blocks (by rfl) (by rfl))
  void _ := .same _ _ _
  params := rfl
  protection := rfl
  own := ⟨rfl, rfl, rfl, rfl, rfl, rfl⟩
  profiles p := p
  counts k := by
    rw [State.countsBounded_iff] at k ⊢
    obtain ⟨backlog, magazine, lanes, flush, engines⟩ := k
    refine ⟨backlog, magazine, lanes, fun c => ?_, engines⟩
    rw [State.unit_setUnit]
    split
    · exact h (flush b)
    · exact flush c

theorem modUnit (s : State) (b : Boom) (f : BoomUnit → BoomUnit)
    (h : (s.unit b).flushCount ≤ 10 → (f (s.unit b)).flushCount ≤ 10) : s.Regular (s.modUnit b f) :=
  .setUnit s b _ h

theorem setLane (s : State) (b : Boom) (l : Lane) (h : (s.lane b).Bounded → l.Bounded) : s.Regular (s.setLane b l) where
  ports := ((PortsMove.refl _ s).blocks (by rfl) (by rfl))
  void _ := .same _ _ _
  params := rfl
  protection := rfl
  own := ⟨rfl, rfl, rfl, rfl, rfl, rfl⟩
  profiles p := p
  counts k := by
    rw [State.countsBounded_iff] at k ⊢
    obtain ⟨backlog, magazine, lanes, flush, engines⟩ := k
    refine ⟨backlog, magazine, fun c => ?_, flush, engines⟩
    rw [State.lane_setLane]
    split
    · exact h (lanes b)
    · exact lanes c

/-- The counts with the engine of one boom replaced. -/
theorem counts_setEngine {s : State} (k : s.CountsBounded) {b : Boom} {e : Engine} (h : e.Bounded) :
    (s.setEngine b e).CountsBounded := by
  rw [State.countsBounded_iff] at k ⊢
  obtain ⟨backlog, magazine, lanes, flush, engines⟩ := k
  refine ⟨backlog, magazine, lanes, flush, fun c => ?_⟩
  rw [State.engine_setEngine]
  split
  · exact h
  · exact engines c

theorem engine_bounded {s : State} (k : s.CountsBounded) (b : Boom) : (s.engine b).Bounded :=
  ((State.countsBounded_iff s).1 k).2.2.2.2 b

theorem setEngine (s : State) (b : Boom) (e : Engine) (h : (s.engine b).Bounded → e.Bounded)
    (hv : e.voidState = (s.engine b).voidState) : s.Regular (s.setEngine b e) where
  ports := ((PortsMove.refl _ s).blocks (by rfl) (by rfl))
  void c := by
    rw [State.engine_setEngine]
    split
    · rename_i own
      rw [own, hv]
      exact .same _ _ _
    · exact .same _ _ _
  params := rfl
  protection := rfl
  own := ⟨rfl, rfl, rfl, rfl, rfl, rfl⟩
  profiles p := p
  counts k := counts_setEngine k (h (engine_bounded k b))

end State.Regular
end Sys2Proof.Machine

/-! PROOFS. The regular changes, operation by operation (`State.Regular`). -/

namespace Sys2Proof.Machine

theorem Entry.ProfileAgrees.congr {e f : Entry} (h : e.ProfileAgrees) (k : f.result = e.result) :
    f.ProfileAgrees := fun _ hr => h _ (k ▸ hr)

theorem Entry.profileAgrees_none {e : Entry} (h : e.result = none) : e.ProfileAgrees := fun _ hr =>
  absurd (h.symm.trans hr) nofun

/-- A change of the result part that leaves the profile as it was. -/
theorem Entry.ProfileAgrees.map {e f : Entry} {g : Result → Result} (h : e.ProfileAgrees)
    (hg : ∀ r : Result, r.LayersAgree → (g r).LayersAgree) (k : f.result = e.result.map g) :
    f.ProfileAgrees := by
  intro r hr
  rw [k, Option.map_eq_some_iff] at hr
  obtain ⟨r', hr', rfl⟩ := hr
  exact hg r' (h r' hr')

theorem newResult_layersAgree (target : Nat) : (newResult target).LayersAgree :=
  ⟨Nat.zero_le 8, fun k x hx => absurd (Option.mem_def.1 hx) (by simp [newResult]), rfl, rfl⟩

namespace State.Regular

variable {b : Boom}

/-! ### Table -/

theorem setEntry (s : State) (i : Slot) (e : Option Entry)
    (h : s.ProfilesAgree → ∀ f, e = some f → f.ProfileAgrees) : s.Regular (s.setEntry i e) where
  ports := ((PortsMove.refl _ s).blocks (by rfl) (by rfl))
  void _ := .same _ _ _
  params := rfl
  protection := rfl
  own := ⟨rfl, rfl, rfl, rfl, rfl, rfl⟩
  profiles p j f r hj hr := by
    rw [State.entry_setEntry] at hj
    split at hj
    · exact h p f hj r hr
    · exact p j f r hj hr
  counts k := (State.countsBounded_iff _).2 ((State.countsBounded_iff s).1 k)

theorem modEntry (s : State) (i : Slot) (f : Entry → Entry) (h : ∀ e : Entry, e.ProfileAgrees → (f e).ProfileAgrees) :
    s.Regular (s.modEntry i f) := by
  unfold State.modEntry
  split
  · rename_i e hi
    refine .setEntry s i _ fun p g hg => ?_
    obtain rfl := Option.some.inj hg
    exact h e fun r hr => p i e r hi hr
  · exact .refl s

theorem updateClaimed (s : State) (b : Boom) (f : Entry → Entry) (h : ∀ e : Entry, e.ProfileAgrees → (f e).ProfileAgrees) :
    s.Regular (s.updateClaimed b f) := by
  cases hc : s.claimedEntry b with
  | none =>
    rw [State.updateClaimed_none hc]
    exact .refl s
  | some x =>
    obtain ⟨i, e⟩ := x
    obtain ⟨_, _, hi⟩ := State.claimedEntry_eq_some.1 hc
    rw [State.updateClaimed_some hc]
    refine .setEntry s i _ fun p g hg => ?_
    obtain rfl := Option.some.inj hg
    exact h e fun r hr => p i e r hi hr

theorem updateResult (s : State) (b : Boom) (f : Result → Result)
    (h : ∀ r : Result, r.SameProfile (f r)) : s.Regular (s.updateResult b f) :=
  .updateClaimed s b _ fun _ k => k.map (fun r q => q.congr (h r)) rfl

theorem writeDrilledDepth (s : State) (b : Boom) : s.Regular (s.writeDrilledDepth b) := .updateResult s b _ (by exact fun _ => ⟨rfl, rfl, rfl⟩)

theorem closingCheck (s : State) (id : Byte) : s.Regular (s.closingCheck id) := by
  have ports := State.PortsMove.closingCheck (R := .all) (mem_allPairs _) s id
  rw [State.closingCheck_frame] at ports ⊢
  exact .beside ports ⟨_, _, _, rfl⟩

theorem returnEntry (s : State) (i : Slot) : s.Regular (s.returnEntry i) := by
  unfold State.returnEntry
  split
  · refine .trans (.setEntry s i _ fun _ f hf => ?_) (.closingCheck _ _)
    obtain rfl := Option.some.inj hf
    exact Entry.profileAgrees_none rfl
  · exact .refl s

theorem mapPorts {s : State} {f : PortState → PortState} (h : s.PortsMove .all (s.mapPorts f)) :
    s.Regular (s.mapPorts f) := .flow h ⟨_, _, rfl⟩

theorem slotWritten (s : State) (i : Slot) : s.Regular (s.mapPorts (PortState.slotWritten i)) :=
  .mapPorts (.map fun q => .single (.written q i rfl))

theorem slotEmptied (s : State) (i : Slot) : s.Regular (s.mapPorts (PortState.slotEmptied i)) :=
  .mapPorts (.map fun q => .single (.emptied q i rfl))

theorem writeSlot (s : State) (i : Slot) {e : Entry} (h : e.result = none) : s.Regular (s.writeSlot i e) := by
  have written : s.Regular (((s.setEntry i (some e)).modRow e.row fun r => { r with entries := r.entries + 1 }).mapPorts
      (PortState.slotWritten i)) := by
    refine .trans (.trans (.setEntry s i _ fun _ f hf => ?_) (.setRows _ _)) (.slotWritten _ i)
    obtain rfl := Option.some.inj hf
    exact Entry.profileAgrees_none h
  unfold State.writeSlot
  simp only []
  split
  · exact written.trans (.post _ _)
  · exact written

theorem emptySlot (s : State) (i : Slot) : s.Regular (s.emptySlot i) := by
  unfold State.emptySlot
  split
  · exact .trans (.trans (.setEntry s i none fun _ _ hf => absurd hf nofun) (.setRows _ _)) (.slotEmptied _ i)
  · exact .refl s

theorem writeSupplement (s : State) (i : Slot) : s.Regular (s.writeSupplement i) := by
  unfold State.writeSupplement
  split
  · exact .writeSlot s _ rfl
  · exact .refl s

theorem setBacklog (s : State) (l : List Slot) (h : s.backlog.length ≤ 8 → l.length ≤ 8) : s.Regular (s.setBacklog l) where
  ports := ((PortsMove.refl _ s).blocks (by rfl) (by rfl))
  void _ := .same _ _ _
  params := rfl
  protection := rfl
  own := ⟨rfl, rfl, rfl, rfl, rfl, rfl⟩
  profiles p := p
  counts k := by
    rw [State.countsBounded_iff] at k ⊢
    obtain ⟨backlog, rest⟩ := k
    exact ⟨h backlog, rest⟩

theorem markResult {f : Result → Result} (h : ∀ r : Result, r.SameProfile (f r)) (s : State) (i : Slot) :
    s.Regular (s.modEntry i fun e => e.markResult f) :=
  .modEntry s i _ fun _ k => k.map (fun r q => q.congr (h r)) rfl

theorem markLost (s : State) (i : Slot) : s.Regular (s.modEntry i Entry.markLost) :=
  .markResult (f := fun r => { r with supplementLost := true }) (fun _ => ⟨rfl, rfl, rfl⟩) s i

theorem handleSupplement (s : State) (i : Slot) : s.Regular (s.handleSupplement i) := by
  unfold State.handleSupplement
  split
  · split
    · exact .trans (.markResult (f := fun r => { r with refer := true }) (fun _ => ⟨rfl, rfl, rfl⟩) s i) (.post _ _)
    · split
      · split
        · rename_i room
          refine .trans (.setBacklog s _ fun _ => ?_) (.post _ _)
          rw [List.length_append]
          exact room
        · exact .trans (.markLost s i) (.post _ _)
      · exact .writeSupplement s i
  · exact .refl s

theorem drain (n : Nat) (s : State) : s.Regular (s.drain n) := by
  induction n generalizing s with
  | zero => exact .refl s
  | succ n ih =>
    unfold State.drain
    split
    · exact .refl s
    · rename_i i rest waiting
      have taken : s.Regular (s.setBacklog rest) := .setBacklog s rest fun h => by
        rw [waiting, List.length_cons] at h
        exact Nat.le_of_succ_le h
      split
      · exact .refl s
      · split
        · exact .trans (.trans (.trans taken (.writeSupplement _ i)) (.closingCheck _ _)) (ih _)
        · exact taken.trans (ih _)

theorem drainBacklog (s : State) : s.Regular s.drainBacklog := .drain _ s

theorem tableVerdict (s : State) (i : Slot) (v : VerdictReason) : s.Regular (s.tableVerdict i v) := by
  unfold State.tableVerdict
  split
  · rename_i e hi
    have given : s.Regular ((s.setEntry i (some (e.withVerdict v))).modRow e.row fun r => r.withVerdict v.final) := by
      refine .trans (.setEntry s i _ fun p f hf => ?_) (.setRows _ _)
      obtain rfl := Option.some.inj hf
      exact Entry.ProfileAgrees.map (g := fun r => { r with verdict := some v }) (fun r hr => p i e r hi hr) (fun _ k => k.congr ⟨rfl, rfl, rfl⟩) rfl
    refine .trans ?_ (.closingCheck _ _)
    split
    · exact given.trans (.handleSupplement _ i)
    · exact given
  · exact .refl s

theorem fold {α : Type} {f : State → α → State} (h : ∀ (s : State) x, s.Regular (f s x)) (l : List α) (s : State) :
    s.Regular (l.foldl f s) := by
  induction l generalizing s with
  | nil => exact .refl s
  | cons x rest ih => exact (h s x).trans (ih _)

/-! ### Flow and loader -/

theorem requestFlow (s : State) (r : FlowRequest) : s.Regular (s.requestFlow r) :=
  .flow (.requestFlow (mem_allPairs _) (fun _ => mem_allPairs _) s) (State.requestFlow_frame s r)

theorem servicePass (s : State) : s.Regular s.servicePass :=
  .flow (.servicePass (fun _ => mem_allPairs _) s) (State.servicePass_frame s)

theorem releaseFlow (s : State) (b : Boom) : s.Regular (s.releaseFlow b) :=
  .flow (.releaseFlow (fun _ => mem_allPairs _) s b) (State.releaseFlow_frame s b)

theorem setCycle (s : State) (b : Boom) (c : CycleState) : s.Regular (s.setCycle b c) :=
  .trans (.modUnit s b _ (by exact id)) (.post _ _)

theorem grantLoader (s : State) (b : Boom) : s.Regular (s.grantLoader b) := .trans (.setLoader s _ (by exact le_refl _)) (.setCycle _ b _)

theorem serveLoader (s : State) : s.Regular s.serveLoader := by
  unfold State.serveLoader
  split
  · exact .setLoader s _ (by exact le_refl _)
  · exact .trans (.setLoader s _ (by exact le_refl _)) (.grantLoader _ _)

theorem requestLoader (s : State) (b : Boom) : s.Regular (s.requestLoader b) := by
  unfold State.requestLoader
  split
  · exact .grantLoader s b
  · exact .setLoader s _ (by exact le_refl _)

theorem endGrant (s : State) : s.Regular s.endGrant := .setLoader s _ (by exact le_refl _)

theorem cancelLoader (s : State) (b : Boom) : s.Regular (s.cancelLoader b) := by
  unfold State.cancelLoader
  simp only []
  have left : s.Regular (s.setLoader { s.loader with queue := s.loader.queue.filter fun x => x != b }) := .setLoader s _ (by exact le_refl _)
  split
  · split
    · exact left.trans (.setLoader _ _ (by exact le_refl _))
    · exact left.trans (.setLoader _ _ (by exact le_refl _))
    · exact left.trans (.trans (.endGrant _) (.serveLoader _))
  · exact left

theorem fireLoader (s : State) : s.Regular s.fireLoader := by
  unfold State.fireLoader
  split <;> exact .setLoader s _ (by exact le_refl _)

theorem spendCartridge (s : State) : s.Regular s.spendCartridge := .setLoader s _ (Nat.sub_le _ _)

/-! ### Booms -/

theorem boomVerdict (s : State) (b : Boom) (v : VerdictReason) (c : CycleState) : s.Regular (s.boomVerdict b v c) := by
  unfold State.boomVerdict
  split
  · exact .trans (.trans (.trans (.trans (.trans (.tableVerdict s _ v) (.modUnit _ b _ (by exact id))) (.releaseFlow _ b))
      (.cancelLoader _ b)) (.post _ _)) (.setCycle _ b c)
  · exact .refl s

theorem requestStage (s : State) (b : Boom) (x : FlowStage) : s.Regular (s.requestStage b x) := by
  unfold State.requestStage
  split
  · exact .refl s
  · exact .requestFlow s _

theorem leaveStage (s : State) (b : Boom) (c : CycleState) : s.Regular (s.leaveStage b c) :=
  .trans (.setCycle s b c) (.releaseFlow _ b)

theorem enterTorquing (s : State) (b : Boom) : s.Regular (s.enterTorquing b) :=
  .trans (.setCycle s b _) (.requestStage _ b _)

theorem spinComplete (s : State) (b : Boom) : s.Regular (s.spinComplete b) := by
  unfold State.spinComplete
  simp only []
  split
  · exact .trans (.trans (.leaveStage s b _) (.modUnit _ b _ (by exact id))) (.enterTorquing _ b)
  · exact .trans (.leaveStage s b _) (.modUnit _ b _ (by exact id))

theorem noteRun (s : State) (b : Boom) : s.Regular ((s.writeDrilledDepth b).setEngine b (s.engine b).dropRun) := by
  have engine : (s.writeDrilledDepth b).engine b = s.engine b := by
    simp only [State.writeDrilledDepth, State.updateResult, State.updateClaimed]
    split <;> rfl
  refine .trans (.writeDrilledDepth s b) ?_
  rw [← engine]
  exact .setEngine _ b _ Engine.Bounded.dropRun rfl

theorem endDrilling (s : State) (b : Boom) : s.Regular (s.endDrilling b) :=
  .trans (.trans (.noteRun s b) (.updateClaimed _ b _ (by exact fun _ k => k.congr rfl))) (.leaveStage _ b _)

theorem rejectDrilling (s : State) (b : Boom) (v : VerdictReason) : s.Regular (s.rejectDrilling b v) := by
  unfold State.rejectDrilling
  split
  · exact .endDrilling s b
  · exact .trans (.noteRun s b) (.boomVerdict _ b v _)

/-! ### Actions -/

theorem syncBoom (s : State) (b : Boom) : s.Regular (s.syncBoom b) := by
  have followed : s.Regular (s.setUnit b ((s.unit b).follow (s.holdConditions b) s.isHeld)) := .setUnit s b _ id
  unfold State.syncBoom
  simp only []
  split
  · exact followed.trans (.setEngine _ b _ Engine.Bounded.dropTorqueRun rfl)
  · exact followed

theorem sync (s : State) : s.Regular s.sync := .trans (.syncBoom s .A) (.syncBoom _ .B)

theorem offersSince (s u : State) : s.Regular (s.offersSince u) := by
  have ports : s.PortsMove .all (s.offersSince u) := .offersSince (fun _ _ => mem_allPairs _) (fun _ _ => mem_allPairs _)
    (fun _ => mem_allPairs _) (fun _ => mem_allPairs _)
  obtain ⟨p, h⟩ := State.offersSince_frame s u
  rw [h] at ports ⊢
  exact .flow ports ⟨_, _, rfl⟩

theorem acting {s : State} {f : State → State} (h : s.Regular (f s)) : s.Regular (s.acting f) :=
  h.trans (.trans (.sync _) (.offersSince _ s))

end State.Regular
end Sys2Proof.Machine

/-! PROOFS. Which blocks of the part each shared operation leaves as they were (the frame lemmas of Laws/Operations, block
by block, for `simp`). -/

namespace Sys2Proof.Machine

theorem State.updateClaimed_frame (s : State) (b : Boom) (f : Entry → Entry) :
    ∃ x, s.updateClaimed b f = { s with slots := x } := by
  unfold State.updateClaimed
  split
  · exact ⟨_, rfl⟩
  · exact ⟨s.slots, rfl⟩

theorem State.updateResult_frame (s : State) (b : Boom) (f : Result → Result) :
    ∃ x, s.updateResult b f = { s with slots := x } := s.updateClaimed_frame b _

theorem State.requestStage_frame (s : State) (b : Boom) (x : FlowStage) :
    ∃ a p, s.requestStage b x = { s with arbiter := a, ports := p } := by
  unfold State.requestStage
  split
  · exact ⟨s.arbiter, s.ports, rfl⟩
  · exact s.requestFlow_frame _

theorem State.returnEntry_frame (s : State) (i : Slot) :
    ∃ x r p, s.returnEntry i = { s with slots := x, rows := r, ports := p } := by
  unfold State.returnEntry
  split
  · rw [State.closingCheck_frame]
    exact ⟨_, _, _, rfl⟩
  · exact ⟨s.slots, s.rows, s.ports, rfl⟩


@[simp] theorem State.modEntry_rows (s : State) (i : Slot) (f : Entry → Entry) : (s.modEntry i f).rows = s.rows := by
  obtain ⟨_, h⟩ := s.modEntry_frame i f
  rw [h]

@[simp] theorem State.modEntry_backlog (s : State) (i : Slot) (f : Entry → Entry) :
    (s.modEntry i f).backlog = s.backlog := by
  obtain ⟨_, h⟩ := s.modEntry_frame i f
  rw [h]

@[simp] theorem State.modEntry_units (s : State) (i : Slot) (f : Entry → Entry) :
    (s.modEntry i f).units = s.units := by
  obtain ⟨_, h⟩ := s.modEntry_frame i f
  rw [h]

@[simp] theorem State.unit_modEntry (s : State) (i : Slot) (f : Entry → Entry) (c : Boom) :
    (s.modEntry i f).unit c = s.unit c := by
  rw [State.unit, State.modEntry_units, State.unit]

@[simp] theorem State.modEntry_lanes (s : State) (i : Slot) (f : Entry → Entry) :
    (s.modEntry i f).lanes = s.lanes := by
  obtain ⟨_, h⟩ := s.modEntry_frame i f
  rw [h]

@[simp] theorem State.lane_modEntry (s : State) (i : Slot) (f : Entry → Entry) (c : Boom) :
    (s.modEntry i f).lane c = s.lane c := by
  rw [State.lane, State.modEntry_lanes, State.lane]

@[simp] theorem State.modEntry_engines (s : State) (i : Slot) (f : Entry → Entry) :
    (s.modEntry i f).engines = s.engines := by
  obtain ⟨_, h⟩ := s.modEntry_frame i f
  rw [h]

@[simp] theorem State.engine_modEntry (s : State) (i : Slot) (f : Entry → Entry) (c : Boom) :
    (s.modEntry i f).engine c = s.engine c := by
  rw [State.engine, State.modEntry_engines, State.engine]

@[simp] theorem State.modEntry_loader (s : State) (i : Slot) (f : Entry → Entry) :
    (s.modEntry i f).loader = s.loader := by
  obtain ⟨_, h⟩ := s.modEntry_frame i f
  rw [h]

@[simp] theorem State.modEntry_arbiter (s : State) (i : Slot) (f : Entry → Entry) :
    (s.modEntry i f).arbiter = s.arbiter := by
  obtain ⟨_, h⟩ := s.modEntry_frame i f
  rw [h]

@[simp] theorem State.updateClaimed_rows (s : State) (b : Boom) (f : Entry → Entry) :
    (s.updateClaimed b f).rows = s.rows := by
  obtain ⟨_, h⟩ := s.updateClaimed_frame b f
  rw [h]

@[simp] theorem State.updateClaimed_backlog (s : State) (b : Boom) (f : Entry → Entry) :
    (s.updateClaimed b f).backlog = s.backlog := by
  obtain ⟨_, h⟩ := s.updateClaimed_frame b f
  rw [h]

@[simp] theorem State.updateClaimed_units (s : State) (b : Boom) (f : Entry → Entry) :
    (s.updateClaimed b f).units = s.units := by
  obtain ⟨_, h⟩ := s.updateClaimed_frame b f
  rw [h]

@[simp] theorem State.unit_updateClaimed (s : State) (b : Boom) (f : Entry → Entry) (c : Boom) :
    (s.updateClaimed b f).unit c = s.unit c := by
  rw [State.unit, State.updateClaimed_units, State.unit]

@[simp] theorem State.updateClaimed_lanes (s : State) (b : Boom) (f : Entry → Entry) :
    (s.updateClaimed b f).lanes = s.lanes := by
  obtain ⟨_, h⟩ := s.updateClaimed_frame b f
  rw [h]

@[simp] theorem State.lane_updateClaimed (s : State) (b : Boom) (f : Entry → Entry) (c : Boom) :
    (s.updateClaimed b f).lane c = s.lane c := by
  rw [State.lane, State.updateClaimed_lanes, State.lane]

@[simp] theorem State.updateClaimed_engines (s : State) (b : Boom) (f : Entry → Entry) :
    (s.updateClaimed b f).engines = s.engines := by
  obtain ⟨_, h⟩ := s.updateClaimed_frame b f
  rw [h]

@[simp] theorem State.engine_updateClaimed (s : State) (b : Boom) (f : Entry → Entry) (c : Boom) :
    (s.updateClaimed b f).engine c = s.engine c := by
  rw [State.engine, State.updateClaimed_engines, State.engine]

@[simp] theorem State.updateClaimed_loader (s : State) (b : Boom) (f : Entry → Entry) :
    (s.updateClaimed b f).loader = s.loader := by
  obtain ⟨_, h⟩ := s.updateClaimed_frame b f
  rw [h]

@[simp] theorem State.updateClaimed_arbiter (s : State) (b : Boom) (f : Entry → Entry) :
    (s.updateClaimed b f).arbiter = s.arbiter := by
  obtain ⟨_, h⟩ := s.updateClaimed_frame b f
  rw [h]

@[simp] theorem State.updateResult_rows (s : State) (b : Boom) (f : Result → Result) :
    (s.updateResult b f).rows = s.rows := by
  obtain ⟨_, h⟩ := s.updateResult_frame b f
  rw [h]

@[simp] theorem State.updateResult_backlog (s : State) (b : Boom) (f : Result → Result) :
    (s.updateResult b f).backlog = s.backlog := by
  obtain ⟨_, h⟩ := s.updateResult_frame b f
  rw [h]

@[simp] theorem State.updateResult_units (s : State) (b : Boom) (f : Result → Result) :
    (s.updateResult b f).units = s.units := by
  obtain ⟨_, h⟩ := s.updateResult_frame b f
  rw [h]

@[simp] theorem State.unit_updateResult (s : State) (b : Boom) (f : Result → Result) (c : Boom) :
    (s.updateResult b f).unit c = s.unit c := by
  rw [State.unit, State.updateResult_units, State.unit]

@[simp] theorem State.updateResult_lanes (s : State) (b : Boom) (f : Result → Result) :
    (s.updateResult b f).lanes = s.lanes := by
  obtain ⟨_, h⟩ := s.updateResult_frame b f
  rw [h]

@[simp] theorem State.lane_updateResult (s : State) (b : Boom) (f : Result → Result) (c : Boom) :
    (s.updateResult b f).lane c = s.lane c := by
  rw [State.lane, State.updateResult_lanes, State.lane]

@[simp] theorem State.updateResult_engines (s : State) (b : Boom) (f : Result → Result) :
    (s.updateResult b f).engines = s.engines := by
  obtain ⟨_, h⟩ := s.updateResult_frame b f
  rw [h]

@[simp] theorem State.engine_updateResult (s : State) (b : Boom) (f : Result → Result) (c : Boom) :
    (s.updateResult b f).engine c = s.engine c := by
  rw [State.engine, State.updateResult_engines, State.engine]

@[simp] theorem State.updateResult_loader (s : State) (b : Boom) (f : Result → Result) :
    (s.updateResult b f).loader = s.loader := by
  obtain ⟨_, h⟩ := s.updateResult_frame b f
  rw [h]

@[simp] theorem State.updateResult_arbiter (s : State) (b : Boom) (f : Result → Result) :
    (s.updateResult b f).arbiter = s.arbiter := by
  obtain ⟨_, h⟩ := s.updateResult_frame b f
  rw [h]

@[simp] theorem State.modUnit_slots (s : State) (b : Boom) (f : BoomUnit → BoomUnit) :
    (s.modUnit b f).slots = s.slots := by
  rfl

@[simp] theorem State.entry_modUnit (s : State) (b : Boom) (f : BoomUnit → BoomUnit) (j : Slot) :
    (s.modUnit b f).entry j = s.entry j := by
  rw [State.entry, State.modUnit_slots, State.entry]

@[simp] theorem State.modUnit_rows (s : State) (b : Boom) (f : BoomUnit → BoomUnit) :
    (s.modUnit b f).rows = s.rows := by
  rfl

@[simp] theorem State.modUnit_backlog (s : State) (b : Boom) (f : BoomUnit → BoomUnit) :
    (s.modUnit b f).backlog = s.backlog := by
  rfl

@[simp] theorem State.modUnit_lanes (s : State) (b : Boom) (f : BoomUnit → BoomUnit) :
    (s.modUnit b f).lanes = s.lanes := by
  rfl

@[simp] theorem State.lane_modUnit (s : State) (b : Boom) (f : BoomUnit → BoomUnit) (c : Boom) :
    (s.modUnit b f).lane c = s.lane c := by
  rw [State.lane, State.modUnit_lanes, State.lane]

@[simp] theorem State.modUnit_engines (s : State) (b : Boom) (f : BoomUnit → BoomUnit) :
    (s.modUnit b f).engines = s.engines := by
  rfl

@[simp] theorem State.engine_modUnit (s : State) (b : Boom) (f : BoomUnit → BoomUnit) (c : Boom) :
    (s.modUnit b f).engine c = s.engine c := by
  rw [State.engine, State.modUnit_engines, State.engine]

@[simp] theorem State.modUnit_loader (s : State) (b : Boom) (f : BoomUnit → BoomUnit) :
    (s.modUnit b f).loader = s.loader := by
  rfl

@[simp] theorem State.modUnit_arbiter (s : State) (b : Boom) (f : BoomUnit → BoomUnit) :
    (s.modUnit b f).arbiter = s.arbiter := by
  rfl

@[simp] theorem State.setCycle_slots (s : State) (b : Boom) (x : CycleState) : (s.setCycle b x).slots = s.slots := by
  rfl

@[simp] theorem State.entry_setCycle (s : State) (b : Boom) (x : CycleState) (j : Slot) :
    (s.setCycle b x).entry j = s.entry j := by
  rw [State.entry, State.setCycle_slots, State.entry]

@[simp] theorem State.setCycle_rows (s : State) (b : Boom) (x : CycleState) : (s.setCycle b x).rows = s.rows := by
  rfl

@[simp] theorem State.setCycle_backlog (s : State) (b : Boom) (x : CycleState) :
    (s.setCycle b x).backlog = s.backlog := by
  rfl

@[simp] theorem State.setCycle_lanes (s : State) (b : Boom) (x : CycleState) : (s.setCycle b x).lanes = s.lanes := by
  rfl

@[simp] theorem State.lane_setCycle (s : State) (b : Boom) (x : CycleState) (c : Boom) :
    (s.setCycle b x).lane c = s.lane c := by
  rw [State.lane, State.setCycle_lanes, State.lane]

@[simp] theorem State.setCycle_engines (s : State) (b : Boom) (x : CycleState) :
    (s.setCycle b x).engines = s.engines := by
  rfl

@[simp] theorem State.engine_setCycle (s : State) (b : Boom) (x : CycleState) (c : Boom) :
    (s.setCycle b x).engine c = s.engine c := by
  rw [State.engine, State.setCycle_engines, State.engine]

@[simp] theorem State.setCycle_loader (s : State) (b : Boom) (x : CycleState) :
    (s.setCycle b x).loader = s.loader := by
  rfl

@[simp] theorem State.setCycle_arbiter (s : State) (b : Boom) (x : CycleState) :
    (s.setCycle b x).arbiter = s.arbiter := by
  rfl

@[simp] theorem State.closingCheck_slots (s : State) (id : Byte) : (s.closingCheck id).slots = s.slots := by
  rw [State.closingCheck_frame]

@[simp] theorem State.entry_closingCheck (s : State) (id : Byte) (j : Slot) :
    (s.closingCheck id).entry j = s.entry j := by
  rw [State.entry, State.closingCheck_slots, State.entry]

@[simp] theorem State.closingCheck_backlog (s : State) (id : Byte) : (s.closingCheck id).backlog = s.backlog := by
  rw [State.closingCheck_frame]

@[simp] theorem State.closingCheck_units (s : State) (id : Byte) : (s.closingCheck id).units = s.units := by
  rw [State.closingCheck_frame]

@[simp] theorem State.unit_closingCheck (s : State) (id : Byte) (c : Boom) :
    (s.closingCheck id).unit c = s.unit c := by
  rw [State.unit, State.closingCheck_units, State.unit]

@[simp] theorem State.closingCheck_lanes (s : State) (id : Byte) : (s.closingCheck id).lanes = s.lanes := by
  rw [State.closingCheck_frame]

@[simp] theorem State.lane_closingCheck (s : State) (id : Byte) (c : Boom) :
    (s.closingCheck id).lane c = s.lane c := by
  rw [State.lane, State.closingCheck_lanes, State.lane]

@[simp] theorem State.closingCheck_engines (s : State) (id : Byte) : (s.closingCheck id).engines = s.engines := by
  rw [State.closingCheck_frame]

@[simp] theorem State.engine_closingCheck (s : State) (id : Byte) (c : Boom) :
    (s.closingCheck id).engine c = s.engine c := by
  rw [State.engine, State.closingCheck_engines, State.engine]

@[simp] theorem State.closingCheck_loader (s : State) (id : Byte) : (s.closingCheck id).loader = s.loader := by
  rw [State.closingCheck_frame]

@[simp] theorem State.closingCheck_arbiter (s : State) (id : Byte) : (s.closingCheck id).arbiter = s.arbiter := by
  rw [State.closingCheck_frame]

@[simp] theorem State.returnEntry_backlog (s : State) (i : Slot) : (s.returnEntry i).backlog = s.backlog := by
  obtain ⟨_, _, _, h⟩ := s.returnEntry_frame i
  rw [h]

@[simp] theorem State.returnEntry_units (s : State) (i : Slot) : (s.returnEntry i).units = s.units := by
  obtain ⟨_, _, _, h⟩ := s.returnEntry_frame i
  rw [h]

@[simp] theorem State.unit_returnEntry (s : State) (i : Slot) (c : Boom) :
    (s.returnEntry i).unit c = s.unit c := by
  rw [State.unit, State.returnEntry_units, State.unit]

@[simp] theorem State.returnEntry_lanes (s : State) (i : Slot) : (s.returnEntry i).lanes = s.lanes := by
  obtain ⟨_, _, _, h⟩ := s.returnEntry_frame i
  rw [h]

@[simp] theorem State.lane_returnEntry (s : State) (i : Slot) (c : Boom) :
    (s.returnEntry i).lane c = s.lane c := by
  rw [State.lane, State.returnEntry_lanes, State.lane]

@[simp] theorem State.returnEntry_engines (s : State) (i : Slot) : (s.returnEntry i).engines = s.engines := by
  obtain ⟨_, _, _, h⟩ := s.returnEntry_frame i
  rw [h]

@[simp] theorem State.engine_returnEntry (s : State) (i : Slot) (c : Boom) :
    (s.returnEntry i).engine c = s.engine c := by
  rw [State.engine, State.returnEntry_engines, State.engine]

@[simp] theorem State.returnEntry_loader (s : State) (i : Slot) : (s.returnEntry i).loader = s.loader := by
  obtain ⟨_, _, _, h⟩ := s.returnEntry_frame i
  rw [h]

@[simp] theorem State.returnEntry_arbiter (s : State) (i : Slot) : (s.returnEntry i).arbiter = s.arbiter := by
  obtain ⟨_, _, _, h⟩ := s.returnEntry_frame i
  rw [h]

@[simp] theorem State.tableVerdict_units (s : State) (i : Slot) (v : VerdictReason) :
    (s.tableVerdict i v).units = s.units := by
  obtain ⟨_, _, _, _, h⟩ := s.tableVerdict_frame i v
  rw [h]

@[simp] theorem State.unit_tableVerdict (s : State) (i : Slot) (v : VerdictReason) (c : Boom) :
    (s.tableVerdict i v).unit c = s.unit c := by
  rw [State.unit, State.tableVerdict_units, State.unit]

@[simp] theorem State.tableVerdict_lanes (s : State) (i : Slot) (v : VerdictReason) :
    (s.tableVerdict i v).lanes = s.lanes := by
  obtain ⟨_, _, _, _, h⟩ := s.tableVerdict_frame i v
  rw [h]

@[simp] theorem State.lane_tableVerdict (s : State) (i : Slot) (v : VerdictReason) (c : Boom) :
    (s.tableVerdict i v).lane c = s.lane c := by
  rw [State.lane, State.tableVerdict_lanes, State.lane]

@[simp] theorem State.tableVerdict_engines (s : State) (i : Slot) (v : VerdictReason) :
    (s.tableVerdict i v).engines = s.engines := by
  obtain ⟨_, _, _, _, h⟩ := s.tableVerdict_frame i v
  rw [h]

@[simp] theorem State.engine_tableVerdict (s : State) (i : Slot) (v : VerdictReason) (c : Boom) :
    (s.tableVerdict i v).engine c = s.engine c := by
  rw [State.engine, State.tableVerdict_engines, State.engine]

@[simp] theorem State.tableVerdict_loader (s : State) (i : Slot) (v : VerdictReason) :
    (s.tableVerdict i v).loader = s.loader := by
  obtain ⟨_, _, _, _, h⟩ := s.tableVerdict_frame i v
  rw [h]

@[simp] theorem State.tableVerdict_arbiter (s : State) (i : Slot) (v : VerdictReason) :
    (s.tableVerdict i v).arbiter = s.arbiter := by
  obtain ⟨_, _, _, _, h⟩ := s.tableVerdict_frame i v
  rw [h]

@[simp] theorem State.releaseFlow_slots (s : State) (b : Boom) : (s.releaseFlow b).slots = s.slots := by
  obtain ⟨_, _, h⟩ := s.releaseFlow_frame b
  rw [h]

@[simp] theorem State.entry_releaseFlow (s : State) (b : Boom) (j : Slot) :
    (s.releaseFlow b).entry j = s.entry j := by
  rw [State.entry, State.releaseFlow_slots, State.entry]

@[simp] theorem State.releaseFlow_rows (s : State) (b : Boom) : (s.releaseFlow b).rows = s.rows := by
  obtain ⟨_, _, h⟩ := s.releaseFlow_frame b
  rw [h]

@[simp] theorem State.releaseFlow_backlog (s : State) (b : Boom) : (s.releaseFlow b).backlog = s.backlog := by
  obtain ⟨_, _, h⟩ := s.releaseFlow_frame b
  rw [h]

@[simp] theorem State.releaseFlow_units (s : State) (b : Boom) : (s.releaseFlow b).units = s.units := by
  obtain ⟨_, _, h⟩ := s.releaseFlow_frame b
  rw [h]

@[simp] theorem State.unit_releaseFlow (s : State) (b : Boom) (c : Boom) :
    (s.releaseFlow b).unit c = s.unit c := by
  rw [State.unit, State.releaseFlow_units, State.unit]

@[simp] theorem State.releaseFlow_lanes (s : State) (b : Boom) : (s.releaseFlow b).lanes = s.lanes := by
  obtain ⟨_, _, h⟩ := s.releaseFlow_frame b
  rw [h]

@[simp] theorem State.lane_releaseFlow (s : State) (b : Boom) (c : Boom) :
    (s.releaseFlow b).lane c = s.lane c := by
  rw [State.lane, State.releaseFlow_lanes, State.lane]

@[simp] theorem State.releaseFlow_engines (s : State) (b : Boom) : (s.releaseFlow b).engines = s.engines := by
  obtain ⟨_, _, h⟩ := s.releaseFlow_frame b
  rw [h]

@[simp] theorem State.engine_releaseFlow (s : State) (b : Boom) (c : Boom) :
    (s.releaseFlow b).engine c = s.engine c := by
  rw [State.engine, State.releaseFlow_engines, State.engine]

@[simp] theorem State.releaseFlow_loader (s : State) (b : Boom) : (s.releaseFlow b).loader = s.loader := by
  obtain ⟨_, _, h⟩ := s.releaseFlow_frame b
  rw [h]

@[simp] theorem State.requestFlow_slots (s : State) (r : FlowRequest) : (s.requestFlow r).slots = s.slots := by
  obtain ⟨_, _, h⟩ := s.requestFlow_frame r
  rw [h]

@[simp] theorem State.entry_requestFlow (s : State) (r : FlowRequest) (j : Slot) :
    (s.requestFlow r).entry j = s.entry j := by
  rw [State.entry, State.requestFlow_slots, State.entry]

@[simp] theorem State.requestFlow_rows (s : State) (r : FlowRequest) : (s.requestFlow r).rows = s.rows := by
  obtain ⟨_, _, h⟩ := s.requestFlow_frame r
  rw [h]

@[simp] theorem State.requestFlow_backlog (s : State) (r : FlowRequest) : (s.requestFlow r).backlog = s.backlog := by
  obtain ⟨_, _, h⟩ := s.requestFlow_frame r
  rw [h]

@[simp] theorem State.requestFlow_units (s : State) (r : FlowRequest) : (s.requestFlow r).units = s.units := by
  obtain ⟨_, _, h⟩ := s.requestFlow_frame r
  rw [h]

@[simp] theorem State.unit_requestFlow (s : State) (r : FlowRequest) (c : Boom) :
    (s.requestFlow r).unit c = s.unit c := by
  rw [State.unit, State.requestFlow_units, State.unit]

@[simp] theorem State.requestFlow_lanes (s : State) (r : FlowRequest) : (s.requestFlow r).lanes = s.lanes := by
  obtain ⟨_, _, h⟩ := s.requestFlow_frame r
  rw [h]

@[simp] theorem State.lane_requestFlow (s : State) (r : FlowRequest) (c : Boom) :
    (s.requestFlow r).lane c = s.lane c := by
  rw [State.lane, State.requestFlow_lanes, State.lane]

@[simp] theorem State.requestFlow_engines (s : State) (r : FlowRequest) : (s.requestFlow r).engines = s.engines := by
  obtain ⟨_, _, h⟩ := s.requestFlow_frame r
  rw [h]

@[simp] theorem State.engine_requestFlow (s : State) (r : FlowRequest) (c : Boom) :
    (s.requestFlow r).engine c = s.engine c := by
  rw [State.engine, State.requestFlow_engines, State.engine]

@[simp] theorem State.requestFlow_loader (s : State) (r : FlowRequest) : (s.requestFlow r).loader = s.loader := by
  obtain ⟨_, _, h⟩ := s.requestFlow_frame r
  rw [h]

@[simp] theorem State.requestStage_slots (s : State) (b : Boom) (x : FlowStage) :
    (s.requestStage b x).slots = s.slots := by
  obtain ⟨_, _, h⟩ := s.requestStage_frame b x
  rw [h]

@[simp] theorem State.entry_requestStage (s : State) (b : Boom) (x : FlowStage) (j : Slot) :
    (s.requestStage b x).entry j = s.entry j := by
  rw [State.entry, State.requestStage_slots, State.entry]

@[simp] theorem State.requestStage_rows (s : State) (b : Boom) (x : FlowStage) :
    (s.requestStage b x).rows = s.rows := by
  obtain ⟨_, _, h⟩ := s.requestStage_frame b x
  rw [h]

@[simp] theorem State.requestStage_backlog (s : State) (b : Boom) (x : FlowStage) :
    (s.requestStage b x).backlog = s.backlog := by
  obtain ⟨_, _, h⟩ := s.requestStage_frame b x
  rw [h]

@[simp] theorem State.requestStage_units (s : State) (b : Boom) (x : FlowStage) :
    (s.requestStage b x).units = s.units := by
  obtain ⟨_, _, h⟩ := s.requestStage_frame b x
  rw [h]

@[simp] theorem State.unit_requestStage (s : State) (b : Boom) (x : FlowStage) (c : Boom) :
    (s.requestStage b x).unit c = s.unit c := by
  rw [State.unit, State.requestStage_units, State.unit]

@[simp] theorem State.requestStage_lanes (s : State) (b : Boom) (x : FlowStage) :
    (s.requestStage b x).lanes = s.lanes := by
  obtain ⟨_, _, h⟩ := s.requestStage_frame b x
  rw [h]

@[simp] theorem State.lane_requestStage (s : State) (b : Boom) (x : FlowStage) (c : Boom) :
    (s.requestStage b x).lane c = s.lane c := by
  rw [State.lane, State.requestStage_lanes, State.lane]

@[simp] theorem State.requestStage_engines (s : State) (b : Boom) (x : FlowStage) :
    (s.requestStage b x).engines = s.engines := by
  obtain ⟨_, _, h⟩ := s.requestStage_frame b x
  rw [h]

@[simp] theorem State.engine_requestStage (s : State) (b : Boom) (x : FlowStage) (c : Boom) :
    (s.requestStage b x).engine c = s.engine c := by
  rw [State.engine, State.requestStage_engines, State.engine]

@[simp] theorem State.requestStage_loader (s : State) (b : Boom) (x : FlowStage) :
    (s.requestStage b x).loader = s.loader := by
  obtain ⟨_, _, h⟩ := s.requestStage_frame b x
  rw [h]

@[simp] theorem State.servicePass_slots (s : State) : (s.servicePass).slots = s.slots := by
  obtain ⟨_, _, h⟩ := s.servicePass_frame
  rw [h]

@[simp] theorem State.entry_servicePass (s : State) (j : Slot) :
    (s.servicePass).entry j = s.entry j := by
  rw [State.entry, State.servicePass_slots, State.entry]

@[simp] theorem State.servicePass_rows (s : State) : (s.servicePass).rows = s.rows := by
  obtain ⟨_, _, h⟩ := s.servicePass_frame
  rw [h]

@[simp] theorem State.servicePass_backlog (s : State) : (s.servicePass).backlog = s.backlog := by
  obtain ⟨_, _, h⟩ := s.servicePass_frame
  rw [h]

@[simp] theorem State.servicePass_units (s : State) : (s.servicePass).units = s.units := by
  obtain ⟨_, _, h⟩ := s.servicePass_frame
  rw [h]

@[simp] theorem State.unit_servicePass (s : State) (c : Boom) :
    (s.servicePass).unit c = s.unit c := by
  rw [State.unit, State.servicePass_units, State.unit]

@[simp] theorem State.servicePass_lanes (s : State) : (s.servicePass).lanes = s.lanes := by
  obtain ⟨_, _, h⟩ := s.servicePass_frame
  rw [h]

@[simp] theorem State.lane_servicePass (s : State) (c : Boom) :
    (s.servicePass).lane c = s.lane c := by
  rw [State.lane, State.servicePass_lanes, State.lane]

@[simp] theorem State.servicePass_engines (s : State) : (s.servicePass).engines = s.engines := by
  obtain ⟨_, _, h⟩ := s.servicePass_frame
  rw [h]

@[simp] theorem State.engine_servicePass (s : State) (c : Boom) :
    (s.servicePass).engine c = s.engine c := by
  rw [State.engine, State.servicePass_engines, State.engine]

@[simp] theorem State.servicePass_loader (s : State) : (s.servicePass).loader = s.loader := by
  obtain ⟨_, _, h⟩ := s.servicePass_frame
  rw [h]

@[simp] theorem State.grantLoader_slots (s : State) (b : Boom) : (s.grantLoader b).slots = s.slots := by
  rw [State.grantLoader_frame]

@[simp] theorem State.entry_grantLoader (s : State) (b : Boom) (j : Slot) :
    (s.grantLoader b).entry j = s.entry j := by
  rw [State.entry, State.grantLoader_slots, State.entry]

@[simp] theorem State.grantLoader_rows (s : State) (b : Boom) : (s.grantLoader b).rows = s.rows := by
  rw [State.grantLoader_frame]

@[simp] theorem State.grantLoader_backlog (s : State) (b : Boom) : (s.grantLoader b).backlog = s.backlog := by
  rw [State.grantLoader_frame]

@[simp] theorem State.grantLoader_lanes (s : State) (b : Boom) : (s.grantLoader b).lanes = s.lanes := by
  rw [State.grantLoader_frame]

@[simp] theorem State.lane_grantLoader (s : State) (b : Boom) (c : Boom) :
    (s.grantLoader b).lane c = s.lane c := by
  rw [State.lane, State.grantLoader_lanes, State.lane]

@[simp] theorem State.grantLoader_engines (s : State) (b : Boom) : (s.grantLoader b).engines = s.engines := by
  rw [State.grantLoader_frame]

@[simp] theorem State.engine_grantLoader (s : State) (b : Boom) (c : Boom) :
    (s.grantLoader b).engine c = s.engine c := by
  rw [State.engine, State.grantLoader_engines, State.engine]

@[simp] theorem State.grantLoader_arbiter (s : State) (b : Boom) : (s.grantLoader b).arbiter = s.arbiter := by
  rw [State.grantLoader_frame]

@[simp] theorem State.serveLoader_slots (s : State) : (s.serveLoader).slots = s.slots := by
  rw [State.serveLoader_frame]

@[simp] theorem State.entry_serveLoader (s : State) (j : Slot) :
    (s.serveLoader).entry j = s.entry j := by
  rw [State.entry, State.serveLoader_slots, State.entry]

@[simp] theorem State.serveLoader_rows (s : State) : (s.serveLoader).rows = s.rows := by
  rw [State.serveLoader_frame]

@[simp] theorem State.serveLoader_backlog (s : State) : (s.serveLoader).backlog = s.backlog := by
  rw [State.serveLoader_frame]

@[simp] theorem State.serveLoader_lanes (s : State) : (s.serveLoader).lanes = s.lanes := by
  rw [State.serveLoader_frame]

@[simp] theorem State.lane_serveLoader (s : State) (c : Boom) :
    (s.serveLoader).lane c = s.lane c := by
  rw [State.lane, State.serveLoader_lanes, State.lane]

@[simp] theorem State.serveLoader_engines (s : State) : (s.serveLoader).engines = s.engines := by
  rw [State.serveLoader_frame]

@[simp] theorem State.engine_serveLoader (s : State) (c : Boom) :
    (s.serveLoader).engine c = s.engine c := by
  rw [State.engine, State.serveLoader_engines, State.engine]

@[simp] theorem State.serveLoader_arbiter (s : State) : (s.serveLoader).arbiter = s.arbiter := by
  rw [State.serveLoader_frame]

@[simp] theorem State.requestLoader_slots (s : State) (b : Boom) : (s.requestLoader b).slots = s.slots := by
  rw [State.requestLoader_frame]

@[simp] theorem State.entry_requestLoader (s : State) (b : Boom) (j : Slot) :
    (s.requestLoader b).entry j = s.entry j := by
  rw [State.entry, State.requestLoader_slots, State.entry]

@[simp] theorem State.requestLoader_rows (s : State) (b : Boom) : (s.requestLoader b).rows = s.rows := by
  rw [State.requestLoader_frame]

@[simp] theorem State.requestLoader_backlog (s : State) (b : Boom) : (s.requestLoader b).backlog = s.backlog := by
  rw [State.requestLoader_frame]

@[simp] theorem State.requestLoader_lanes (s : State) (b : Boom) : (s.requestLoader b).lanes = s.lanes := by
  rw [State.requestLoader_frame]

@[simp] theorem State.lane_requestLoader (s : State) (b : Boom) (c : Boom) :
    (s.requestLoader b).lane c = s.lane c := by
  rw [State.lane, State.requestLoader_lanes, State.lane]

@[simp] theorem State.requestLoader_engines (s : State) (b : Boom) : (s.requestLoader b).engines = s.engines := by
  rw [State.requestLoader_frame]

@[simp] theorem State.engine_requestLoader (s : State) (b : Boom) (c : Boom) :
    (s.requestLoader b).engine c = s.engine c := by
  rw [State.engine, State.requestLoader_engines, State.engine]

@[simp] theorem State.requestLoader_arbiter (s : State) (b : Boom) : (s.requestLoader b).arbiter = s.arbiter := by
  rw [State.requestLoader_frame]

@[simp] theorem State.cancelLoader_slots (s : State) (b : Boom) : (s.cancelLoader b).slots = s.slots := by
  obtain ⟨_, _, _, h⟩ := s.cancelLoader_frame b
  rw [h]

@[simp] theorem State.entry_cancelLoader (s : State) (b : Boom) (j : Slot) :
    (s.cancelLoader b).entry j = s.entry j := by
  rw [State.entry, State.cancelLoader_slots, State.entry]

@[simp] theorem State.cancelLoader_rows (s : State) (b : Boom) : (s.cancelLoader b).rows = s.rows := by
  obtain ⟨_, _, _, h⟩ := s.cancelLoader_frame b
  rw [h]

@[simp] theorem State.cancelLoader_backlog (s : State) (b : Boom) : (s.cancelLoader b).backlog = s.backlog := by
  obtain ⟨_, _, _, h⟩ := s.cancelLoader_frame b
  rw [h]

@[simp] theorem State.cancelLoader_lanes (s : State) (b : Boom) : (s.cancelLoader b).lanes = s.lanes := by
  obtain ⟨_, _, _, h⟩ := s.cancelLoader_frame b
  rw [h]

@[simp] theorem State.lane_cancelLoader (s : State) (b : Boom) (c : Boom) :
    (s.cancelLoader b).lane c = s.lane c := by
  rw [State.lane, State.cancelLoader_lanes, State.lane]

@[simp] theorem State.cancelLoader_engines (s : State) (b : Boom) : (s.cancelLoader b).engines = s.engines := by
  obtain ⟨_, _, _, h⟩ := s.cancelLoader_frame b
  rw [h]

@[simp] theorem State.engine_cancelLoader (s : State) (b : Boom) (c : Boom) :
    (s.cancelLoader b).engine c = s.engine c := by
  rw [State.engine, State.cancelLoader_engines, State.engine]

@[simp] theorem State.cancelLoader_arbiter (s : State) (b : Boom) : (s.cancelLoader b).arbiter = s.arbiter := by
  obtain ⟨_, _, _, h⟩ := s.cancelLoader_frame b
  rw [h]

end Sys2Proof.Machine

/-! PROOFS. The regular changes of samples, lanes, cycle commands and the loader (`State.Regular`). -/

namespace Sys2Proof.Machine

/-! ### Lanes and sums in their bounds -/

theorem Lane.Bounded.tally {l : Lane} (h : l.Bounded) (n : Nat) : (l.tally n).Bounded := by
  obtain ⟨counters, count, _⟩ := h
  exact ⟨counters, count, Nat.min_le_left _ _⟩

theorem Lane.Bounded.countSample {l : Lane} (h : l.Bounded) (n : Nat) : (l.countSample n).Bounded := by
  obtain ⟨counters, count, tally⟩ := h.tally n
  unfold Lane.countSample
  simp only []
  split
  · rename_i below
    exact ⟨counters, below, tally⟩
  · exact ⟨counters, Nat.zero_lt_succ 63, Nat.zero_le _⟩

theorem Lane.Bounded.fresh {l m : Lane} (h : l.Bounded)
    (k : m.faults = l.faults ∧ m.reportValue = l.reportValue ∧ m.windowCount = 0 ∧ m.windowTally = 0) : m.Bounded := by
  obtain ⟨⟨faults, report⟩, _⟩ := h
  obtain ⟨hf, hr, hc, ht⟩ := k
  exact ⟨⟨hf ▸ faults, hr ▸ report⟩, by rw [hc]; decide, by rw [ht]; exact Nat.zero_le _⟩

theorem Lane.Bounded.receive {l : Lane} (h : l.Bounded) (dry : Bool) (x : Sample) : (l.receive dry x).Bounded := by
  unfold Lane.receive
  simp only []
  split
  · exact h.fresh ⟨rfl, rfl, rfl, rfl⟩
  · exact h

/-- The turn sum with a sample's speed in it, once the bolt is seated (R139). -/
def Engine.turned (e : Engine) (x : Sample) : Nat := if e.seated then min sumTop (e.turnSum + x.speed) else e.turnSum

/-- The engine with a judged sample's peak and turn (R138 steps 1 and 2). -/
def Engine.judge (e : Engine) (x : Sample) : Engine :=
  { e with peak := some (raisePeak e.peak x.torque), turnSum := e.turned x }

/-- The record with a judged sample's peak and turn (R138 steps 1 and 2). -/
def Result.judge (r : Result) (e : Engine) (x : Sample) : Result :=
  { r with
    peakTorque := some (raisePeak e.peak x.torque)
    turnAfterSeat := if e.seated then some (turnAngle (e.turned x)) else r.turnAfterSeat }

/-- The part with a judged sample's peak and turn in the engine and the record. -/
def State.judge (s : State) (b : Boom) (x : Sample) : State :=
  (s.setEngine b ((s.engine b).judge x)).updateResult b fun r => r.judge (s.engine b) x

/-- A judged sample: the peak and turn, and then the target, the turn limit, the slip test or the seat test. -/
theorem State.torqueSample_eq (s : State) (b : Boom) (x : Sample) : s.torqueSample b x =
    if (s.active b).targetTorque ≤ x.torque then
      ((s.judge b x).updateResult b fun r => { r with finalTorque := some x.torque }).boomVerdict b
        (targetReason (s.active b) (s.engine b).weakAnchor x.torque) .idle
    else if (s.engine b).seated then
      if (s.active b).maxTurn < turnAngle ((s.engine b).turned x) then (s.judge b x).boomVerdict b .anchorSpin .idle
      else
        let e := ((s.engine b).judge x).slip (s.active b) x.torque (raisePeak (s.engine b).peak x.torque)
        if slipRunLength ≤ e.slipRun then ((s.judge b x).setEngine b e).boomVerdict b .anchorSlip .idle
        else (s.judge b x).setEngine b e
    else
      let e := ((s.engine b).judge x).seatTest (s.active b) x.torque
      if e.seated then ((s.judge b x).setEngine b e).updateResult b fun r => { r with turnAfterSeat := some 0 }
      else (s.judge b x).setEngine b e := rfl

@[simp] theorem State.judge_engine (s : State) (b : Boom) (x : Sample) :
    (s.judge b x).engine b = (s.engine b).judge x := by
  rw [State.judge, State.engine_updateResult, State.engine_setEngine_same]

theorem Engine.Bounded.judge {e : Engine} (h : e.Bounded) {x : Sample} (hx : x.torque ≤ 800) : (e.judge x).Bounded := by
  obtain ⟨counts, ⟨revolutions, turn⟩, seat, slip, peak⟩ := h
  refine ⟨counts, ⟨revolutions, ?_⟩, seat, slip, fun y hy => ?_⟩
  · show e.turned x ≤ 1048575
    unfold Engine.turned
    split
    · exact Nat.min_le_left _ _
    · exact turn
  · obtain rfl := Option.some.inj hy
    refine Nat.max_le.2 ⟨hx, ?_⟩
    cases old : e.peak with
    | none => exact Nat.zero_le _
    | some y => exact peak y old

theorem Engine.Bounded.slip {e : Engine} (h : e.Bounded) (p : ParamSet) (t peak : Nat) : (e.slip p t peak).Bounded := by
  obtain ⟨counts, sums, seat, _, top⟩ := id h
  unfold Engine.slip
  split
  · split
    · exact ⟨counts, sums, seat, Nat.min_le_left _ _, top⟩
    · exact ⟨counts, sums, seat, Nat.zero_le _, top⟩
  · split
    · exact ⟨counts, sums, seat, Nat.zero_le _, top⟩
    · exact h

theorem Engine.slip_voidState (e : Engine) (p : ParamSet) (t peak : Nat) : (e.slip p t peak).voidState = e.voidState := by
  unfold Engine.slip
  split
  · split <;> rfl
  · split <;> rfl

/-- A bolt that is not seated has a seat run below 3, which the seat test takes to 3 at most. -/
theorem Engine.Bounded.seatTest {e : Engine} (h : e.Bounded) (hs : e.seated = false) (p : ParamSet) (t : Nat) :
    (e.seatTest p t).Bounded := by
  obtain ⟨counts, sums, ⟨_, unseated⟩, slip, top⟩ := h
  have before := unseated hs
  have next : (if p.seatTorque ≤ t then e.seatRun + 1 else 0) ≤ 3 := by split <;> omega
  unfold Engine.seatTest
  simp only []
  generalize (if p.seatTorque ≤ t then e.seatRun + 1 else 0) = n at next ⊢
  split
  · exact ⟨counts, sums, ⟨next, fun k => absurd k nofun⟩, slip, top⟩
  · rename_i below
    exact ⟨counts, sums, ⟨next, fun _ => Nat.le_of_lt_succ (Nat.not_le.1 below)⟩, slip, top⟩

theorem Engine.seatTest_voidState (e : Engine) (p : ParamSet) (t : Nat) : (e.seatTest p t).voidState = e.voidState := by
  unfold Engine.seatTest
  simp only []
  generalize (if p.seatTorque ≤ t then e.seatRun + 1 else 0) = n
  split <;> rfl

/-! ### Offers of a run -/

theorem State.offers_frame (n : NoticePair) (l : List Bool) (s : State) :
    ∃ p, l.foldl (fun acc x => acc.offer n x) s = { s with ports := p } := by
  induction l generalizing s with
  | nil => exact ⟨s.ports, rfl⟩
  | cons x rest ih =>
    obtain ⟨p, h⟩ := ih (s.offer n x)
    exact ⟨p, h⟩

theorem State.offers_offered {n : NoticePair} {l : List Bool} {y : Bool} (h : y ∈ l) (s : State) (x : Bool) :
    (l.foldl (fun acc x => acc.offer n x) s).Offered n x y := by
  induction l generalizing s with
  | nil => exact absurd h List.not_mem_nil
  | cons z rest ih =>
    rcases List.mem_cons.1 h with rfl | h
    · exact (s.offer_offered n x y).move (.fold (R := .all) (fun s x => .offer (mem_allPairs n) s x) rest _)
    · exact ih h _

/-! ### The effects of a claim -/

/-- The effects of a claim (R35), which `State.takeClaim` runs as one action. -/
def State.claimed (s : State) (b : Boom) (i : Slot) : State :=
  let t := (s.modEntry i fun e => e.claimedBy b).modUnit b fun u =>
    { u with workSlot := some i, claimHeld := true, activeSet := u.pendingSet }
  ((t.setEngine b .initial).offerChange (.void b) (s.engine b).voidState false).setCycle b .claimed

theorem State.takeClaim_eq (s : State) (b : Boom) (i : Slot) : s.takeClaim b i = s.acting fun s => s.claimed b i := rfl

/-- The effects of a CANCEL CLAIM (R42). -/
def State.claimCancelled (s : State) (b : Boom) (i : Slot) : State :=
  ((s.returnEntry i).modUnit b fun u => { u with claimHeld := false }).setCycle b .idle

namespace State.Regular

/-! ### Samples -/

/-- The work of a drilling sample written back: the changes of the VOID status are all offered. -/
theorem applyRun {s : State} {b : Boom} {d : DrillRun}
    (h : d.Sound s.CountsBounded s.ProfilesAgree (s.engine b).voidState) : s.Regular (s.applyRun b d) := by
  have ports : s.PortsMove .all (s.applyRun b d) := .applyRun (fun _ => mem_allPairs _) s
  have offered : ∀ c, (s.applyRun b d).Offered (.void c) (s.engine c).voidState
      (((s.setEngine b d.engine).engine c).voidState) := by
    intro c
    rw [State.engine_setEngine]
    split
    · rename_i own
      subst own
      by_cases same : d.engine.voidState = (s.engine c).voidState
      · rw [same]
        exact .same _ _ _
      · exact State.offers_offered (h.changes same) _ _
    · exact .same _ _ _
  have written : (s.setEngine b d.engine).Regular ((s.setEngine b d.engine).updateClaimed b fun e =>
      { e with lengthClass := d.lengthClass, result := some d.result }) ∨ ¬ s.ProfilesAgree := by
    by_cases q : s.ProfilesAgree
    · refine .inl (.updateClaimed _ b _ fun _ _ r hr => ?_)
      obtain rfl := Option.some.inj hr
      exact h.result q
    · exact .inr q
  obtain ⟨x, hx⟩ := State.updateClaimed_frame (s.setEngine b d.engine) b fun e =>
      { e with lengthClass := d.lengthClass, result := some d.result }
  unfold State.applyRun at ports offered ⊢
  simp only [] at ports offered ⊢
  rw [hx] at ports offered written ⊢
  obtain ⟨p, hp⟩ := State.offers_frame (.void b) d.voidChanges { s.setEngine b d.engine with slots := x }
  rw [hp] at ports offered ⊢
  exact ⟨ports, offered, rfl, rfl, ⟨rfl, rfl, rfl, rfl, rfl, rfl⟩,
    fun q => written.elim (fun k => k.profiles q) fun k => absurd q k,
    fun k => (State.countsBounded_iff _).2
      ((State.countsBounded_iff (s.setEngine b d.engine)).1 (counts_setEngine k (h.engine k)))⟩

theorem afterRun (s : State) (b : Boom) (o : DrillOutcome) : s.Regular (s.afterRun b o) := by
  unfold State.afterRun
  split
  · exact .refl s
  · exact .post s _
  · exact .endDrilling s b
  · exact .rejectDrilling s b _

theorem drillSample (s : State) (b : Boom) (x : Sample) : s.Regular (s.drillSample b x) := by
  unfold State.drillSample
  split
  · rename_i i e hc
    obtain ⟨_, _, hi⟩ := State.claimedEntry_eq_some.1 hc
    split
    · rename_i r hr
      have found : (s.runOf b e r).Sound s.CountsBounded s.ProfilesAgree (s.engine b).voidState :=
        ⟨fun k => engine_bounded k b, fun q => q i e r hi hr, fun k => absurd rfl k⟩
      exact .trans (.applyRun (found.sample _ x)) (.afterRun _ b _)
    · exact .refl s
  · exact .refl s

theorem spinSample (s : State) (b : Boom) (x : Sample) : s.Regular (s.spinSample b x) := by
  have summed : s.Regular (s.setEngine b { s.engine b with
      revolutionSum := min sumTop ((s.engine b).revolutionSum + x.speed) }) :=
    .setEngine s b _ (fun ⟨counts, ⟨_, turn⟩, rest⟩ => ⟨counts, ⟨Nat.min_le_left _ _, turn⟩, rest⟩) rfl
  unfold State.spinSample
  simp only []
  split
  · exact .trans (.trans summed (.updateResult _ b _ (by exact fun _ => ⟨rfl, rfl, rfl⟩))) (.spinComplete _ b)
  · exact .trans summed (.updateResult _ b _ (by exact fun _ => ⟨rfl, rfl, rfl⟩))

theorem setSample (s : State) (b : Boom) (x : Sample) : s.Regular (s.setSample b x) := by
  unfold State.setSample
  split
  · exact .boomVerdict s b _ _
  · exact .refl s

theorem judge (s : State) (b : Boom) (x : Sample) (hx : x.torque ≤ 800) : s.Regular (s.judge b x) :=
  .trans (.setEngine s b _ (fun k => k.judge hx) rfl) (.updateResult _ b _ (by exact fun _ => ⟨rfl, rfl, rfl⟩))

theorem torqueSample (s : State) (b : Boom) (x : Sample) (hx : x.torque ≤ 800) : s.Regular (s.torqueSample b x) := by
  have judged := State.Regular.judge s b x hx
  have replaced : ∀ {e : Engine}, (((s.engine b).judge x).Bounded → e.Bounded) →
      e.voidState = ((s.engine b).judge x).voidState → s.Regular ((s.judge b x).setEngine b e) := by
    intro e he hv
    rw [← s.judge_engine] at he hv
    exact judged.trans (.setEngine _ b e he hv)
  rw [State.torqueSample_eq]
  split
  · exact .trans (judged.trans (.updateResult _ b _ (by exact fun _ => ⟨rfl, rfl, rfl⟩))) (.boomVerdict _ b _ _)
  · split
    · split
      · exact judged.trans (.boomVerdict _ b _ _)
      · have slipped := replaced (fun k => k.slip (s.active b) x.torque (raisePeak (s.engine b).peak x.torque))
          (Engine.slip_voidState _ _ _ _)
        simp only []
        split
        · exact slipped.trans (.boomVerdict _ b _ _)
        · exact slipped
    · rename_i unseated
      have tested := replaced (fun k => k.seatTest (Bool.not_eq_true _ ▸ unseated) (s.active b) x.torque)
        (Engine.seatTest_voidState _ _ _)
      simp only []
      split
      · exact tested.trans (.updateResult _ b _ (by exact fun _ => ⟨rfl, rfl, rfl⟩))
      · exact tested

theorem engineSample (s : State) (b : Boom) (x : Sample) (hx : x.torque ≤ 800) : s.Regular (s.engineSample b x) := by
  unfold State.engineSample
  split
  · exact .drillSample s b x
  · exact .spinSample s b x
  · exact .setSample s b x
  · unfold State.torquingSample
    split
    · exact .torqueSample s b x hx
    · exact .refl s
  · exact .refl s

/-! ### Lanes -/

theorem laneMark (s : State) (b : Boom) : s.Regular (s.laneMark b) := by
  unfold State.laneMark
  split
  · exact .setEngine s b _ id rfl
  · exact .refl s

theorem watchFlush (s : State) (b : Boom) (x : Sample) : s.Regular (s.watchFlush b x) := by
  unfold State.watchFlush
  split
  · refine .modUnit s b _ fun _ => ?_
    show nextFlush _ _ ≤ 10
    unfold nextFlush
    split
    · exact Nat.zero_le _
    · exact Nat.min_le_left _ _
  · exact .refl s

theorem countFaults (s : State) (b : Boom) (n : Nat) : s.Regular (s.countFaults b n) := by
  have counted : s.Regular (s.setLane b { s.lane b with faults := min faultTop ((s.lane b).faults + n) }) :=
    .setLane s b _ fun ⟨⟨_, report⟩, rest⟩ => ⟨⟨Nat.min_le_left _ _, report⟩, rest⟩
  unfold State.countFaults
  simp only []
  split
  · exact counted.trans (.post _ _)
  · exact counted

theorem discardFault (s : State) (b : Boom) : s.Regular (s.discardFault b) := by
  unfold State.discardFault
  simp only []
  split
  · exact .trans (.countFaults s b 1) (.laneMark _ b)
  · exact .trans (.trans (.countFaults s b 1) (.setLane _ b _ fun k => k.tally 1)) (.laneMark _ b)

theorem setFramer (s : State) (b : Boom) (f : Framer) : s.Regular (s.setLane b { s.lane b with framer := f }) :=
  .setLane s b _ id

theorem tearFrame (s : State) (b : Boom) : s.Regular (s.tearFrame b) := .trans (.setFramer s b _) (.discardFault _ b)

theorem clampedTorque (raw : RawSample) : raw.clamp.torque ≤ 800 := Nat.min_le_left _ _

theorem admitSample (s : State) (b : Boom) (raw : RawSample) : s.Regular (s.admitSample b raw) := by
  have received : ∀ n, s.Regular ((s.setLane b ((s.lane b).receive (s.unit b).dry raw.clamp)).countFaults b n) :=
    fun n => .trans (.setLane s b _ fun k => k.receive _ _) (.countFaults _ b n)
  have sampled : ∀ {t : State}, s.Regular t → s.Regular ((t.engineSample b raw.clamp).watchFlush b raw.clamp) :=
    fun k => k.trans (.trans (.engineSample _ b _ (clampedTorque raw)) (.watchFlush _ b _))
  unfold State.admitSample
  simp only []
  split
  · exact (sampled ((received _).trans (.laneMark _ b))).trans (.setLane _ b _ fun k => k.countSample _)
  · exact (sampled (received _)).trans (.setLane _ b _ fun k => k.countSample _)

theorem takeCharacter (s : State) (b : Boom) (c : Byte) (good : Bool) : s.Regular (s.takeCharacter b c good) := by
  unfold State.takeCharacter
  split
  · exact .refl s
  · split
    · split
      · exact .setFramer s b _
      · exact .refl s
    · split
      · exact .tearFrame s b
      · split
        · exact .setFramer s b _
        · unfold State.completeFrame
          simp only []
          split
          · exact .trans (.setFramer s b _) (.admitSample _ b _)
          · exact .trans (.setFramer s b _) (.discardFault _ b)

theorem transferCount (s : State) (b : Boom) : s.Regular (s.transferCount b) :=
  .trans (.setLane s b { s.lane b with reportValue := (s.lane b).faults, faults := 0 }
    fun ⟨⟨faults, _⟩, window⟩ => ⟨⟨Nat.zero_le _, faults⟩, window⟩) (.post _ _)

theorem loseLane (s : State) (b : Boom) : s.Regular (s.loseLane b) :=
  .trans (.trans (.setLane s b _ (by exact fun k => k.fresh ⟨rfl, rfl, rfl, rfl⟩)) (.countFaults _ b 1)) (.laneMark _ b)

/-! ### Commands of the cycle -/

/-- A cleared engine, with the fall of its VOID status offered (R35, R100). -/
theorem clearEngine (s : State) (b : Boom) :
    s.Regular ((s.setEngine b .initial).offerChange (.void b) (s.engine b).voidState false) := by
  have ports : s.PortsMove .all ((s.setEngine b .initial).offerChange (.void b) (s.engine b).voidState false) :=
    .trans ((PortsMove.refl _ _).blocks (by rfl) (by rfl)) (.offerChange (fun _ => mem_allPairs _) _)
  have offered := (s.setEngine b .initial).offerChange_offered (.void b) (s.engine b).voidState false
  refine ⟨ports, fun c => ?_, by simp, by simp, by simp [State.OwnKept], fun q i e r hi => q i e r (by simpa using hi),
    fun k => ?_⟩
  · rw [State.engine_offerChange, State.engine_setEngine]
    split
    · rename_i own
      rw [own]
      exact offered
    · exact .same _ _ _
  · have cleared := (State.countsBounded_iff _).1 (counts_setEngine k (b := b) Engine.initial_bounded)
    rw [State.countsBounded_iff]
    simpa using cleared

theorem claimed (s : State) (b : Boom) (i : Slot) : s.Regular (s.claimed b i) := by
  have marked : s.Regular ((s.modEntry i fun e => e.claimedBy b).modUnit b fun u =>
      { u with workSlot := some i, claimHeld := true, activeSet := u.pendingSet }) :=
    .trans (.modEntry s i _ (by exact fun _ k => k.congr rfl)) (.modUnit _ b _ (by exact id))
  have engine : ((s.modEntry i fun e => e.claimedBy b).modUnit b fun u =>
      { u with workSlot := some i, claimHeld := true, activeSet := u.pendingSet }).engine b = s.engine b := by simp
  have cleared := marked.trans (.clearEngine _ b)
  rw [engine] at cleared
  exact cleared.trans (.setCycle _ b _)

theorem cancelClaim (s : State) (b : Boom) (i : Slot) : s.Regular (s.claimCancelled b i) :=
  .trans (.trans (.returnEntry s i) (.modUnit _ b _ (by exact id))) (.setCycle _ b _)

theorem startDrilling (s : State) (b : Boom) : s.Regular (State.startDrilling b s) := by
  refine .trans (.trans (.trans (.updateClaimed s b _ fun _ _ r hr => ?_) (.modUnit _ b _ fun _ => Nat.zero_le _))
    (.setCycle _ b _)) (.requestStage _ b _)
  obtain rfl := Option.some.inj hr
  exact newResult_layersAgree _

theorem endWithdrawal (s : State) (b : Boom) : s.Regular (State.endWithdrawal b s) := by
  unfold State.endWithdrawal
  split
  · split
    · simp only []
      split
      · unfold State.endDryRun
        simp only []
        split
        · exact .trans (.updateResult s b _ (by exact fun _ => ⟨rfl, rfl, rfl⟩)) (.boomVerdict _ b _ _)
        · exact .boomVerdict s b _ _
      · unfold State.beginResin
        split
        · exact .trans (.trans (.updateResult s b _ (by exact fun _ => ⟨rfl, rfl, rfl⟩)) (.setCycle _ b _)) (.requestLoader _ b)
        · exact .boomVerdict s b _ _
    · exact .refl s
  · exact .setCycle s b _

theorem startSpin (s : State) (b : Boom) : s.Regular (State.startSpin b s) :=
  .trans (.trans (.updateClaimed s b _ fun _ k => k.map (g := fun r => { r with spinRevs := some 0 })
    (fun _ q => q.congr ⟨rfl, rfl, rfl⟩) rfl) (.setCycle _ b _)) (.requestStage _ b _)

theorem suspendBoom (s : State) (b : Boom) (x : StoredState) : s.Regular (State.suspendBoom b x s) := by
  have left : s.Regular ((s.modUnit b fun u => { u with stored := some x, torqueTimer := u.torqueTimer.pause }).leaveStage b
      .suspended) := .trans (.modUnit s b _ (by exact id)) (.leaveStage _ b _)
  unfold State.suspendBoom
  simp only []
  split
  · exact left
  · exact left.trans (.setEngine _ b _ Engine.Bounded.dropTorqueRun rfl)

theorem resumeBoom (s : State) (b : Boom) (x : StoredState) : s.Regular (State.resumeBoom b x s) :=
  .trans (.trans (.modUnit s b _ (by exact id)) (.setCycle _ b _)) (.requestStage _ b _)

theorem noteDepth (s : State) (b : Boom) (e : Entry) : s.Regular (s.noteDepth b e) := by
  unfold State.noteDepth
  split
  · exact .writeDrilledDepth s b
  · exact .refl s

theorem disposeAbort (s : State) (b : Boom) : s.Regular (s.disposeAbort b) := by
  unfold State.disposeAbort
  split
  · split
    · exact .trans (.trans (.trans (.returnEntry s _) (.releaseFlow _ b)) (.cancelLoader _ b)) (.setCycle _ b _)
    · exact .trans (.noteDepth s b _) (.boomVerdict _ b _ _)
  · exact .trans (.trans (.releaseFlow s b) (.cancelLoader _ b)) (.setCycle _ b _)

theorem abortBoom (s : State) (b : Boom) : s.Regular (State.abortBoom b s) :=
  .trans (.trans (.disposeAbort s b) (.modUnit _ b _ fun _ => Nat.zero_le _)) (.setEngine _ b _ Engine.Bounded.dropRun rfl)

theorem drySwitched (s : State) (b : Boom) (x : Bool) :
    s.Regular ((s.modUnit b fun u => { u with dry := x }).setLane b (s.lane b).dryReset) :=
  .trans (.modUnit s b _ (by exact id)) (.setLane _ b _ (by exact fun k => k.fresh ⟨rfl, rfl, rfl, rfl⟩))

/-! ### The loader's events -/

theorem deliver (s : State) (g : LoaderGrant) : s.Regular (s.deliver g) := by
  unfold State.deliver
  simp only []
  split
  · exact .trans (.trans (.trans (.trans (.updateResult s _ _ (by exact fun _ => ⟨rfl, rfl, rfl⟩)) (.updateClaimed _ _ _ (by exact fun _ k => k.congr rfl)))
      (.endGrant _)) (.setCycle _ _ _)) (.serveLoader _)
  · exact .trans (.updateResult s _ _ (by exact fun _ => ⟨rfl, rfl, rfl⟩)) (.setLoader _ _ (by exact le_refl _))

theorem loaderDone (s : State) : s.Regular s.loaderDone := by
  unfold State.loaderDone
  split
  · split
    · exact .trans (.trans (.spendCartridge s) (.endGrant _)) (.serveLoader _)
    · exact .trans (.spendCartridge s) (.deliver _ _)
  · exact .trans (.spendCartridge s) (.serveLoader _)

theorem loaderJam (s : State) : s.Regular s.loaderJam := by
  unfold State.loaderJam
  simp only []
  split
  · split
    · exact .setLoader s _ (Nat.sub_le _ _)
    · exact .setLoader s _ (Nat.sub_le _ _)
  · exact .setLoader s _ (Nat.sub_le _ _)

theorem clearLoader (s : State) : s.Regular s.clearLoader := by
  unfold State.clearLoader
  split
  · exact .serveLoader s
  · split
    · exact .trans (.endGrant s) (.serveLoader _)
    · split
      · exact .trans (.trans (.endGrant s) (.boomVerdict _ _ _ _)) (.serveLoader _)
      · exact .setLoader s _ (by exact le_refl _)

end State.Regular
end Sys2Proof.Machine

/-! PROOFS. The deeds of the part: what each command and event that is taken does to the state, with what it has checked.
`exec_deed` says that every step but a reset is one of these, beside the port's frame and answer. -/

namespace Sys2Proof.Machine

/-! ### The best of a list -/

/-- The step of `State.bestOf`, from the best slot so far. -/
def State.better (s : State) (best : Option Slot) (i : Slot) : Option Slot :=
  match best with
  | none => some i
  | some j => if s.priorityOf i < s.priorityOf j then some i else some j

theorem State.bestOf_eq (s : State) (l : List Slot) : s.bestOf l = l.foldl s.better none := rfl

/-- Slot `i` is no worse than `j`: of lower priority value, or of the same and no higher number (R28, R37). -/
def State.NoWorse (s : State) (i j : Slot) : Prop :=
  s.priorityOf i < s.priorityOf j ∨ s.priorityOf i = s.priorityOf j ∧ i ≤ j

theorem State.foldl_better (s : State) (l : List Slot) (j : Slot) (sorted : (j :: l).Pairwise (· < ·)) :
    ∃ i ∈ j :: l, l.foldl s.better (some j) = some i ∧ ∀ k ∈ j :: l, s.NoWorse i k := by
  induction l generalizing j with
  | nil => exact ⟨j, List.mem_cons_self, rfl, fun k hk => .inr (by rw [List.mem_singleton.1 hk]; exact ⟨rfl, le_refl j⟩)⟩
  | cons x rest ih =>
    obtain ⟨above, tail⟩ := List.pairwise_cons.1 sorted
    by_cases lower : s.priorityOf x < s.priorityOf j
    · obtain ⟨i, hi, best, least⟩ := ih x tail
      refine ⟨i, List.mem_cons_of_mem j hi, ?_, fun k hk => ?_⟩
      · rw [List.foldl_cons, State.better, if_pos lower, best]
      · rcases List.mem_cons.1 hk with rfl | hk
        · rcases least x List.mem_cons_self with h | ⟨h, _⟩
          · exact .inl (h.trans lower)
          · exact .inl (h ▸ lower)
        · exact least k hk
    · obtain ⟨i, hi, best, least⟩ := ih j (List.pairwise_cons.2
        ⟨fun k hk => above k (List.mem_cons_of_mem x hk), (List.pairwise_cons.1 tail).2⟩)
      refine ⟨i, ?_, ?_, fun k hk => ?_⟩
      · exact (List.mem_cons.1 hi).elim (fun h => h ▸ List.mem_cons_self)
          fun h => List.mem_cons_of_mem j (List.mem_cons_of_mem x h)
      · rw [List.foldl_cons, State.better, if_neg lower, best]
      · rcases List.mem_cons.1 hk with rfl | hk
        · exact least k List.mem_cons_self
        · rcases List.mem_cons.1 hk with rfl | hk
          · rcases least j List.mem_cons_self with h | ⟨h, le⟩
            · exact .inl (h.trans_le (Nat.not_lt.1 lower))
            · rcases (Nat.not_lt.1 lower).lt_or_eq with lt | eq
              · exact .inl (h ▸ lt)
              · exact .inr ⟨h.trans eq, le.trans (above k List.mem_cons_self).le⟩
          · exact least k (List.mem_cons_of_mem j hk)

/-- The best of an ascending list is a member of it, and no worse than any other (R28, R37). -/
theorem State.bestOf_eq_some {s : State} {l : List Slot} (sorted : l.Pairwise (· < ·)) {i : Slot}
    (h : s.bestOf l = some i) : i ∈ l ∧ ∀ k ∈ l, s.NoWorse i k := by
  cases l with
  | nil => exact absurd h nofun
  | cons j rest =>
    obtain ⟨i', hi, best, least⟩ := s.foldl_better rest j sorted
    have same : s.bestOf (j :: rest) = some i' := best
    obtain rfl := Option.some.inj (same.symm.trans h)
    exact ⟨hi, least⟩

theorem State.bestOf_isSome {s : State} {l : List Slot} (sorted : l.Pairwise (· < ·)) (h : l ≠ []) :
    ∃ i, s.bestOf l = some i := by
  cases l with
  | nil => exact absurd rfl h
  | cons j rest =>
    obtain ⟨i, _, best, _⟩ := s.foldl_better rest j sorted
    exact ⟨i, best⟩

theorem allSlots_sorted : allSlots.Pairwise (· < ·) := List.pairwise_lt_finRange 48

theorem mem_allSlots (i : Slot) : i ∈ allSlots := List.mem_finRange i

theorem State.slotsOfRow_sorted (s : State) (id : Byte) : (s.slotsOfRow id).Pairwise (· < ·) := allSlots_sorted.filter _

theorem State.mem_slotsOfRow {s : State} {id : Byte} {i : Slot} :
    i ∈ s.slotsOfRow id ↔ ∃ e, s.entry i = some e ∧ e.row = id := by
  rw [State.slotsOfRow, List.mem_filter]
  cases s.entry i with
  | none => simp
  | some e => simp [mem_allSlots]

theorem State.eligibleIn_sorted (s : State) (b : Boom) (id : Byte) : (s.eligibleIn b id).Pairwise (· < ·) :=
  (s.slotsOfRow_sorted id).filter _

theorem State.mem_eligibleIn {s : State} {b : Boom} {id : Byte} {i : Slot} : i ∈ s.eligibleIn b id ↔
    ∃ e, s.entry i = some e ∧ e.row = id ∧ s.claimable b .live e = true ∧ s.separated b e = true := by
  rw [State.eligibleIn, List.mem_filter, State.mem_slotsOfRow]
  cases s.entry i with
  | none => simp
  | some e => simp

theorem State.chooseNext_eligible {s : State} {b : Boom} {i : Slot} (h : s.chooseNext b = some i) :
    ∃ e, s.entry i = some e ∧ s.claimable b .live e = true ∧ s.separated b e = true := by
  unfold State.chooseNext at h
  split at h
  · obtain ⟨e, entry, _, free⟩ := State.mem_eligibleIn.1
      (State.bestOf_eq_some (s.eligibleIn_sorted b _) h).1
    exact ⟨e, entry, free⟩
  · exact absurd h nofun

/-! ### Actions -/

/-- The effects of the actions that the part runs whole (`State.acting`), on the state that they find. -/
inductive State.Act (s : State) : State → Prop
  | nothing : s.Act s
  | claim {b : Boom} {i : Slot} {e : Entry} : s.entry i = some e → (s.unit b).cycle = .idle →
      s.claimable b (claimValidity (s.unit b).dry) e = true → ((s.unit b).dry || s.separated b e) = true →
      s.Act (s.claimed b i)
  | cancelClaim {b : Boom} {i : Slot} {e : Entry} : (s.unit b).cycle = .claimed → s.claimedEntry b = some (i, e) →
      s.Act (s.claimCancelled b i)
  | collared {b : Boom} : (s.unit b).cycle = .claimed → s.Act (State.startDrilling b s)
  | bitOut {b : Boom} : (s.unit b).cycle = .withdrawing → s.Act (State.endWithdrawal b s)
  | boltIn {b : Boom} : (s.unit b).cycle = .awaitBolt → s.Act (State.startSpin b s)
  | suspend {b : Boom} {x : StoredState} : (s.unit b).cycle.suspendable = some x → s.Act (State.suspendBoom b x s)
  | resume {b : Boom} {x : StoredState} : (s.unit b).cycle = .suspended → (s.unit b).stored = some x →
      s.Act (State.resumeBoom b x s)
  | abort {b : Boom} : (s.unit b).cycle ≠ .idle → (s.unit b).cycle ≠ .halted → s.Act (State.abortBoom b s)
  | clear {b : Boom} : (s.unit b).cycle = .halted → s.Act (s.setCycle b .idle)
  | dry {b : Boom} {x : Bool} : (s.unit b).cycle = .idle →
      s.Act ((s.modUnit b fun u => { u with dry := x }).setLane b (s.lane b).dryReset)
  | clearJam : s.loader.state = .jammed → s.Act s.clearLoader
  | derate (n : Nat) : s.Act (s.setArbiter { s.arbiter with derate := s.arbiter.derateTo n }).servicePass
  | sample (b : Boom) (raw : RawSample) : s.Act (s.admitSample b raw)
  | character (b : Boom) (c : Byte) (good : Bool) : s.Act (s.takeCharacter b c good)
  | gap (b : Boom) : s.Act (s.tearFrame b)
  | loss (b : Boom) : s.Act (s.loseLane b)
  | period (b : Boom) : s.Act ((s.transferCount b).setLane b ((s.transferCount b).lane b).restartReport)
  | abandon {b : Boom} : (s.unit b).cycle = .drilling → s.Act (s.rejectDrilling b .laneLost)
  | spinMax {b : Boom} : (s.unit b).cycle = .spinning → s.Act (s.boomVerdict b .spinShort .idle)
  | setTimer {b : Boom} : (s.unit b).cycle = .setting → s.Act (s.enterTorquing b)
  | torqueStage {b : Boom} (v : VerdictReason) : (s.unit b).cycle = .torquing → v ≠ .good → v ≠ .weakAnchor → v ≠ .dry →
      s.Act (s.boomVerdict b v .idle)
  | fire : s.loader.state = .diverting ∨ s.loader.state = .gap → s.Act s.fireLoader
  | pulseEnd : s.Act (s.setLoader { s.loader with fire := false, pulseTimer := none })
  | done : s.loader.state = .firing → s.Act s.loaderDone
  | jam : s.loader.state = .firing → s.Act s.loaderJam

theorem State.Act.regular {s v : State} (h : s.Act v) : s.Regular v := by
  cases h with
  | nothing => exact .refl s
  | claim => exact .claimed s _ _
  | cancelClaim => exact .cancelClaim s _ _
  | collared => exact .startDrilling s _
  | bitOut => exact .endWithdrawal s _
  | boltIn => exact .startSpin s _
  | suspend => exact .suspendBoom s _ _
  | resume => exact .resumeBoom s _ _
  | abort => exact .abortBoom s _
  | clear => exact .setCycle s _ _
  | dry => exact .drySwitched s _ _
  | clearJam => exact .clearLoader s
  | derate => exact .trans (.setArbiter s _) (.servicePass _)
  | sample => exact .admitSample s _ _
  | character => exact .takeCharacter s _ _ _
  | gap => exact .tearFrame s _
  | loss => exact .loseLane s _
  | period => exact .trans (.transferCount s _) (.setLane _ _ _ id)
  | abandon => exact .rejectDrilling s _ _
  | spinMax => exact .boomVerdict s _ _ _
  | setTimer => exact .enterTorquing s _
  | torqueStage => exact .boomVerdict s _ _ _
  | fire => exact .fireLoader s
  | pulseEnd => exact .setLoader s _ (by exact le_refl _)
  | done => exact .loaderDone s
  | jam => exact .loaderJam s

/-! ### Deeds -/

/-- What the table commands that are taken do (chapter 1), with what they have checked. -/
inductive State.TableDeed (s : State) : State → Prop
  | openRow {id : Byte} : (s.row id).isSome = false → s.rows.length < 4 → s.TableDeed (s.setRows (s.rows ++ [newRow id]))
  | planHole {i : Slot} {row : Byte} {r : RowRecord} (position : Nat) (reach : Reach) (offset lengthClass priority : Nat) :
      s.nextFree = some i → s.row row = some r → r.state = .opened →
      s.TableDeed (s.writeSlot i (plannedEntry row position reach offset lengthClass priority))
  | endPlan {row : Byte} {r : RowRecord} : s.row row = some r → r.state = .opened →
      s.TableDeed ((s.modRow row fun r => { r with planEnded := true }).closingCheck row)
  | freeze {row : Byte} {r : RowRecord} : s.row row = some r → r.state = .closed →
      s.TableDeed ((s.clearDrained row).modRow row fun r => { r with state := .frozen })
  | thaw {row : Byte} {r : RowRecord} : s.row row = some r → r.state = .frozen →
      s.TableDeed ((s.clearDrained row).modRow row fun r => { r with state := .closed })
  | release {row : Byte} {r : RowRecord} : s.row row = some r → r.state = .frozen →
      s.TableDeed (((s.slotsOfRow row).foldl State.emptySlot s).setRows
        (((s.slotsOfRow row).foldl State.emptySlot s).rows.filter fun x => x.id != row)).drainBacklog
  | erase {i : Slot} {e : Entry} : s.entry i = some e → s.rowIs e.row .opened = true →
      e.holeState = .planned ∨ e.holeState = .tested →
      s.TableDeed (((s.emptySlot i).drainBacklog).closingCheck e.row)
  | setValidity {i : Slot} {e : Entry} (v : Validity) : s.entry i = some e → s.mayRevalidate e = true →
      s.TableDeed ((s.setEntry i (some { e with validity := v })).closingCheck e.row)
  | setValidities (l : List Slot) (v : Validity) : s.TableDeed (s.setValidityAll l v).state
  | cancelSupplements {row : Byte} {r : RowRecord} : s.row row = some r →
      s.TableDeed ((((s.parentsOf row).foldl (fun acc i => acc.modEntry i Entry.markLost)
        (s.setBacklog (s.backlog.filter fun i => !((s.parentsOf row).contains i)))).post .table).closingCheck row)

/-- What the commands and events do that set something by itself: a port's notices, context, cursor or pending set, the
protection mode, the stored figures, the magazine, or the level of a line. -/
inductive State.Setting (s : State) : State → Prop
  | configured (p : Port) (m : BitVec 13) (e : EdgeModes) :
      s.Setting (s.setPort p ({ s.port p with masks := m, edges := e }.withAtn s.resetLow))
  | searched (p : Port) {c : MatchContext} {scope row position reach holeState origin claimant mask : Byte} :
      s.searchContext scope row position reach holeState origin claimant mask = some c →
      s.Setting (s.setPort p { s.port p with context := c })
  | effect (p : Port) (x : ReadEffect) : s.Setting (s.takeEffect p x)
  | setProtection {m : Protection} : s.protection.rank ≤ m.rank ∨ s.protection = .guarded →
      s.Setting (s.setProtectionMode m)
  | writeSet (n : SetNo) (v : ParamValues) (m : VoidMode) : (clampValues v m).ordered = true →
      s.Setting (s.setParams (s.params.put n (clampValues v m)))
  | writeBoth (v w : ParamValues) (m k : VoidMode) : (clampValues v m).ordered = true →
      (clampValues w k).ordered = true →
      s.Setting (s.setParams { s.params with set0 := clampValues v m, set1 := clampValues w k })
  | settings (separation shift lowMark : Word16) : (s.unit .A).cycle = .idle → (s.unit .B).cycle = .idle →
      s.Setting (s.announcing fun s => s.setParams { s.params with settings := clampSettings separation shift lowMark })
  | refill {n : Nat} : n ≤ 40 → s.loader.state ≠ .firing → s.Setting (s.announcing (State.refillTo n))
  | supplyLoss : s.Setting (s.acting fun s => { s with supplyUp := false })
  | resetRelease : s.Setting (s.acting fun s => { s with resetLow := false }).refreshAtn

/-- What a taken command or event does, beside its port's frame and answer, on the state that it finds. RESTART and the
two resets are told apart from these. -/
inductive State.Deed (s : State) : State → Prop
  | nothing : s.Deed s
  | act {v : State} : s.Act v → s.Deed (v.sync.offersSince s)
  | table {u : State} : s.TableDeed u → s.Deed u
  | set {u : State} : s.Setting u → s.Deed u
  | selectBoth (n : SetNo) : s.Deed ((s.modUnit .A (BoomUnit.select n)).modUnit .B (BoomUnit.select n))
  | select (b : Boom) (n : SetNo) : s.Deed (s.modUnit b (BoomUnit.select n))
  | takeCount (b : Boom) : s.Deed (s.transferCount b)
  | reportMode (b : Boom) (m : ReportMode) : s.Deed (s.setLane b ((s.lane b).withMode m))

/-- A command is refused, which changes nothing, or taken as DONE or CLAMPED with one of the deeds of the part. -/
inductive Taken.Judged (s : State) (x : Taken) : Prop
  | refused (c : Code) : c ≠ .done → c ≠ .clamped → x = refuse s c → Judged s x
  | done : x.code = .done ∨ x.code = .clamped → s.Deed x.state → Judged s x

namespace Taken.Judged
variable {s : State}

theorem refuse (c : Code) (h : c ≠ .done ∧ c ≠ .clamped) : Taken.Judged s (Machine.refuse s c) := .refused c h.1 h.2 rfl

theorem takenDone {t : State} (h : s.Deed t) : Taken.Judged s (taken t .done) := .done (.inl rfl) h

theorem withSlot {t : State} {i : Option Slot} (h : s.Deed t) : Taken.Judged s ⟨t, .done, i⟩ := .done (.inl rfl) h

theorem takenOr {t : State} {x : Bool} {i : Option Slot} (h : s.Deed t) : Taken.Judged s ⟨t, doneOr x, i⟩ :=
  .done (by cases x <;> simp [doneOr]) h

theorem canopyOnly {p : Port} {x : Taken} (h : x.Judged s) : (Machine.canopyOnly p s x).Judged s := by
  unfold Machine.canopyOnly
  split
  · exact h
  · exact .refuse .denied (by decide)

theorem supervise {p : Port} {boom : Byte} {run : Boom → Taken} (h : ∀ b, (run b).Judged s) :
    (s.supervise p boom run).Judged s := by
  unfold State.supervise
  refine .canopyOnly ?_
  split
  · exact .refuse .state (by decide)
  · exact h _

theorem report {p : Port} {boom : Byte} {c : CycleState} {f : Boom → State → State}
    (h : ∀ b, (s.unit b).cycle = c → s.Act (f b s)) : (s.report p boom c f).Judged s := by
  unfold State.report
  split
  · exact .refuse .denied (by decide)
  · split
    · exact .refuse .state (by decide)
    · rename_i stage
      exact .withSlot (.act (h _ (not_not.1 stage)))

end Taken.Judged
end Sys2Proof.Machine

/-! PROOFS. Every command of a port judged: refused, or taken with its deed. -/

namespace Sys2Proof.Machine

/-- `f` is a command `n` of port `p` that is refused, or taken with a deed of the part. -/
def CommandJudged (f : State → Host.Outcome State Fault Refusal) (p : Port) (n : CommandName) : Prop :=
  ∃ run : State → Taken, (∀ s, f s = .next (s.command p n run)) ∧ ∀ s, (run s).Judged s

/-! ### Claims and reports -/

theorem State.targetSlot_error {s : State} {p : Port} {x : Byte} {c : Code} (h : s.targetSlot p x = .error c) :
    c ≠ .done ∧ c ≠ .clamped := by
  unfold State.targetSlot at h
  split at h
  · exact absurd h nofun
  · split at h
    · exact absurd h nofun
    · obtain rfl := Except.error.inj h
      decide
  · obtain rfl := Except.error.inj h
    decide
  · obtain rfl := Except.error.inj h
    decide

theorem State.claimNextBoom_not_dry {s : State} {p : Port} {b : Boom} (h : s.claimNextBoom p = some b) :
    (s.unit b).dry = false := by
  unfold State.claimNextBoom at h
  split at h
  · split at h
    · exact absurd h nofun
    · rename_i wet
      exact Option.some.inj h ▸ Bool.not_eq_true _ ▸ wet
  · split at h
    · exact absurd h nofun
    · rename_i wet
      exact Option.some.inj h ▸ Bool.not_eq_true _ ▸ wet
  · exact absurd h nofun

theorem execClaimNext_judged (p : Port) : CommandJudged (execClaimNext p) p .claimNext := by
  refine ⟨_, fun _ => rfl, fun s => ?_⟩
  split
  · exact .refuse .denied (by decide)
  · rename_i b issuer
    split
    · exact .refuse .state (by decide)
    · rename_i idle
      split
      · exact .refuse .noMatch (by decide)
      · rename_i i choice
        obtain ⟨e, entry, claimable, separated⟩ := State.chooseNext_eligible choice
        have wet := State.claimNextBoom_not_dry issuer
        exact .withSlot (.act (.claim entry (not_not.1 idle) (by rwa [wet]) (by rw [separated, Bool.or_true])))

theorem execClaimSlot_judged (p : Port) (boom target : Byte) :
    CommandJudged (execClaimSlot p boom target) p .claimSlot := by
  refine ⟨_, fun _ => rfl, fun s => ?_⟩
  split
  · exact .refuse .denied (by decide)
  · split
    · rename_i c named
      obtain ⟨done, clamped⟩ := State.targetSlot_error named
      exact .refuse c ⟨done, clamped⟩
    · split
      · exact .refuse .state (by decide)
      · rename_i e entry
        split
        · exact .refuse .isProtected (by decide)
        · split
          · exact .refuse .state (by decide)
          · rename_i idle
            split
            · rename_i claimable
              split
              · rename_i separated
                exact .withSlot (.act (.claim entry (not_not.1 idle) claimable separated))
              · exact .refuse .tooClose (by decide)
            · exact .refuse .state (by decide)

theorem execCancelClaim_judged (p : Port) (boom : Byte) : CommandJudged (execCancelClaim p boom) p .cancelClaim := by
  refine ⟨_, fun _ => rfl, fun s => ?_⟩
  split
  · exact .refuse .denied (by decide)
  · split
    · exact .refuse .state (by decide)
    · rename_i stage
      split
      · exact .refuse .state (by decide)
      · rename_i i e claim
        exact .withSlot (.act (.cancelClaim (not_not.1 stage) claim))

theorem execCollared_judged (p : Port) (boom : Byte) : CommandJudged (execCollared p boom) p .collared :=
  ⟨_, fun _ => rfl, fun _ => .report fun _ h => .collared h⟩

theorem execBitOut_judged (p : Port) (boom : Byte) : CommandJudged (execBitOut p boom) p .bitOut :=
  ⟨_, fun _ => rfl, fun _ => .report fun _ h => .bitOut h⟩

theorem execBoltIn_judged (p : Port) (boom : Byte) : CommandJudged (execBoltIn p boom) p .boltIn :=
  ⟨_, fun _ => rfl, fun _ => .report fun _ h => .boltIn h⟩

/-! ### The table -/

theorem execOpenRow_judged (p : Port) (row : Byte) : CommandJudged (execOpenRow p row) p .openRow := by
  refine ⟨_, fun _ => rfl, fun s => .canopyOnly ?_⟩
  split
  · exact .refuse .state (by decide)
  · rename_i absent
    split
    · exact .refuse .full (by decide)
    · rename_i room
      exact .takenDone (.table (.openRow (Bool.not_eq_true _ ▸ absent) (Nat.not_le.1 room)))

theorem execPlanHole_judged (p : Port) (row position reach : Byte) (offset : Word16) (lengthClass priority : Byte) :
    CommandJudged (execPlanHole p row position reach offset lengthClass priority) p .planHole := by
  refine ⟨_, fun _ => rfl, fun s => .canopyOnly ?_⟩
  split
  · exact .refuse .full (by decide)
  · rename_i i free
    split
    · exact .refuse .noRow (by decide)
    · rename_i r found
      split
      · exact .refuse .state (by decide)
      · rename_i planning
        split
        · split
          · exact .refuse .state (by decide)
          · exact .takenOr (.table (.planHole _ _ _ _ _ free found (not_not.1 (not_or.1 planning).1)))
        · exact .refuse .state (by decide)

theorem execEndPlan_judged (p : Port) (row : Byte) : CommandJudged (execEndPlan p row) p .endPlan := by
  refine ⟨_, fun _ => rfl, fun s => .canopyOnly ?_⟩
  split
  · exact .refuse .noRow (by decide)
  · rename_i r found
    split
    · exact .refuse .state (by decide)
    · rename_i opened
      split
      · exact .takenDone .nothing
      · exact .takenDone (.table (.endPlan found (not_not.1 opened)))

theorem execFreezeRow_judged (p : Port) (row : Byte) : CommandJudged (execFreezeRow p row) p .freezeRow := by
  refine ⟨_, fun _ => rfl, fun s => .canopyOnly ?_⟩
  split
  · exact .refuse .noRow (by decide)
  · rename_i r found
    split
    · exact .refuse .state (by decide)
    · rename_i closed
      exact .takenDone (.table (.freeze found (not_not.1 closed)))

theorem execThawRow_judged (p : Port) (row : Byte) : CommandJudged (execThawRow p row) p .thawRow := by
  refine ⟨_, fun _ => rfl, fun s => .canopyOnly ?_⟩
  split
  · exact .refuse .noRow (by decide)
  · rename_i r found
    split
    · exact .refuse .state (by decide)
    · rename_i frozen
      split
      · exact .takenDone (.table (.thaw found (not_not.1 frozen)))
      · exact .refuse .isProtected (by decide)

theorem execReleaseRow_judged (p : Port) (row : Byte) : CommandJudged (execReleaseRow p row) p .releaseRow := by
  refine ⟨_, fun _ => rfl, fun s => .canopyOnly ?_⟩
  split
  · exact .refuse .noRow (by decide)
  · rename_i r found
    split
    · exact .refuse .state (by decide)
    · rename_i frozen
      split
      · exact .takenDone (.table (.release found (not_not.1 frozen)))
      · exact .refuse .state (by decide)

theorem execSetProtection_judged (p : Port) (mode : Byte) :
    CommandJudged (execSetProtection p mode) p .setProtection := by
  refine ⟨_, fun _ => rfl, fun s => .canopyOnly ?_⟩
  split
  · exact .refuse .state (by decide)
  · split
    · rename_i raised
      exact .takenDone (.set (.setProtection (.inl raised)))
    · split
      · rename_i lowered
        exact .takenDone (.set (.setProtection (.inr lowered.1)))
      · exact .refuse .isProtected (by decide)

theorem execErase_judged (p : Port) (slot : Byte) : CommandJudged (execErase p slot) p .erase := by
  refine ⟨_, fun _ => rfl, fun s => .canopyOnly ?_⟩
  split
  · exact .refuse .state (by decide)
  · split
    · exact .refuse .state (by decide)
    · rename_i e entry
      split
      · exact .refuse .isProtected (by decide)
      · split
        · rename_i opened
          split
          · rename_i free
            exact .takenDone (.table (.erase entry opened free))
          · exact .refuse .state (by decide)
        · exact .refuse .state (by decide)

theorem State.setValidityAt_judged (s : State) (i : Slot) (v : Validity) : (s.setValidityAt i v).Judged s := by
  unfold State.setValidityAt
  split
  · exact .refuse .state (by decide)
  · rename_i e entry
    split
    · exact .refuse .isProtected (by decide)
    · split
      · rename_i eligible
        exact .takenDone (.table (.setValidity v entry eligible))
      · exact .refuse .state (by decide)

theorem State.setValidityAll_judged (s : State) (l : List Slot) (v : Validity) : (s.setValidityAll l v).Judged s := by
  by_cases none : (s.revalidatable l).isEmpty = true
  · refine .refused .state nofun nofun ?_
    simp only [State.setValidityAll, none, if_true]
  · refine .done (.inl ?_) (.table (.setValidities l v))
    simp only [State.setValidityAll, none]
    rfl

theorem execSetValidity_judged (p : Port) (target validity : Byte) :
    CommandJudged (execSetValidity p target validity) p .setValidity := by
  refine ⟨_, fun _ => rfl, fun s => .canopyOnly ?_⟩
  split
  · exact .refuse .state (by decide)
  · split
    · exact s.setValidityAll_judged _ _
    · exact s.setValidityAt_judged _ _
    · split
      · exact s.setValidityAt_judged _ _
      · exact .refuse .noMatch (by decide)
    · exact .refuse .state (by decide)

theorem execCancelSupplements_judged (p : Port) (row : Byte) :
    CommandJudged (execCancelSupplements p row) p .cancelSupplements := by
  refine ⟨_, fun _ => rfl, fun s => .canopyOnly ?_⟩
  split
  · exact .refuse .noRow (by decide)
  · rename_i r found
    split
    · exact .refuse .isProtected (by decide)
    · simp only []
      split
      · exact .takenDone .nothing
      · exact .takenDone (.table (.cancelSupplements found))

/-! ### Supervision -/

theorem execSuspend_judged (p : Port) (boom : Byte) : CommandJudged (execSuspend p boom) p .suspend := by
  refine ⟨_, fun _ => rfl, fun s => .supervise fun b => ?_⟩
  split
  · exact .refuse .state (by decide)
  · rename_i x stage
    exact .withSlot (.act (.suspend stage))

theorem execResume_judged (p : Port) (boom : Byte) : CommandJudged (execResume p boom) p .resume := by
  refine ⟨_, fun _ => rfl, fun s => .supervise fun b => ?_⟩
  split
  · rename_i stage stored
    exact .takenDone (.act (.resume stage stored))
  · exact .refuse .state (by decide)

theorem execAbort_judged (p : Port) (boom : Byte) : CommandJudged (execAbort p boom) p .abort := by
  refine ⟨_, fun _ => rfl, fun s => .supervise fun b => ?_⟩
  split
  · exact .refuse .state (by decide)
  · rename_i busy
    obtain ⟨idle, halted⟩ := not_or.1 busy
    exact .withSlot (.act (.abort idle halted))

theorem execClear_judged (p : Port) (boom : Byte) : CommandJudged (execClear p boom) p .clear := by
  refine ⟨_, fun _ => rfl, fun s => .supervise fun b => ?_⟩
  split
  · exact .refuse .state (by decide)
  · rename_i halted
    exact .takenDone (.act (.clear (not_not.1 halted)))

theorem State.setDry_judged (s : State) (b : Boom) (x : Bool) : (s.setDry b x).Judged s := by
  unfold State.setDry
  split
  · exact .refuse .state (by decide)
  · rename_i idle
    split
    · exact .takenDone .nothing
    · exact .takenDone (.act (.dry (not_not.1 idle)))

theorem execDryOn_judged (p : Port) (boom : Byte) : CommandJudged (execDryOn p boom) p .dryOn :=
  ⟨_, fun _ => rfl, fun s => .supervise fun b => s.setDry_judged b true⟩

theorem execDryOff_judged (p : Port) (boom : Byte) : CommandJudged (execDryOff p boom) p .dryOff :=
  ⟨_, fun _ => rfl, fun s => .supervise fun b => s.setDry_judged b false⟩

/-! ### Parameters and flow -/

theorem State.writeSet_judged (s : State) (n : SetNo) (v : ParamValues) : (s.writeSet n v).Judged s := by
  unfold State.writeSet
  split
  · exact .refuse .inUse (by decide)
  · split
    · exact .refuse .state (by decide)
    · split
      · rename_i m _ ordered
        exact .takenOr (.set (.writeSet n v m ordered))
      · exact .refuse .state (by decide)

theorem State.writeBoth_judged (s : State) (v w : ParamValues) : (s.writeBoth v w).Judged s := by
  unfold State.writeBoth
  split
  · exact .refuse .inUse (by decide)
  · split
    · split
      · rename_i m k _ _ ordered
        obtain ⟨first, second⟩ := Bool.and_eq_true _ _ ▸ ordered
        exact .takenOr (.set (.writeBoth v w m k first second))
      · exact .refuse .state (by decide)
    · exact .refuse .state (by decide)

theorem execWriteParameters_judged (p : Port) (set : Byte) (paired : Bool) (first second : ParamValues) :
    CommandJudged (execWriteParameters p set paired first second) p .writeParameters := by
  refine ⟨_, fun _ => rfl, fun s => .canopyOnly ?_⟩
  split
  · exact s.writeBoth_judged first second
  · split
    · exact .refuse .state (by decide)
    · exact s.writeSet_judged _ first

theorem execSelectSet_judged (p : Port) (boom set : Byte) : CommandJudged (execSelectSet p boom set) p .selectSet := by
  refine ⟨_, fun _ => rfl, fun s => .canopyOnly ?_⟩
  split
  · exact .refuse .state (by decide)
  · split
    · exact .takenDone (.selectBoth _)
    · split
      · exact .takenDone (.select _ _)
      · exact .refuse .state (by decide)

theorem execWriteMachineSettings_judged (p : Port) (separation shift lowMark : Word16) :
    CommandJudged (execWriteMachineSettings p separation shift lowMark) p .writeMachineSettings := by
  refine ⟨_, fun _ => rfl, fun s => .canopyOnly ?_⟩
  split
  · exact .refuse .inUse (by decide)
  · rename_i busy
    obtain ⟨idleA, idleB⟩ := not_or.1 busy
    exact .takenOr (.set (.settings separation shift lowMark (not_not.1 idleA) (not_not.1 idleB)))

theorem execDerate_judged (p : Port) (target : Byte) : CommandJudged (execDerate p target) p .derate := by
  refine ⟨_, fun _ => rfl, fun s => .canopyOnly ?_⟩
  split
  · exact .takenDone .nothing
  · exact .takenOr (.act (.derate target.toNat))

/-! ### Loader and lanes -/

theorem execRefill_judged (p : Port) (count : Byte) : CommandJudged (execRefill p count) p .refill := by
  refine ⟨_, fun _ => rfl, fun s => .canopyOnly ?_⟩
  split
  · exact .refuse .busy (by decide)
  · rename_i free
    exact .takenOr (.set (.refill (Nat.min_le_left _ _) free))

theorem execClearJam_judged (p : Port) : CommandJudged (execClearJam p) p .clearJam := by
  refine ⟨_, fun _ => rfl, fun s => .canopyOnly ?_⟩
  split
  · rename_i jammed
    exact .takenDone (.act (.clearJam jammed))
  · exact .refuse .state (by decide)

theorem execTakeCount_judged (p : Port) (lane : Byte) : CommandJudged (execTakeCount p lane) p .takeCount := by
  refine ⟨_, fun _ => rfl, fun s => .canopyOnly ?_⟩
  split
  · exact .refuse .state (by decide)
  · split
    · exact .refuse .state (by decide)
    · exact .takenDone (.takeCount _)

theorem execSetReportMode_judged (p : Port) (lane mode : Byte) :
    CommandJudged (execSetReportMode p lane mode) p .setReportMode := by
  refine ⟨_, fun _ => rfl, fun s => .canopyOnly ?_⟩
  split
  · exact .takenDone (.reportMode _ _)
  · exact .refuse .state (by decide)

theorem execFeedSample_judged (p : Port) (boom seq : Byte) (position thrust speed torque : Word16) (flags : Byte) :
    CommandJudged (execFeedSample p boom seq position thrust speed torque flags) p .feedSample := by
  refine ⟨_, fun _ => rfl, fun s => .canopyOnly ?_⟩
  split
  · exact .refuse .state (by decide)
  · split
    · exact .takenOr (.act (.sample _ _))
    · exact .refuse .state (by decide)

/-! ### Every command -/

/-- Every command that only Port C may issue is judged so, but RESTART. -/
theorem canopyCommand_judged {c : Instr} {p : Port} {n : CommandName} (h : c.canopyCommand = some (p, n))
    (hr : c ≠ .restart p) : CommandJudged (exec c) p n := by
  cases c with
  | openRow => obtain ⟨⟩ := h; exact execOpenRow_judged _ _
  | planHole => obtain ⟨⟩ := h; exact execPlanHole_judged _ _ _ _ _ _ _
  | endPlan => obtain ⟨⟩ := h; exact execEndPlan_judged _ _
  | freezeRow => obtain ⟨⟩ := h; exact execFreezeRow_judged _ _
  | thawRow => obtain ⟨⟩ := h; exact execThawRow_judged _ _
  | releaseRow => obtain ⟨⟩ := h; exact execReleaseRow_judged _ _
  | setProtection => obtain ⟨⟩ := h; exact execSetProtection_judged _ _
  | erase => obtain ⟨⟩ := h; exact execErase_judged _ _
  | setValidity => obtain ⟨⟩ := h; exact execSetValidity_judged _ _ _
  | cancelSupplements => obtain ⟨⟩ := h; exact execCancelSupplements_judged _ _
  | suspend => obtain ⟨⟩ := h; exact execSuspend_judged _ _
  | resume => obtain ⟨⟩ := h; exact execResume_judged _ _
  | abort => obtain ⟨⟩ := h; exact execAbort_judged _ _
  | clear => obtain ⟨⟩ := h; exact execClear_judged _ _
  | dryOn => obtain ⟨⟩ := h; exact execDryOn_judged _ _
  | dryOff => obtain ⟨⟩ := h; exact execDryOff_judged _ _
  | restart => obtain ⟨⟩ := h; exact absurd rfl hr
  | writeParameters => obtain ⟨⟩ := h; exact execWriteParameters_judged _ _ _ _ _
  | selectSet => obtain ⟨⟩ := h; exact execSelectSet_judged _ _ _
  | writeMachineSettings => obtain ⟨⟩ := h; exact execWriteMachineSettings_judged _ _ _ _
  | refill => obtain ⟨⟩ := h; exact execRefill_judged _ _
  | clearJam => obtain ⟨⟩ := h; exact execClearJam_judged _
  | derate => obtain ⟨⟩ := h; exact execDerate_judged _ _
  | takeCount => obtain ⟨⟩ := h; exact execTakeCount_judged _ _
  | setReportMode => obtain ⟨⟩ := h; exact execSetReportMode_judged _ _ _
  | feedSample => obtain ⟨⟩ := h; exact execFeedSample_judged _ _ _ _ _ _ _ _
  | _ => exact absurd h nofun

/-- Every claim or cycle command is judged so. -/
theorem boomCommand_judged {c : Instr} {p : Port} {boom : Byte} {n : CommandName}
    (h : c.boomCommand = some (p, boom, n)) : CommandJudged (exec c) p n := by
  cases c with
  | claimSlot => obtain ⟨⟩ := h; exact execClaimSlot_judged _ _ _
  | cancelClaim => obtain ⟨⟩ := h; exact execCancelClaim_judged _ _
  | collared => obtain ⟨⟩ := h; exact execCollared_judged _ _
  | bitOut => obtain ⟨⟩ := h; exact execBitOut_judged _ _
  | boltIn => obtain ⟨⟩ := h; exact execBoltIn_judged _ _
  | _ => exact absurd h nofun

end Sys2Proof.Machine

/-! PROOFS. Every command and event but the resets is a deed of the part, beside its port's frame and answer; what a refused
and a denied command leave. -/

namespace Sys2Proof.Machine

/-! ### Frames and answers -/

/-- The frames and last-result records of the ports and the count of reads may differ; everything else is the same. -/
structure State.SameButFrames (s t : State) : Prop where
  blocks : t = { s with ports := t.ports, readCount := t.readCount }
  ports : ∀ p, t.port p = { s.port p with frame := (t.port p).frame, last := (t.port p).last }

namespace State.SameButFrames

theorem refl (s : State) : s.SameButFrames s := ⟨rfl, fun _ => rfl⟩

theorem trans {s t u : State} (h : s.SameButFrames t) (k : t.SameButFrames u) : s.SameButFrames u := by
  refine ⟨?_, fun p => ?_⟩
  · rw [k.blocks, h.blocks]
  · rw [k.ports p, h.ports p]

theorem setPort (s : State) (p : Port) {q : PortState}
    (h : q = { s.port p with frame := q.frame, last := q.last }) : s.SameButFrames (s.setPort p q) := by
  refine ⟨rfl, fun r => ?_⟩
  rw [State.port_setPort]
  split
  · rename_i own
    rw [own]
    exact h
  · rfl

theorem setFrame (s : State) (p : Port) (f : Frame) : s.SameButFrames (s.setFrame p f) := .setPort s p rfl

theorem setLast (s : State) (p : Port) (r : LastResult) : s.SameButFrames (s.setLast p r) := .setPort s p rfl

theorem answered (s : State) (p : Port) (n : CommandName) (c : Code) (slot : Option Slot) :
    s.SameButFrames (s.answered p n c slot) := .setPort s p rfl

theorem settleRead (s : State) (p : Port) (k : Nat) (a : Answer) : s.SameButFrames (s.settleRead p k a) :=
  .trans (.setFrame s p _) ⟨rfl, fun _ => rfl⟩

theorem read (s : State) (p : Port) (n : CommandName) (k : Nat) (a : Answer) : s.SameButFrames (s.read p n k a) := by
  unfold State.read
  split
  · exact .refl s
  · exact .trans (.settleRead s p k a) (.setLast _ p _)

end State.SameButFrames

/-! ### Deeds of commands -/

/-- The part comes from `s` to `t` by one deed, beside frames and answers. -/
def State.Does (s t : State) : Prop := ∃ v u, s.SameButFrames v ∧ v.Deed u ∧ u.SameButFrames t

theorem State.SameButFrames.does {s t : State} (h : s.SameButFrames t) : s.Does t := ⟨s, s, .refl s, .nothing, h⟩

theorem State.Deed.does {s t : State} (h : s.Deed t) : s.Does t := ⟨s, t, .refl s, h, .refl t⟩

theorem Taken.Judged.deed {s : State} {x : Taken} (h : x.Judged s) : s.Deed x.state := by
  cases h with
  | refused c _ _ same => rw [same]; exact .nothing
  | done _ deed => exact deed

theorem State.command_does {s : State} {p : Port} {n : CommandName} {run : State → Taken}
    (h : ∀ v : State, v.Deed (run v).state) : s.Does (s.command p n run) := by
  unfold State.command
  split
  · exact (State.SameButFrames.setFrame s p _).does
  · exact ⟨_, _, .setFrame s p _, h _, .setLast _ p _⟩

theorem CommandJudged.does {f : State → Host.Outcome State Fault Refusal} {p : Port} {n : CommandName}
    (h : CommandJudged f p n) {s t : State} (k : f s = .next t) : s.Does t := by
  obtain ⟨run, runs, judged⟩ := h
  obtain rfl := Host.Outcome.next.inj ((runs s).symm.trans k)
  exact State.command_does fun v => (judged v).deed

theorem State.event_does {s : State} {f : State → State} (h : s.Act (f s)) : s.Does (s.event f) := by
  unfold State.event
  split
  · exact (State.SameButFrames.refl s).does
  · exact (State.Deed.act h).does

theorem State.Act.ite {s v : State} {c : Prop} [Decidable c] (h : c → s.Act v) : s.Act (if c then v else s) := by
  split
  · rename_i holds
    exact h holds
  · exact .nothing

/-! ### Frames and reads -/

theorem execUnknown_does (p : Port) (x : Byte) (s : State) : ∃ t, execUnknown p x s = .next t ∧ s.Does t := by
  refine ⟨_, rfl, State.SameButFrames.does ?_⟩
  split
  · exact .setFrame s p _
  · split
    · exact .refl s
    · exact .trans (.setFrame s p _) (.setLast _ p _)

theorem execTorn_does (p : Port) (bytes : List Byte) (s : State) : ∃ t, execTorn p bytes s = .next t ∧ s.Does t := by
  refine ⟨_, rfl, State.SameButFrames.does ?_⟩
  split
  · exact .setFrame s p _
  · split
    · exact .setFrame s p _
    · split
      · exact .trans (.setFrame s p _) (.setLast _ p _)
      · split
        · exact .trans (.setFrame s p _) (.setLast _ p _)
        · exact .refl s

theorem State.riseAfterReply_does (s : State) (p : Port) (clocked : Nat) : s.Does (s.riseAfterReply p clocked) := by
  unfold State.riseAfterReply
  split
  · exact (State.SameButFrames.setFrame s p _).does
  · split
    · simp only []
      split
      · exact ⟨_, _, .setFrame s p _, .set (.effect p _), .refl _⟩
      · exact (State.SameButFrames.setFrame s p _).does
    · exact (State.SameButFrames.setFrame s p _).does

theorem execLastResult_does (p : Port) (s : State) : ∃ t, execLastResult p s = .next t ∧ s.Does t := by
  refine ⟨_, rfl, State.SameButFrames.does ?_⟩
  split
  · exact .refl s
  · exact .settleRead s p _ _

theorem execConfigureNotices_does (p : Port) (mask : Word16) (permit void lane loader magazineLow : Byte) (s : State) :
    ∃ t, execConfigureNotices p mask permit void lane loader magazineLow s = .next t ∧ s.Does t := by
  refine ⟨_, rfl, State.command_does fun v => ?_⟩
  simp only []
  split
  · exact .set (.configured p _ _)
  · exact .nothing

theorem execSearch_does (p : Port) (scope row position reach holeState origin claimant mask : Byte) (s : State) :
    ∃ t, execSearch p scope row position reach holeState origin claimant mask s = .next t ∧ s.Does t := by
  refine ⟨_, rfl, State.command_does fun v => ?_⟩
  simp only []
  split
  · exact .nothing
  · rename_i c found
    exact .set (.searched p found)

/-! ### Every command and event -/

/-- Everything a command or event can be but a reset is a deed of the part. -/
theorem exec_does {c : Instr} {s t : State} (h : exec c s = .next t) (powerOn : c ≠ .powerOn) (resetN : c ≠ .resetN)
    (restart : ∀ p, c ≠ .restart p) : s.Does t := by
  have found : ∀ {u : State}, exec c s = .next u → s.Does u → s.Does t := fun hu k =>
    Host.Outcome.next.inj (hu.symm.trans h) ▸ k
  cases canopy : c.canopyCommand with
  | some x =>
    obtain ⟨p, n⟩ := x
    exact (canopyCommand_judged canopy (restart p)).does h
  | none =>
  cases boom : c.boomCommand with
  | some x =>
    obtain ⟨p, y, n⟩ := x
    exact (boomCommand_judged boom).does h
  | none =>
  cases c with
  | powerOn => exact absurd rfl powerOn
  | resetN => exact absurd rfl resetN
  | frameStart p => exact found rfl (State.SameButFrames.setFrame s p _).does
  | unknown p x => obtain ⟨_, e, k⟩ := execUnknown_does p x s; exact found e k
  | torn p bytes => obtain ⟨_, e, k⟩ := execTorn_does p bytes s; exact found e k
  | readEffects p clocked => exact found rfl (s.riseAfterReply_does p clocked)
  | lastResult p => obtain ⟨_, e, k⟩ := execLastResult_does p s; exact found e k
  | readStatus p => exact found rfl (State.SameButFrames.read s p _ _ _).does
  | notices p => exact found rfl (State.SameButFrames.read s p _ _ _).does
  | configureNotices p mask a b x y z =>
    obtain ⟨_, e, k⟩ := execConfigureNotices_does p mask a b x y z s
    exact found e k
  | readNoticeSettings p => exact found rfl (State.SameButFrames.read s p _ _ _).does
  | search p scope row position reach holeState origin claimant mask =>
    obtain ⟨_, e, k⟩ := execSearch_does p scope row position reach holeState origin claimant mask s
    exact found e k
  | readMatches p => exact found rfl (State.SameButFrames.read s p _ _ _).does
  | readEntry p => exact found rfl (State.SameButFrames.read s p _ _ _).does
  | readNext p => exact found rfl (State.SameButFrames.read s p _ _ _).does
  | readParameters p => exact found rfl (State.SameButFrames.read s p _ _ _).does
  | claimNext p => exact (execClaimNext_judged p).does h
  | laneCharacter b x good => exact found rfl (State.event_does (.character b x good))
  | gapTimerExpiry b => exact found rfl (State.event_does (.ite fun _ => .gap b))
  | lossTimerExpiry b => exact found rfl (State.event_does (.ite fun _ => .loss b))
  | reportPeriodExpiry b => exact found rfl (State.event_does (.ite fun _ => .period b))
  | laneAbandonExpiry b => exact found rfl (State.event_does (.ite fun due => .abandon due.1))
  | spinMaxExpiry b => exact found rfl (State.event_does (.ite fun due => .spinMax due.1))
  | setTimerExpiry b => exact found rfl (State.event_does (.ite fun due => .setTimer due.1))
  | torqueStageExpiry b =>
    refine found rfl (State.event_does (.ite fun due => ?_))
    cases (s.engine b).seated with
    | true => exact .torqueStage _ due.1 nofun nofun nofun
    | false => exact .torqueStage _ due.1 nofun nofun nofun
  | settleExpiry => exact found rfl (State.event_does (.ite fun due => .fire (.inl due.1)))
  | loaderGapExpiry => exact found rfl (State.event_does (.ite fun due => .fire (.inr due.1)))
  | doneEdge => exact found rfl (State.event_does (.ite fun firing => .done firing))
  | jamEdge => exact found rfl (State.event_does (.ite fun firing => .jam firing))
  | doneTimeoutExpiry => exact found rfl (State.event_does (.ite fun due => .jam due.1))
  | supplyLoss => exact found rfl (State.Deed.does (.set .supplyLoss))
  | resetNRelease => exact found rfl (State.Deed.does (.set .resetRelease))
  | firePulseEnd => exact found rfl (State.event_does (.ite fun _ => .pulseEnd))
  | claimSlot | cancelClaim | collared | bitOut | boltIn => exact absurd boom nofun
  | _ => exact absurd canopy nofun

/-- RESTART is refused, lost with its frame, or disposes of the holes and resets the part. -/
theorem execRestart_cases {p : Port} {s t : State} (h : execRestart p s = .next t) :
    s.SameButFrames t ∨ p = .C ∧ s.Takes .C ∧ t = (s.setFrame .C .idle).restartPart := by
  obtain rfl := Host.Outcome.next.inj h
  split
  · exact .inl (.setFrame s p _)
  · rename_i taken
    split
    · rename_i port
      subst port
      exact .inr ⟨rfl, Bool.eq_false_iff.2 taken, rfl⟩
    · refine .inl ?_
      rw [State.command_taken (Bool.eq_false_iff.2 taken)]
      exact .trans (.setFrame s p _) (.setLast _ p _)

end Sys2Proof.Machine

/-! PROOFS. The table commands touch the table and the ports only, and most deeds are regular changes (`State.Regular`). -/

namespace Sys2Proof.Machine

/-! ### Changes of the table -/

/-- Nothing but the slots, the rows, the backlog and the ports is different. -/
def State.TableOnly (s t : State) : Prop := ∃ x r l p, t = { s with slots := x, rows := r, backlog := l, ports := p }

namespace State.TableOnly

theorem refl (s : State) : s.TableOnly s := ⟨s.slots, s.rows, s.backlog, s.ports, rfl⟩

theorem trans {s t u : State} (h : s.TableOnly t) (k : t.TableOnly u) : s.TableOnly u := by
  obtain ⟨x, r, l, p, rfl⟩ := h
  obtain ⟨x', r', l', p', rfl⟩ := k
  exact ⟨x', r', l', p', rfl⟩

theorem setRows (s : State) (r : List RowRecord) : s.TableOnly (s.setRows r) := ⟨_, r, _, _, rfl⟩

theorem setEntry (s : State) (i : Slot) (e : Option Entry) : s.TableOnly (s.setEntry i e) := ⟨_, _, _, _, rfl⟩

theorem setBacklog (s : State) (l : List Slot) : s.TableOnly (s.setBacklog l) := ⟨_, _, l, _, rfl⟩

theorem post (s : State) (n : NoticePair) : s.TableOnly (s.post n) := ⟨_, _, _, _, rfl⟩

theorem closingCheck (s : State) (id : Byte) : s.TableOnly (s.closingCheck id) := by
  rw [State.closingCheck_frame]
  exact ⟨_, _, _, _, rfl⟩

theorem modEntry (s : State) (i : Slot) (f : Entry → Entry) : s.TableOnly (s.modEntry i f) := by
  obtain ⟨x, h⟩ := State.modEntry_frame s i f
  exact ⟨x, _, _, _, h⟩

theorem writeSlot (s : State) (i : Slot) (e : Entry) : s.TableOnly (s.writeSlot i e) := by
  obtain ⟨x, r, p, h⟩ := State.writeSlot_frame s i e
  exact ⟨x, r, _, p, h⟩

theorem emptySlot (s : State) (i : Slot) : s.TableOnly (s.emptySlot i) := by
  obtain ⟨x, r, p, h⟩ := State.emptySlot_frame s i
  exact ⟨x, r, _, p, h⟩

theorem writeSupplement (s : State) (i : Slot) : s.TableOnly (s.writeSupplement i) := by
  obtain ⟨x, r, p, h⟩ := State.writeSupplement_frame s i
  exact ⟨x, r, _, p, h⟩

theorem drain (n : Nat) (s : State) : s.TableOnly (s.drain n) := by
  induction n generalizing s with
  | zero => exact .refl s
  | succ n ih =>
    unfold State.drain
    split
    · exact .refl s
    · split
      · exact .refl s
      · split
        · exact .trans (.trans (.trans (.setBacklog s _) (.writeSupplement _ _)) (.closingCheck _ _)) (ih _)
        · exact .trans (.setBacklog s _) (ih _)

theorem tableVerdict (s : State) (i : Slot) (v : VerdictReason) : s.TableOnly (s.tableVerdict i v) :=
  s.tableVerdict_frame i v

theorem fold {α : Type} {f : State → α → State} (h : ∀ (s : State) x, s.TableOnly (f s x)) (l : List α) (s : State) :
    s.TableOnly (l.foldl f s) := by
  induction l generalizing s with
  | nil => exact .refl s
  | cons x rest ih => exact (h s x).trans (ih _)

theorem clearDrained (s : State) (row : Byte) : s.TableOnly (s.clearDrained row) := .fold (fun s i => .modEntry s i _) _ s

end State.TableOnly

/-- The closing check of the row of the entry in a slot. -/
def State.closeRowOf (s : State) (i : Slot) : State :=
  match s.entry i with
  | some e => s.closingCheck e.row
  | none => s

/-- SET VALIDITY at the match set: nothing where no member is eligible, else the changes and then the closing checks. -/
theorem State.setValidityAll_state (s : State) (l : List Slot) (v : Validity) : (s.setValidityAll l v).state =
    if (s.revalidatable l).isEmpty then s
    else (s.revalidatable l).foldl State.closeRowOf
      ((s.revalidatable l).foldl (fun acc i => acc.modEntry i fun e => { e with validity := v }) s) := by
  unfold State.setValidityAll
  simp only []
  split <;> rfl

theorem State.TableDeed.tableOnly {s u : State} (h : s.TableDeed u) : s.TableOnly u := by
  cases h with
  | openRow => exact .setRows s _
  | planHole => exact .writeSlot s _ _
  | endPlan => exact .trans (.setRows s _) (.closingCheck _ _)
  | freeze => exact .trans (.clearDrained s _) (.setRows _ _)
  | thaw => exact .trans (.clearDrained s _) (.setRows _ _)
  | release => exact .trans (.trans (.fold .emptySlot _ s) (.setRows _ _)) (.drain _ _)
  | erase => exact .trans (.trans (.emptySlot s _) (.drain _ _)) (.closingCheck _ _)
  | setValidity => exact .trans (.setEntry s _ _) (.closingCheck _ _)
  | setValidities l v =>
    rw [State.setValidityAll_state]
    split
    · exact .refl s
    · refine .trans (.fold (fun s i => .modEntry s i _) _ s) (.fold (fun s i => ?_) _ _)
      unfold State.closeRowOf
      split
      · exact .closingCheck s _
      · exact .refl s
  | cancelSupplements =>
    exact .trans (.trans (.trans (.setBacklog s _) (.fold (fun s i => .modEntry s i _) _ _)) (.post _ _))
      (.closingCheck _ _)

/-! ### Regular deeds -/

theorem State.Regular.clearDrained (s : State) (row : Byte) : s.Regular (s.clearDrained row) :=
  .fold (fun s i => .modEntry s i _ (by exact fun _ k => k.congr rfl)) _ s

theorem State.TableDeed.regular {s u : State} (h : s.TableDeed u) : s.Regular u := by
  cases h with
  | openRow => exact .setRows s _
  | planHole => exact .writeSlot s _ rfl
  | endPlan => exact .trans (.setRows s _) (.closingCheck _ _)
  | freeze => exact .trans (.clearDrained s _) (.setRows _ _)
  | thaw => exact .trans (.clearDrained s _) (.setRows _ _)
  | release => exact .trans (.trans (.fold .emptySlot _ s) (.setRows _ _)) (.drainBacklog _)
  | erase => exact .trans (.trans (.emptySlot s _) (.drainBacklog _)) (.closingCheck _ _)
  | @setValidity i e v entry =>
    refine .trans (.setEntry s _ _ fun q f hf => ?_) (.closingCheck _ _)
    obtain rfl := Option.some.inj hf
    exact fun r hr => q i e r entry hr
  | setValidities l v =>
    rw [State.setValidityAll_state]
    split
    · exact .refl s
    · refine .trans (.fold (fun s i => .modEntry s i _ (by exact fun _ k => k.congr rfl)) _ s) (.fold (fun s i => ?_) _ _)
      unfold State.closeRowOf
      split
      · exact .closingCheck s _
      · exact .refl s
  | cancelSupplements =>
    exact .trans (.trans (.trans (.setBacklog s _ fun h => (List.length_filter_le _ _).trans h)
      (.fold (fun s i => .markLost s i) _ _)) (.post _ _)) (.closingCheck _ _)

theorem State.Regular.reportMode (s : State) (b : Boom) (m : ReportMode) :
    s.Regular (s.setLane b ((s.lane b).withMode m)) := by
  refine .setLane s b _ fun k => ?_
  unfold Lane.withMode
  split <;> exact k

theorem State.Deed.regular {s u : State} (h : s.Deed u) : s.Regular u ∨ s.Setting u := by
  cases h with
  | nothing => exact .inl (.refl s)
  | act act => exact .inl (act.regular.trans (.trans (.sync _) (.offersSince _ s)))
  | table deed => exact .inl deed.regular
  | set set => exact .inr set
  | selectBoth => exact .inl (.trans (.modUnit s _ _ (by exact id)) (.modUnit _ _ _ (by exact id)))
  | select => exact .inl (.modUnit s _ _ (by exact id))
  | takeCount => exact .inl (.transferCount s _)
  | reportMode => exact .inl (.reportMode s _ _)

/-! ### SHIFT -/

theorem State.takeEffect_frame (s : State) (p : Port) (x : ReadEffect) :
    ∃ y q, s.takeEffect p x = { s with slots := y, ports := q } := by
  unfold State.takeEffect
  split
  · exact ⟨s.slots, s.ports, rfl⟩
  · simp only []
    split
    · obtain ⟨y, h⟩ := State.modEntry_frame (s.setPort p { s.port p with cursor := _ }) _ Entry.drain
      rw [h]
      exact ⟨_, _, rfl⟩
    · exact ⟨s.slots, _, rfl⟩
  · exact ⟨s.slots, _, rfl⟩

theorem State.announcing_frame (s : State) (f : State → State) : ∃ p, s.announcing f = { f s with ports := p } :=
  State.offersSince_frame _ s

theorem State.refillTo_frame (n : Nat) (s : State) : ∃ l, s.refillTo n = { s with loader := l } := by
  unfold State.refillTo
  simp only []
  split
  · unfold State.fireLoader
    split <;> exact ⟨_, rfl⟩
  · exact ⟨_, rfl⟩

/-- No deed leaves SHIFT. -/
theorem State.Deed.shift {s u : State} (h : s.Deed u) (shift : s.protection = .shift) : u.protection = .shift := by
  rcases h.regular with k | k
  · exact k.protection.trans shift
  · cases k with
    | configured | searched | writeSet | writeBoth => exact shift
    | effect p x =>
      obtain ⟨_, _, e⟩ := s.takeEffect_frame p x
      rw [e]
      exact shift
    | @setProtection m raised =>
      rcases raised with raised | guarded
      · rw [shift] at raised
        cases m with
        | shift => rfl
        | opened | guarded => exact absurd raised (by decide)
      · exact absurd (shift.symm.trans guarded) nofun
    | settings =>
      obtain ⟨_, e⟩ := s.announcing_frame fun s => s.setParams _
      rw [e]
      exact shift
    | @refill n =>
      obtain ⟨_, e⟩ := s.announcing_frame (State.refillTo n)
      obtain ⟨_, k⟩ := State.refillTo_frame n s
      rw [e, k]
      exact shift
    | supplyLoss => exact (State.acting_protection (s := s) (f := fun s => { s with supplyUp := false })).trans shift
    | resetRelease => exact (State.acting_protection (s := s) (f := fun s => { s with resetLow := false })).trans shift

end Sys2Proof.Machine

/-! PROOFS. RESTART and the resets, and the statements on authority, refusals and SHIFT. -/

namespace Sys2Proof.Machine

/-! ### RESTART -/

/-- The part after the dispositions of a RESTART, their closing checks and their notices (R24, R68). -/
def State.restartDisposed (s : State) : State :=
  ((((((s.mapPorts PortState.restartNotices).disposeRestart .A).disposeRestart .B).closeDisposed s .A).closeDisposed s
    .B).restartPosts s .A).restartPosts s .B

theorem State.restartPart_eq (s : State) : s.restartPart = { s.restartDisposed with
    units := ⟨(s.restartDisposed.unit .A).restarted, (s.restartDisposed.unit .B).restarted⟩
    lanes := ⟨(s.restartDisposed.lane .A).restarted, (s.restartDisposed.lane .B).restarted⟩
    engines := ⟨.initial, .initial⟩
    loader := s.restartDisposed.loader.restarted
    arbiter := s.restartDisposed.arbiter.restarted
    ports := s.restartDisposed.ports.map PortState.restarted } := rfl

theorem State.Regular.disposeRestart (s : State) (b : Boom) : s.Regular (s.disposeRestart b) := by
  unfold State.disposeRestart
  split
  · split
    · refine .setEntry s _ _ fun _ f hf => ?_
      obtain rfl := Option.some.inj hf
      exact Entry.profileAgrees_none rfl
    · exact .trans (.trans (.noteDepth s b _) (.tableVerdict _ _ _)) (.post _ _)
  · exact .refl s

theorem State.Regular.closeDisposed (s before : State) (b : Boom) : s.Regular (s.closeDisposed before b) := by
  unfold State.closeDisposed
  split
  · exact .closingCheck s _
  · exact .refl s

theorem State.Regular.restartPosts (s before : State) (b : Boom) : s.Regular (s.restartPosts before b) := by
  have posted : s.Regular (if (before.unit b).cycle = .idle then s else s.post (.stage b)) := by
    split
    · exact .refl s
    · exact .post s _
  unfold State.restartPosts
  simp only []
  split
  · exact posted.trans (.post _ _)
  · exact posted

theorem State.Regular.restartDisposed (s : State) : (s.mapPorts PortState.restartNotices).Regular s.restartDisposed :=
  .trans (.trans (.trans (.trans (.trans (.disposeRestart _ .A) (.disposeRestart _ .B)) (.closeDisposed _ s .A))
    (.closeDisposed _ s .B)) (.restartPosts _ s .A)) (.restartPosts _ s .B)

/-! ### Settling -/

theorem State.port_answered_code (s : State) (p : Port) (n : CommandName) (c : Code) (slot : Option Slot) :
    ((s.answered p n c slot).port p).last.code = c := by
  rw [State.answered, State.port_setPort_same]

theorem State.port_setLast_code (s : State) (p : Port) (r : LastResult) :
    ((s.setLast p r).port p).last.code = r.code := by
  rw [State.setLast, State.port_setPort_same]

/-- A judged command whose record is neither DONE nor CLAMPED was refused, and changes nothing else. -/
theorem CommandJudged.refused {f : State → Host.Outcome State Fault Refusal} {p : Port} {n : CommandName}
    (h : CommandJudged f p n) {s t : State} (takes : s.Takes p) (k : f s = .next t)
    (done : (t.port p).last.code ≠ .done) (clamped : (t.port p).last.code ≠ .clamped) :
    t = s.answered p n (t.port p).last.code none := by
  obtain ⟨run, runs, judged⟩ := h
  obtain rfl := Host.Outcome.next.inj ((runs s).symm.trans k)
  rw [State.command_taken takes] at done clamped ⊢
  cases judged (s.setFrame p .idle) with
  | refused c _ _ same =>
    rw [same]
    simp only [refuse, State.setFrame_setLast, State.port_answered_code]
  | done code _ =>
    rw [State.port_setLast_code] at done clamped
    exact absurd code (not_or.2 ⟨done, clamped⟩)

theorem State.restartPart_code (s : State) (p : Port) : (s.restartPart.port p).last.code = .done := by
  rw [State.restartPart_eq]
  show ((s.restartDisposed.ports.map PortState.restarted).get p).last.code = .done
  rw [Triple.get_map]
  rfl

/-- Settles O11: a command is refused, or taken as DONE or CLAMPED (`CommandJudged`). -/
theorem refusedChangesNothing : Obligations.RefusedChangesNothing := by
  unfold Obligations.RefusedChangesNothing
  rintro c p n s t named takes ran done clamped
  rcases named with canopy | ⟨boom, named⟩ | ⟨rfl, rfl⟩
  · by_cases restart : c = .restart p
    · subst restart
      obtain ⟨⟩ := canopy
      obtain rfl := Host.Outcome.next.inj ran
      rw [if_neg (Bool.eq_false_iff.1 takes)] at done clamped ⊢
      split at done
      · rename_i port
        subst port
        exact absurd (State.restartPart_code _ _) done
      · rename_i port
        rw [if_neg port, State.command_taken takes]
        simp only [refuse, State.setFrame_setLast, State.port_answered_code]
    · exact (canopyCommand_judged canopy restart).refused takes ran done clamped
  · exact (boomCommand_judged named).refused takes ran done clamped
  · exact (execClaimNext_judged p).refused takes ran done clamped

/-- A command whose run refuses it with `c` answers `c`. -/
theorem State.command_refused {s : State} {p : Port} {n : CommandName} {c : Code} {run : State → Taken}
    (takes : s.Takes p) (h : run (s.setFrame p .idle) = refuse (s.setFrame p .idle) c) :
    Host.Outcome.next (s.command p n run) = (.next (s.answered p n c none) : Host.Outcome State Fault Refusal) := by
  rw [State.command_answered takes n h]

theorem canopyOnly_denied {p : Port} (h : p ≠ .C) (s : State) (x : Taken) : canopyOnly p s x = refuse s .denied := if_neg h

theorem boomOf_eq_some {x : Byte} {b : Boom} (h : boomOf x = some b) : x = boomCode b := by
  unfold boomOf at h
  split at h
  · rename_i a
    obtain rfl := Option.some.inj h
    exact a
  · split at h
    · rename_i b
      obtain rfl := Option.some.inj h
      exact b
    · exact absurd h nofun

theorem boomOf_boomCode (b : Boom) : boomOf (boomCode b) = some b := by cases b <;> rfl

/-- The authority check of a claim or cycle command names exactly the boom that the port may issue it for (R173). -/
theorem State.authorised_eq_some {s : State} {p : Port} {boom : Byte} {b : Boom} :
    s.authorised p boom = some b ↔ s.MayIssue p boom b := by
  cases p with
  | A =>
    simp only [State.authorised, State.MayIssue]
    cases hd : (s.unit .A).dry <;> cases b <;> simp [hd]
  | B =>
    simp only [State.authorised, State.MayIssue]
    cases hd : (s.unit .B).dry <;> cases b <;> simp [hd]
  | C =>
    constructor
    · intro h
      unfold State.authorised at h
      simp only [] at h
      split at h
      · rename_i c named
        split at h
        · rename_i dry
          obtain rfl := Option.some.inj h
          exact .inr (.inr ⟨rfl, boomOf_eq_some named, dry⟩)
        · exact absurd h nofun
      · exact absurd h nofun
    · rintro (⟨port, _⟩ | ⟨port, _⟩ | ⟨_, rfl, dry⟩)
      · exact absurd port nofun
      · exact absurd port nofun
      · simp only [State.authorised, boomOf_boomCode, dry, if_true]

theorem State.authorised_eq_none {s : State} {p : Port} {boom : Byte} (h : ∀ b, ¬ s.MayIssue p boom b) :
    s.authorised p boom = none :=
  Option.eq_none_iff_forall_ne_some.2 fun b k => h b (State.authorised_eq_some.1 k)

@[simp] theorem State.authorised_setFrame (s : State) (p q : Port) (f : Frame) (boom : Byte) :
    (s.setFrame p f).authorised q boom = s.authorised q boom := rfl

@[simp] theorem State.claimNextBoom_setFrame (s : State) (p q : Port) (f : Frame) :
    (s.setFrame p f).claimNextBoom q = s.claimNextBoom q := rfl

theorem canopyCommand_denied {c : Instr} {p : Port} {n : CommandName} (s : State)
    (h : c.canopyCommand = some (p, n)) (port : p ≠ .C) (takes : s.Takes p) : Answers c s p n .denied := by
  cases c with
  | restart q =>
    obtain ⟨⟩ := h
    show Host.Outcome.next _ = _
    rw [if_neg (Bool.eq_false_iff.1 takes), if_neg port]
    exact State.command_refused takes rfl
  | openRow | planHole | endPlan | freezeRow | thawRow | releaseRow | setProtection | erase | setValidity
  | cancelSupplements | suspend | resume | abort | clear | dryOn | dryOff | writeParameters | selectSet
  | writeMachineSettings | refill | clearJam | derate | takeCount | setReportMode | feedSample =>
    obtain ⟨⟩ := h
    exact State.command_refused takes (canopyOnly_denied port _ _)
  | _ => exact absurd h nofun

theorem boomCommand_denied {c : Instr} {p : Port} {boom : Byte} {n : CommandName} (s : State)
    (h : c.boomCommand = some (p, boom, n)) (takes : s.Takes p) (may : ∀ b, ¬ s.MayIssue p boom b) :
    Answers c s p n .denied := by
  have none := State.authorised_eq_none may
  cases c with
  | claimSlot | cancelClaim =>
    obtain ⟨⟩ := h
    exact State.command_refused takes (by simp only [State.authorised_setFrame, none])
  | collared | bitOut | boltIn =>
    obtain ⟨⟩ := h
    exact State.command_refused takes (by simp only [State.report, State.authorised_setFrame, none])
  | _ => exact absurd h nofun

theorem claimNext_denied {s : State} {p : Port} (takes : s.Takes p) (none : s.claimNextBoom p = none) :
    Answers (.claimNext p) s p .claimNext .denied :=
  State.command_refused takes (by simp only [State.claimNextBoom_setFrame, none])

/-- Settles O10: the authority checks stand before every other check of the command. -/
theorem authorityDenied : Obligations.AuthorityDenied := by
  unfold Obligations.AuthorityDenied
  refine ⟨fun c p n s h port takes => canopyCommand_denied s h port takes,
    fun c p boom n s h takes may => boomCommand_denied s h takes may, fun s takes => claimNext_denied takes rfl,
    fun p b s own dry takes => claimNext_denied takes ?_⟩
  cases p with
  | A => obtain ⟨⟩ := own; exact if_pos dry
  | B => obtain ⟨⟩ := own; exact if_pos dry
  | C => exact absurd own nofun

theorem State.tick_protection (s : State) : s.tick.protection = s.protection := by
  unfold State.tick
  split <;> rfl

theorem State.Does.shift {s t : State} (h : s.Does t) (shift : s.protection = .shift) : t.protection = .shift := by
  obtain ⟨v, u, before, deed, after⟩ := h
  have found : v.protection = .shift := by rw [before.blocks]; exact shift
  rw [after.blocks]
  exact deed.shift found

theorem State.restartPart_protection (s : State) : s.restartPart.protection = s.protection := by
  rw [State.restartPart_eq]
  exact (State.Regular.restartDisposed s).protection

/-- Settles O28: no deed leaves SHIFT, RESTART keeps the mode, and RESET_N keeps SHIFT. -/
theorem shiftLastsUntilPowerOn : Obligations.ShiftLastsUntilPowerOn := by
  unfold Obligations.ShiftLastsUntilPowerOn
  intro s t ran shift front
  rcases step_cases s with ⟨_, ticks⟩ | ⟨i, rest, waiting, runs⟩
  · obtain rfl := Host.Outcome.next.inj (ticks.symm.trans ran)
    exact s.tick_protection.trans shift
  · have powerOn : i ≠ .powerOn := fun h => front (by rw [waiting, h]; rfl)
    have executed := runs.symm.trans ran
    by_cases resetN : i = .resetN
    · subst resetN
      obtain rfl := Host.Outcome.next.inj executed
      exact if_pos shift
    · by_cases restart : ∃ p, i = .restart p
      · obtain ⟨p, rfl⟩ := restart
        rcases execRestart_cases executed with same | ⟨_, _, rfl⟩
        · rw [same.blocks]
          exact shift
        · exact (State.restartPart_protection _).trans shift
      · exact (exec_does executed powerOn resetN fun p h => restart ⟨p, h⟩).shift shift

end Sys2Proof.Machine

/-! PROOFS. The reset values meet every invariant of the part, and what each deed keeps of the stored figures, the notices, the
contexts, the profiles and the counts. -/

namespace Sys2Proof.Machine

/-! ### Reset values -/

/-- Every block is at its reset values; the protection mode, the pins, the frames and the model's own items are free. -/
structure State.Blank (t : State) : Prop where
  blocks : t = { State.reset with
    protection := t.protection, ports := t.ports, guardPin := t.guardPin, supplyUp := t.supplyUp, resetLow := t.resetLow
    readCount := t.readCount, tickCount := t.tickCount, pending := t.pending }
  ports : ∀ p, t.port p = { PortState.initial with frame := (t.port p).frame }

namespace State.Blank
variable {t : State} (h : t.Blank)
include h

theorem entry (i : Slot) : t.entry i = none := by
  rw [h.blocks]
  show (Vector.replicate 48 (none : Option Entry)).get i = none
  exact Vector.getElem_replicate i.isLt

theorem rows : t.rows = [] := by rw [h.blocks]; rfl

theorem backlog : t.backlog = [] := by rw [h.blocks]; rfl

theorem unit (b : Boom) : t.unit b = .initial := by rw [h.blocks]; cases b <;> rfl

theorem lane (b : Boom) : t.lane b = .initial := by rw [h.blocks]; cases b <;> rfl

theorem engine (b : Boom) : t.engine b = .initial := by rw [h.blocks]; cases b <;> rfl

theorem arbiter : t.arbiter = .initial := by rw [h.blocks]; rfl

theorem loader : t.loader = .initial := by rw [h.blocks]; rfl

theorem params : t.params = .initial := by rw [h.blocks]; rfl

theorem followed : t.Followed := by
  intro b
  have unit := h.unit b
  constructor
  · rw [unit]; rfl
  · rw [unit]; rfl
  · rw [unit]; rfl
  · rw [unit]; rfl
  · rw [unit]; rfl
  · rw [unit]; rfl
  · rw [unit]; exact fun _ => rfl
  · rw [unit]; exact fun spinning => absurd spinning (by decide)
  · rw [unit]; exact fun _ => rfl
  · rw [unit]; exact fun _ _ => rfl
  · rw [unit]; exact fun torquing => absurd torquing (by decide)
  · rw [unit]; exact fun torquing => absurd torquing (by decide)

theorem rowsAgree : t.RowsAgree where
  size := by rw [h.rows]; exact Nat.zero_le 4
  distinct := by rw [h.rows]; exact List.nodup_nil
  present i e he := absurd (h.entry i ▸ he) nofun
  counted r hr := by rw [h.rows] at hr; exact absurd hr List.not_mem_nil

theorem claimsAgree : t.ClaimsAgree where
  rows := by rw [h.rows]; exact List.nodup_nil
  present i e he := absurd (h.entry i ▸ he) nofun
  named i e he := absurd (h.entry i ▸ he) nofun
  held i e b he := absurd (h.entry i ▸ he) nofun
  working b hb := by rw [h.unit] at hb; exact absurd hb nofun
  settled r hr := by rw [h.rows] at hr; exact absurd hr List.not_mem_nil
  parents i hi := by rw [h.backlog] at hi; exact absurd hi List.not_mem_nil
  once := by rw [h.backlog]; exact List.nodup_nil

theorem claimsApart : t.ClaimsApart := fun i _ _ _ he => absurd (h.entry i ▸ he) nofun

theorem profilesAgree : t.ProfilesAgree := fun i _ _ he => absurd (h.entry i ▸ he) nofun

theorem stagesAgree : t.StagesAgree := by
  have grant : ∀ b, t.arbiter.grants.get b = none := by rw [h.arbiter]; rintro (_ | _) <;> rfl
  constructor
  · intro b g hg
    exact absurd ((grant b).symm.trans hg) nofun
  · rw [h.arbiter]
    exact fun r hr => absurd hr List.not_mem_nil
  · rw [h.arbiter]
    exact List.nodup_nil
  · intro b
    rw [grant b, h.arbiter]
    exact ⟨fun k => absurd k List.not_mem_nil, fun ⟨_, k, _⟩ => absurd k nofun⟩
  · rw [h.arbiter]
    exact List.nodup_nil
  · rw [h.arbiter]
    decide
  · rw [h.arbiter]
    decide
  · rw [h.loader]
    exact fun b hb => absurd hb List.not_mem_nil
  · rw [h.loader]
    exact List.nodup_nil
  · rw [h.loader]
    exact fun g hg => absurd hg nofun

theorem noticesSound : t.NoticesSound := by
  rw [State.noticesSound_iff]
  intro p
  rw [h.ports p]
  exact ⟨List.Pairwise.nil, fun k => absurd k nofun, fun ⟨_, _, k, _⟩ => absurd k List.not_mem_nil⟩

theorem contextsOrdered : t.ContextsOrdered := by
  intro p
  rw [h.ports p]
  exact ⟨List.Pairwise.nil, fun _ k => absurd k nofun⟩

theorem countsBounded : t.CountsBounded := by
  rw [State.countsBounded_iff, h.backlog, h.loader]
  refine ⟨Nat.zero_le 8, Nat.zero_le 40, fun b => ?_, fun b => ?_, fun b => ?_⟩
  · rw [h.lane]
    exact ⟨by decide, by decide⟩
  · rw [h.unit]
    exact Nat.zero_le 10
  · rw [h.engine]
    exact Engine.initial_bounded

end State.Blank

theorem ParamSet.default0_sound : ParamSet.default0.Sound := by constructor <;> decide

theorem ParamSet.default1_sound : ParamSet.default1.Sound := by constructor <;> decide

theorem State.Blank.storeSound {t : State} (h : t.Blank) : t.StoreSound := by
  constructor <;> rw [h.params]
  · exact ParamSet.default0_sound
  · exact ParamSet.default1_sound
  · decide
  · decide
  · decide

theorem State.Blank.sound {t : State} (h : t.Blank) : t.Sound :=
  ⟨h.followed, h.rowsAgree, h.claimsAgree, h.claimsApart, h.profilesAgree, h.stagesAgree, h.storeSound, h.noticesSound,
    h.contextsOrdered, h.countsBounded⟩

theorem State.reset_blank : State.reset.Blank := ⟨rfl, fun p => by cases p <;> rfl⟩

/-- Settles O5: the values are those of the definition, and `State.Blank.sound` gives the invariants. -/
theorem resetValues : Obligations.ResetValues := by
  unfold Obligations.ResetValues
  refine ⟨State.reset_blank.sound, State.reset_blank.entry, rfl, rfl, rfl, fun b => ?_, rfl, rfl, fun p => ?_, ?_, rfl,
    rfl, rfl, rfl, rfl, rfl, rfl, rfl, rfl⟩
  · cases b <;> exact ⟨rfl, rfl, rfl⟩
  · cases p <;> rfl
  · decide

theorem execPowerOn_blank {s t : State} (h : exec .powerOn s = .next t) : t.Blank := by
  obtain rfl := Host.Outcome.next.inj h
  exact ⟨rfl, fun p => by cases p <;> rfl⟩

theorem execResetN_blank {s t : State} (h : exec .resetN s = .next t) : t.Blank := by
  obtain rfl := Host.Outcome.next.inj h
  exact ⟨rfl, fun p => by cases p <;> rfl⟩

/-! ### Stored figures -/

theorem le_clampTo {lo hi x : Nat} (h : lo ≤ hi) : lo ≤ clampTo lo hi x := by
  unfold clampTo
  split
  · exact le_refl lo
  · split
    · exact h
    · rename_i above _
      exact Nat.not_lt.1 above

theorem clampTo_le {lo hi x : Nat} (h : lo ≤ hi) : clampTo lo hi x ≤ hi := by
  unfold clampTo
  split
  · exact h
  · split
    · exact le_refl hi
    · rename_i below
      exact Nat.not_lt.1 below

theorem clampTo_bounds {lo hi x : Nat} (h : lo ≤ hi) : lo ≤ clampTo lo hi x ∧ clampTo lo hi x ≤ hi :=
  ⟨le_clampTo h, clampTo_le h⟩

theorem ParamSet.ordered_iff (x : ParamSet) : x.ordered = true ↔ (x.tVoid < x.tMedium ∧ x.tMedium < x.tHard) ∧
    (x.seatTorque < x.targetTorque ∧ x.targetTorque < x.maxTorque) ∧ x.competent ≤ x.zone := by
  simp only [ParamSet.ordered, Bool.and_eq_true, decide_eq_true_eq]
  tauto

/-- Clamped figures that keep the orderings are a sound set (R158, R159). -/
theorem clampValues_sound {v : ParamValues} {m : VoidMode} (h : (clampValues v m).ordered = true) :
    (clampValues v m).Sound := by
  obtain ⟨⟨void, medium⟩, torqueOrder, competent⟩ := (ParamSet.ordered_iff _).1 h
  have top : ∀ hi x, clampTo 0 hi x ≤ hi := fun hi x => clampTo_le (Nat.zero_le hi)
  constructor
  · exact top 7 _
  · exact ⟨void, medium, Nat.le_of_lt_succ v.tHard.isLt⟩
  · exact top 500 _
  · exact clampTo_bounds (lo := 300) (hi := 1200) (by decide)
  · exact competent
  · exact top 2 _
  · exact ⟨(Nat.div_mul_le_self _ 10).trans (top 200 _), Nat.dvd_mul_left 10 _⟩
  · exact top 600 _
  · exact clampTo_bounds (lo := 200) (hi := 1200) (by decide)
  · exact clampTo_bounds (lo := 1) (hi := 6) (by decide)
  · obtain ⟨low, high⟩ := clampTo_bounds (lo := 5) (hi := 60) (x := v.spinRevs.toNat) (by decide)
    exact ⟨low, high, clampTo_bounds (lo := 2000) (hi := 30000) (by decide)⟩
  · exact top 60000 _
  · obtain ⟨low, high⟩ := clampTo_bounds (lo := 20) (hi := 400) (x := v.seatTorque.toNat) (by decide)
    obtain ⟨low', high'⟩ := clampTo_bounds (lo := 50) (hi := 600) (x := v.targetTorque.toNat) (by decide)
    exact ⟨low, high, low', high', clampTo_bounds (lo := 60) (hi := 800) (by decide)⟩
  · exact torqueOrder
  · exact clampTo_bounds (lo := 900) (hi := 14400) (by decide)
  · exact clampTo_bounds (lo := 2000) (hi := 60000) (by decide)
  · exact top 255 _
  · exact clampTo_bounds (lo := 500) (hi := 30000) (by decide)

/-! ### What each deed keeps -/

/-- The five invariants of the figures, each kept by itself. -/
structure State.KeepsFigures (s t : State) : Prop where
  profiles : s.ProfilesAgree → t.ProfilesAgree
  notices : s.NoticesSound → t.NoticesSound
  contexts : s.ContextsOrdered → t.ContextsOrdered
  store : s.StoreSound → t.StoreSound
  counts : s.CountsBounded → t.CountsBounded

namespace State.KeepsFigures

theorem trans {s t u : State} (h : s.KeepsFigures t) (k : t.KeepsFigures u) : s.KeepsFigures u :=
  ⟨k.profiles ∘ h.profiles, k.notices ∘ h.notices, k.contexts ∘ h.contexts, k.store ∘ h.store, k.counts ∘ h.counts⟩

theorem store_congr {s t : State} (h : t.params = s.params) (k : s.StoreSound) : t.StoreSound := by
  obtain ⟨set0, set1, separation, shift, lowMark⟩ := k
  exact ⟨h ▸ set0, h ▸ set1, h ▸ separation, h ▸ shift, h ▸ lowMark⟩

theorem regular {s t : State} (h : s.Regular t) : s.KeepsFigures t :=
  ⟨h.profiles, h.ports.noticesSound, h.ports.contextsOrdered, store_congr h.params, h.counts⟩

theorem notices_congr {s t : State} (hp : t.ports = s.ports) (hr : t.resetLow = s.resetLow) (k : s.NoticesSound) :
    t.NoticesSound := by
  rw [State.noticesSound_iff] at k ⊢
  intro p
  rw [show t.port p = s.port p from congrArg (Triple.get · p) hp, hr]
  exact k p

theorem counts_of_eq {s t : State} (hb : t.backlog = s.backlog) (hl : t.loader = s.loader)
    (hn : ∀ b, t.lane b = s.lane b) (hu : ∀ b, t.unit b = s.unit b) (he : ∀ b, t.engine b = s.engine b)
    (k : s.CountsBounded) : t.CountsBounded := by
  rw [State.countsBounded_iff] at k ⊢
  obtain ⟨backlog, magazine, lanes, flush, engines⟩ := k
  exact ⟨hb ▸ backlog, hl ▸ magazine, fun b => hn b ▸ lanes b, fun b => hu b ▸ flush b, fun b => he b ▸ engines b⟩

/-- A change of the ports alone, which leaves each of them in order. -/
theorem ports {s t : State} (h : t = { s with ports := t.ports, readCount := t.readCount })
    (notices : s.NoticesSound → t.NoticesSound) (contexts : s.ContextsOrdered → t.ContextsOrdered) :
    s.KeepsFigures t where
  profiles k := by rw [h]; exact k
  notices := notices
  contexts := contexts
  store := store_congr (by rw [h])
  counts := counts_of_eq (by rw [h]) (by rw [h]) (fun b => by rw [h]; rfl) (fun b => by rw [h]; rfl)
    (fun b => by rw [h]; rfl)

theorem sameButFrames {s t : State} (h : s.SameButFrames t) : s.KeepsFigures t := by
  refine .ports h.blocks (fun k => ?_) fun k p => ?_
  · rw [State.noticesSound_iff] at k ⊢
    intro p
    rw [h.ports p, show t.resetLow = s.resetLow by rw [h.blocks]]
    exact k p
  · rw [h.ports p]
    exact k p

theorem setPort {s : State} {p : Port} {q : PortState}
    (notices : (s.port p).NoticesInOrder s.resetLow → q.NoticesInOrder s.resetLow)
    (contexts : (s.port p).context.Ordered → q.context.Ordered) : s.KeepsFigures (s.setPort p q) := by
  refine .ports rfl (fun k => ?_) fun k r => ?_
  · rw [State.noticesSound_iff] at k ⊢
    intro r
    rw [State.port_setPort]
    split
    · exact notices (k p)
    · exact k r
  · rw [State.port_setPort]
    split
    · exact contexts (k p)
    · exact k r

theorem setParams {s : State} {x : ParamStore} (h : s.StoreSound → (s.setParams x).StoreSound) :
    s.KeepsFigures (s.setParams x) :=
  ⟨id, notices_congr rfl rfl, id, h, counts_of_eq rfl rfl (fun _ => rfl) (fun _ => rfl) fun _ => rfl⟩

theorem takeEffect (s : State) (p : Port) (x : ReadEffect) : s.KeepsFigures (s.takeEffect p x) := by
  cases x with
  | nothing => exact .regular (.refl s)
  | cursor target drain =>
    have moved : s.KeepsFigures (s.setPort p { s.port p with cursor := target }) := .setPort id id
    cases drain with
    | none => exact moved
    | some i => exact moved.trans (.regular (.modEntry _ i _ fun _ k => k.congr rfl))
  | clear reported reposted =>
    refine .setPort (fun k => ⟨?_, PortState.withAtn_atn_iff _ _⟩) id
    exact k.1.sublist (List.filter_sublist.map _)

end State.KeepsFigures

theorem State.findSlots_sorted (s : State) (v : Validity) (k : SearchKey) : (s.findSlots v k).Pairwise (· < ·) :=
  allSlots_sorted.filter _

theorem State.searchContext_ordered {s : State} {scope row position reach holeState origin claimant mask : Byte}
    {c : MatchContext} (h : s.searchContext scope row position reach holeState origin claimant mask = some c) :
    c.Ordered := by
  unfold State.searchContext at h
  split at h
  · exact absurd h nofun
  · split at h
    · obtain rfl := Option.some.inj h
      refine ⟨?_, fun i hi => Option.mem_toList.2 hi⟩
      cases s.nextFree with
      | none => exact List.Pairwise.nil
      | some i => exact List.pairwise_singleton _ i
    · split at h
      · exact absurd h nofun
      · obtain rfl := Option.some.inj h
        exact ⟨s.findSlots_sorted _ _, fun i hi => (State.bestOf_eq_some (s.findSlots_sorted _ _) hi).1⟩

/-- Every pending set is in reply order, whatever the attention lines. -/
def State.PendingSorted (s : State) : Prop := ∀ p, ((s.port p).pending.map NoticePair.rank).Pairwise (· < ·)

theorem State.NoticesSound.sorted {s : State} (h : s.NoticesSound) : s.PendingSorted := fun p => (h p).sorted

theorem PortMove.sorted {R : PortRights} {x : Bool} {q q' : PortState} (h : PortMove R x q q')
    (k : (q.pending.map NoticePair.rank).Pairwise (· < ·)) : (q'.pending.map NoticePair.rank).Pairwise (· < ·) := by
  cases h with
  | record n => exact insertPair_sorted n k
  | written i => unfold PortState.slotWritten; split <;> exact k
  | emptied i => exact k

theorem State.PortsMove.sorted {R : PortRights} {s t : State} (h : s.PortsMove R t) (k : s.PendingSorted) :
    t.PendingSorted := fun p =>
  PortMove.keeps (P := fun q => (q.pending.map NoticePair.rank).Pairwise (· < ·)) (fun _ _ m => m.sorted) (h.2 p) (k p)

/-- Attention lines that are worked out again over sorted pending sets are in order. -/
theorem State.PendingSorted.refreshAtn {s : State} (h : s.PendingSorted) : s.refreshAtn.NoticesSound := by
  rw [State.noticesSound_iff]
  intro p
  rw [State.refreshAtn, State.port_mapPorts]
  exact ⟨h p, PortState.withAtn_atn_iff _ _⟩

/-- What an action leaves is a regular change of what its own effects leave. -/
theorem State.Regular.announced (v s : State) : v.Regular (v.sync.offersSince s) := .trans (.sync v) (.offersSince _ s)

theorem State.KeepsFigures.supplyLoss (s : State) : s.KeepsFigures (s.acting fun s => { s with supplyUp := false }) := by
  have lowered : s.KeepsFigures { s with supplyUp := false } :=
    ⟨id, notices_congr rfl rfl, id, store_congr rfl, counts_of_eq rfl rfl (fun _ => rfl) (fun _ => rfl) fun _ => rfl⟩
  exact lowered.trans (.regular (.announced _ s))

theorem State.KeepsFigures.resetRelease (s : State) :
    s.KeepsFigures (s.acting fun s => { s with resetLow := false }).refreshAtn := by
  have released : ({ s with resetLow := false } : State).Regular (s.acting fun s => { s with resetLow := false }) :=
    .announced _ s
  have figures := KeepsFigures.regular released
  have store : ∀ t : State, t.StoreSound → t.refreshAtn.StoreSound := fun t => store_congr rfl
  have counts : ∀ t : State, t.CountsBounded → t.refreshAtn.CountsBounded := fun t =>
    counts_of_eq rfl rfl (fun _ => rfl) (fun _ => rfl) fun _ => rfl
  refine ⟨figures.profiles, fun k => (released.ports.sorted k.sorted).refreshAtn, fun k p => ?_,
    fun k => store _ (figures.store (store_congr (s := s) rfl k)),
    fun k => counts _
      (figures.counts (counts_of_eq (s := s) rfl rfl (fun _ => rfl) (fun _ => rfl) (fun _ => rfl) k))⟩
  rw [State.refreshAtn, State.port_mapPorts]
  exact figures.contexts k p

theorem State.Setting.keepsFigures {s u : State} (h : s.Setting u) : s.KeepsFigures u := by
  cases h with
  | configured p m e => exact .setPort (fun k => ⟨k.1, PortState.withAtn_atn_iff _ _⟩) id
  | searched p found => exact .setPort id fun _ => State.searchContext_ordered found
  | effect p x => exact .takeEffect s p x
  | setProtection =>
    exact ⟨id, KeepsFigures.notices_congr rfl rfl, id, KeepsFigures.store_congr rfl,
      KeepsFigures.counts_of_eq rfl rfl (fun _ => rfl) (fun _ => rfl) fun _ => rfl⟩
  | writeSet n v m ordered =>
    refine .setParams fun ⟨set0, set1, separation, shift, lowMark⟩ => ?_
    cases n with
    | set0 => exact ⟨clampValues_sound ordered, set1, separation, shift, lowMark⟩
    | set1 => exact ⟨set0, clampValues_sound ordered, separation, shift, lowMark⟩
  | writeBoth v w m k first second =>
    refine .setParams fun ⟨_, _, separation, shift, lowMark⟩ => ?_
    exact ⟨clampValues_sound first, clampValues_sound second, separation, shift, lowMark⟩
  | settings separation shift lowMark =>
    refine .trans (.setParams fun ⟨set0, set1, _, _, _⟩ => ?_) (.regular (.offersSince _ s))
    exact ⟨set0, set1, clampTo_le (lo := 0) (hi := 3000) (by decide),
      clampTo_bounds (lo := 100) (hi := 1000) (by decide), clampTo_le (lo := 0) (hi := 40) (by decide)⟩
  | @refill n room =>
    have filled : s.KeepsFigures (s.setLoader { s.loader with magazine := n }) := by
      refine ⟨id, KeepsFigures.notices_congr rfl rfl, id, KeepsFigures.store_congr rfl, fun k => ?_⟩
      rw [State.countsBounded_iff] at k ⊢
      exact ⟨k.1, room, k.2.2⟩
    refine .trans ?_ (.regular (.offersSince _ s))
    unfold State.refillTo
    simp only []
    split
    · exact filled.trans (.regular (.fireLoader _))
    · exact filled
  | supplyLoss => exact .supplyLoss s
  | resetRelease => exact .resetRelease s

/-! ### RESTART and the steps -/

theorem State.KeepsFigures.restartPart (s : State) : s.KeepsFigures s.restartPart := by
  have cleared : s.KeepsFigures (s.mapPorts PortState.restartNotices) := by
    refine .ports rfl (fun _ => ?_) fun k p => by rw [State.port_mapPorts]; exact k p
    rw [State.noticesSound_iff]
    intro p
    rw [State.port_mapPorts]
    exact ⟨List.Pairwise.nil, fun k => absurd k nofun, fun ⟨_, _, k, _⟩ => absurd k List.not_mem_nil⟩
  have disposed := cleared.trans (.regular (Regular.restartDisposed s))
  have port : ∀ p, s.restartPart.port p = (s.restartDisposed.port p).restarted := fun p => by
    rw [State.restartPart_eq]
    exact Triple.get_map _ _ p
  refine disposed.trans ⟨?_, fun k => ?_, fun k p => ?_, ?_, fun k => ?_⟩
  · rw [State.restartPart_eq]
    exact id
  · rw [State.noticesSound_iff] at k ⊢
    intro p
    rw [port p]
    exact k p
  · rw [port p]
    exact ⟨List.Pairwise.nil, fun _ h => absurd h nofun⟩
  · rw [State.restartPart_eq]
    exact store_congr rfl
  · rw [State.countsBounded_iff] at k
    obtain ⟨backlog, magazine, _⟩ := k
    rw [State.restartPart_eq, State.countsBounded_iff]
    refine ⟨backlog, ?_, fun b => ?_, fun b => ?_, fun b => ?_⟩
    · show (if _ then _ else _) ≤ 40
      split
      · exact (Nat.sub_le _ _).trans magazine
      · exact magazine
    · cases b <;> exact ⟨⟨Nat.zero_le _, Nat.zero_le _⟩, Nat.zero_lt_succ 63, Nat.zero_le _⟩
    · cases b <;> exact Nat.zero_le 10
    · cases b <;> exact Engine.initial_bounded

theorem State.KeepsFigures.tick (s : State) : s.KeepsFigures s.tick := by
  unfold State.tick
  split
  · exact .regular (.refl s)
  · refine ⟨id, notices_congr rfl rfl, id, store_congr rfl, fun k => ?_⟩
    rw [State.countsBounded_iff] at k ⊢
    obtain ⟨backlog, magazine, lanes, flush, engines⟩ := k
    refine ⟨backlog, magazine, fun b => ?_, fun b => ?_, engines⟩
    · cases b with
      | A => exact lanes .A
      | B => exact lanes .B
    · cases b with
      | A => exact flush .A
      | B => exact flush .B

theorem State.Blank.keepsFigures {s t : State} (h : t.Blank) : s.KeepsFigures t :=
  ⟨fun _ => h.profilesAgree, fun _ => h.noticesSound, fun _ => h.contextsOrdered, fun _ => h.storeSound,
    fun _ => h.countsBounded⟩

theorem State.Deed.keepsFigures {s u : State} (h : s.Deed u) : s.KeepsFigures u :=
  h.regular.elim .regular State.Setting.keepsFigures

theorem State.Does.keepsFigures {s t : State} (h : s.Does t) : s.KeepsFigures t := by
  obtain ⟨v, u, before, deed, after⟩ := h
  exact (KeepsFigures.sameButFrames before).trans (deed.keepsFigures.trans (.sameButFrames after))


theorem exec_keepsFigures {c : Instr} {s t : State} (h : exec c s = .next t) : s.KeepsFigures t := by
  by_cases powerOn : c = .powerOn
  · subst powerOn
    exact (execPowerOn_blank h).keepsFigures
  by_cases resetN : c = .resetN
  · subst resetN
    exact (execResetN_blank h).keepsFigures
  by_cases restart : ∃ p, c = .restart p
  · obtain ⟨p, rfl⟩ := restart
    rcases execRestart_cases h with same | ⟨_, _, rfl⟩
    · exact .sameButFrames same
    · exact .trans (.sameButFrames (.setFrame s .C .idle)) (.restartPart _)
  · exact (exec_does h powerOn resetN fun p k => restart ⟨p, k⟩).keepsFigures

/-- Settles O60: by the deeds of a step, each of which keeps each of the five invariants by itself. -/
theorem stepKeepsFigures : Obligations.StepKeepsFigures := by
  unfold Obligations.StepKeepsFigures
  intro s t ran
  have kept : s.KeepsFigures t := by
    rcases step_cases s with ⟨_, ticks⟩ | ⟨i, rest, _, runs⟩
    · obtain rfl := Host.Outcome.next.inj (ticks.symm.trans ran)
      exact .tick s
    · have taken : s.KeepsFigures { s with pending := rest } :=
        ⟨id, State.KeepsFigures.notices_congr rfl rfl, id, State.KeepsFigures.store_congr rfl,
          State.KeepsFigures.counts_of_eq rfl rfl (fun _ => rfl) (fun _ => rfl) fun _ => rfl⟩
      exact taken.trans (exec_keepsFigures (runs.symm.trans ran))
  exact ⟨kept.profiles, kept.notices, kept.contexts, kept.store, kept.counts⟩

end Sys2Proof.Machine

/-! PROOFS. Every step keeps the booms in step with their conditions, and every deed offers the statuses that it changes. -/

namespace Sys2Proof.Machine

/-! ### Booms that go on following -/

/-- Both booms follow their conditions in a part that shares what they read. -/
theorem State.Followed.congr {s t : State} (h : s.Followed) (hu : t.units = s.units) (ha : t.arbiter = s.arbiter)
    (hl : ∀ b, t.laneInStep b = s.laneInStep b) (he : t.engines = s.engines) (hh : t.isHeld = s.isHeld) : t.Followed :=
  fun b => (h b).congr (congrArg (Pair.get · b) hu) (by rw [ha]) (hl b) hh fun _ => congrArg (Pair.get · b) he

theorem State.SameButFrames.followed {s t : State} (h : s.SameButFrames t) (k : s.Followed) : t.Followed := by
  rw [h.blocks]
  exact k.congr rfl rfl (fun _ => rfl) rfl rfl

theorem State.TableOnly.followed {s t : State} (h : s.TableOnly t) (k : s.Followed) : t.Followed := by
  obtain ⟨x, r, l, p, rfl⟩ := h
  exact k.congr rfl rfl (fun _ => rfl) rfl rfl

/-- A pending selection is none of the conditions of a boom. -/
theorem State.Followed.select {s : State} (h : s.Followed) (b : Boom) (n : SetNo) :
    (s.modUnit b (BoomUnit.select n)).Followed := by
  intro c
  obtain ⟨flow, lane, flush, feed, turn, abandon, spin, spinRuns, set, torque, torqueRuns, runs⟩ := h c
  cases b <;> cases c <;>
    exact ⟨flow, lane, flush, feed, turn, abandon, spin, spinRuns, set, torque, torqueRuns, runs⟩

/-- A change of a lane that keeps its health is none of the conditions of a boom. -/
theorem State.Followed.setLane {s : State} (h : s.Followed) (b : Boom) {l : Lane} (health : l.health = (s.lane b).health) :
    (s.setLane b l).Followed := by
  refine h.congr rfl rfl (fun c => ?_) rfl rfl
  rw [State.laneInStep, State.laneInStep, State.lane_setLane]
  split
  · rename_i own
    rw [own, health]
  · rfl

theorem State.Setting.followed {s u : State} (h : s.Setting u) (k : s.Followed) : u.Followed := by
  cases h with
  | configured | searched | setProtection | writeSet | writeBoth => exact k.congr rfl rfl (fun _ => rfl) rfl rfl
  | effect p x =>
    obtain ⟨y, q, e⟩ := s.takeEffect_frame p x
    rw [e]
    exact k.congr rfl rfl (fun _ => rfl) rfl rfl
  | settings =>
    obtain ⟨p, e⟩ := s.announcing_frame fun s => s.setParams _
    rw [e]
    exact k.congr rfl rfl (fun _ => rfl) rfl rfl
  | @refill n =>
    obtain ⟨p, e⟩ := s.announcing_frame (State.refillTo n)
    obtain ⟨l, e'⟩ := State.refillTo_frame n s
    rw [e, e']
    exact k.congr rfl rfl (fun _ => rfl) rfl rfl
  | supplyLoss => exact s.acting_followed _
  | resetRelease => exact (s.acting_followed fun s => { s with resetLow := false }).congr rfl rfl (fun _ => rfl) rfl rfl

theorem State.Deed.followed {s u : State} (h : s.Deed u) (k : s.Followed) : u.Followed := by
  cases h with
  | nothing => exact k
  | @act v _ => exact s.acting_followed fun _ => v
  | table deed => exact deed.tableOnly.followed k
  | set set => exact set.followed k
  | selectBoth n => exact (k.select .A n).select .B n
  | select b n => exact k.select b n
  | takeCount b =>
    exact (k.setLane b (l := { s.lane b with reportValue := (s.lane b).faults, faults := 0 }) rfl).congr rfl rfl
      (fun _ => rfl) rfl rfl
  | reportMode b m =>
    refine k.setLane b ?_
    unfold Lane.withMode
    split <;> rfl

/-- A unit that RESTART left follows its conditions, whatever they are. -/
theorem State.BoomFollows.ofIdle {t : State} {b : Boom} {x y : SetNo}
    (h : t.unit b = { BoomUnit.initial with activeSet := x, pendingSet := y }) : t.BoomFollows b := by
  constructor
  · rw [h]; rfl
  · rw [h]; rfl
  · rw [h]; rfl
  · rw [h]; rfl
  · rw [h]; rfl
  · rw [h]; rfl
  · rw [h]; exact fun _ => rfl
  · rw [h]; exact fun spinning => absurd spinning (by simp [BoomUnit.initial])
  · rw [h]; exact fun _ => rfl
  · rw [h]; exact fun _ _ => rfl
  · rw [h]; exact fun torquing => absurd torquing (by simp [BoomUnit.initial])
  · rw [h]; exact fun torquing => absurd torquing (by simp [BoomUnit.initial])

theorem State.restartPart_followed (s : State) : s.restartPart.Followed := fun b => by
  refine .ofIdle (x := (s.restartDisposed.unit b).activeSet) (y := (s.restartDisposed.unit b).pendingSet) ?_
  rw [State.restartPart_eq]
  cases b <;> rfl

theorem tickTimer_isSome (t : Option Nat) : (tickTimer t).isSome = t.isSome := by cases t <;> rfl

theorem TorqueTimer.tick_eq_notStarted (x : TorqueTimer) : x.tick = .notStarted ↔ x = .notStarted := by
  cases x <;> simp [TorqueTimer.tick]

/-- A tick moves the elapsed times only, and starts and stops no timer. -/
theorem State.BoomFollows.tick {s t : State} {b : Boom} (h : s.BoomFollows b) (hu : t.unit b = (s.unit b).tick)
    (hq : t.arbiter = s.arbiter) (hl : t.laneInStep b = s.laneInStep b) (hh : t.isHeld = s.isHeld)
    (he : t.engine b = s.engine b) : t.BoomFollows b := by
  obtain ⟨flow, lane, flush, feed, turn, abandon, spin, spinRuns, set, torque, torqueRuns, runs⟩ := h
  constructor <;> rw [hu]
  · rw [hq]; exact flow
  · rw [hl]; exact lane
  · exact flush
  · rw [hh]; exact feed
  · rw [hh]; exact turn
  · exact (tickTimer_isSome _).trans abandon
  · exact fun c => congrArg tickTimer (spin c)
  · exact fun c p => (tickTimer_isSome _).trans (spinRuns c p)
  · exact fun c => congrArg tickTimer (set c)
  · exact fun c d => (TorqueTimer.tick_eq_notStarted _).2 (torque c d)
  · exact fun c p k => torqueRuns c p ((TorqueTimer.tick_eq_notStarted _).1 k)
  · rw [he]; exact runs

theorem State.tick_followed {s : State} (h : s.Followed) : s.tick.Followed := by
  unfold State.tick
  split
  · exact h
  · intro b
    cases b with
    | A => exact (h .A).tick rfl rfl rfl rfl rfl
    | B => exact (h .B).tick rfl rfl rfl rfl rfl

theorem exec_followed {c : Instr} {s t : State} (h : exec c s = .next t) (k : s.Followed) : t.Followed := by
  by_cases powerOn : c = .powerOn
  · subst powerOn
    exact (execPowerOn_blank h).followed
  by_cases resetN : c = .resetN
  · subst resetN
    exact (execResetN_blank h).followed
  by_cases restart : ∃ p, c = .restart p
  · obtain ⟨p, rfl⟩ := restart
    rcases execRestart_cases h with same | ⟨_, _, rfl⟩
    · exact same.followed k
    · exact State.restartPart_followed _
  · obtain ⟨v, u, before, deed, after⟩ := exec_does h powerOn resetN fun p e => restart ⟨p, e⟩
    exact after.followed (deed.followed (before.followed k))

/-! ### Offers of changed statuses -/

/-- The status that a status-backed pair stands for (R49, R79, R105, R131); the event kinds have none. -/
def State.status (s : State) : NoticePair → Option Bool
  | .permit b => some (s.feedLine b)
  | .lane b => some (s.laneInStep b)
  | .void b => some (s.engine b).voidState
  | .loader => some s.loaderStatus
  | .magazineLow => some s.magazineLow
  | _ => none

/-- Every change of a status from `s` to `t` is offered, by the edge modes that `s` has (R167). -/
def State.Announces (s t : State) : Prop :=
  ∀ n before after, s.status n = some before → t.status n = some after → ∀ p,
    (before = false → after = true → n ∈ (t.port p).pending) ∧
      (before = true → after = false → (s.port p).edges.mode n = .any → n ∈ (t.port p).pending)

namespace State.Announces

theorem same {s t : State} (h : ∀ n, t.status n = s.status n) : s.Announces t := by
  intro n before after hb ha p
  rw [h, hb] at ha
  obtain rfl := Option.some.inj ha
  exact ⟨fun x y => absurd (x.symm.trans y) nofun, fun x y => absurd (x.symm.trans y) nofun⟩

/-- The offers, with edge modes that stay. -/
theorem offered {s t : State} (edges : ∀ p, (t.port p).edges = (s.port p).edges)
    (permit : ∀ b, t.Offered (.permit b) (s.feedLine b) (t.feedLine b))
    (lane : ∀ b, t.Offered (.lane b) (s.laneInStep b) (t.laneInStep b))
    (void : ∀ b, t.Offered (.void b) (s.engine b).voidState (t.engine b).voidState)
    (loader : t.Offered .loader s.loaderStatus t.loaderStatus)
    (low : t.Offered .magazineLow s.magazineLow t.magazineLow) : s.Announces t := by
  intro n before after hb ha p
  rw [← edges p]
  cases n with
  | permit b => obtain ⟨⟩ := hb; obtain ⟨⟩ := ha; exact permit b p
  | lane b => obtain ⟨⟩ := hb; obtain ⟨⟩ := ha; exact lane b p
  | void b => obtain ⟨⟩ := hb; obtain ⟨⟩ := ha; exact void b p
  | loader => obtain ⟨⟩ := hb; obtain ⟨⟩ := ha; exact loader p
  | magazineLow => obtain ⟨⟩ := hb; obtain ⟨⟩ := ha; exact low p
  | _ => exact absurd hb nofun

end State.Announces

/-- The last of an action: `w` is what the action has done to the blocks, and the offers are made from `s` on. -/
theorem State.offersSince_announces {s w : State} (edges : ∀ p, (w.port p).edges = (s.port p).edges)
    (void : ∀ b, w.Offered (.void b) (s.engine b).voidState (w.engine b).voidState) :
    s.Announces (w.offersSince s) := by
  have moves : ∀ (v : State) (n : NoticePair) (x y : Bool), v.PortsMove .all (v.offerChange n x y) :=
    fun v n _ _ => .offerChange (fun _ => mem_allPairs n) v
  have offers := fun (v : State) (n : NoticePair) x y => v.offerChange_offered n x y
  obtain ⟨q, frame⟩ := w.offersSince_frame s
  have whole := (Regular.offersSince w s).ports
  refine .offered (fun p => (whole.edges p).trans (edges p)) ?_ ?_ (fun b => ?_) ?_ ?_
  · rw [State.offersSince_eq]
    rintro (_ | _)
    · simp only [State.feedLine_offerChange]
      exact (((((offers _ _ _ _).move (moves _ _ _ _)).move (moves _ _ _ _)).move (moves _ _ _ _)).move
        (moves _ _ _ _)).move (moves _ _ _ _)
    · simp only [State.feedLine_offerChange]
      exact ((((offers _ _ _ _).move (moves _ _ _ _)).move (moves _ _ _ _)).move (moves _ _ _ _)).move
        (moves _ _ _ _)
  · rw [State.offersSince_eq]
    rintro (_ | _)
    · simp only [State.laneInStep_offerChange]
      exact (((offers _ _ _ _).move (moves _ _ _ _)).move (moves _ _ _ _)).move (moves _ _ _ _)
    · simp only [State.laneInStep_offerChange]
      exact ((offers _ _ _ _).move (moves _ _ _ _)).move (moves _ _ _ _)
  · have kept : (w.offersSince s).engine b = w.engine b := by rw [frame]; rfl
    rw [kept]
    exact (void b).move whole
  · rw [State.offersSince_eq]
    simp only [State.loaderStatus_offerChange]
    exact (offers _ _ _ _).move (moves _ _ _ _)
  · rw [State.offersSince_eq]
    simp only [State.magazineLow_offerChange]
    exact offers _ _ _ _

theorem State.Announces.ofAct {s v : State} (h : s.Regular v) : s.Announces (v.sync.offersSince s) := by
  have done := h.trans (.sync v)
  exact State.offersSince_announces done.ports.edges done.void

theorem State.TableOnly.status {s t : State} (h : s.TableOnly t) (n : NoticePair) : t.status n = s.status n := by
  obtain ⟨x, r, l, p, rfl⟩ := h
  cases n <;> rfl

theorem State.SameButFrames.status {s t : State} (h : s.SameButFrames t) (n : NoticePair) : t.status n = s.status n := by
  rw [h.blocks]
  cases n <;> rfl

/-- A part with a line at another level, whose action is announced. -/
theorem State.Announces.ofLine {s v : State} (h : v = { s with supplyUp := v.supplyUp, resetLow := v.resetLow }) :
    s.Announces (v.sync.offersSince s) := by
  have synced := Regular.sync v
  have port : ∀ p, v.port p = s.port p := fun p => by rw [h]; rfl
  have engine : ∀ b, v.engine b = s.engine b := fun b => by rw [h]; rfl
  exact State.offersSince_announces (fun p => (synced.ports.edges p).trans (by rw [port]))
    fun b => by rw [← engine b]; exact synced.void b

theorem State.Announces.refreshAtn {s t : State} (h : s.Announces t) : s.Announces t.refreshAtn := by
  intro n before after hb ha p
  have status : t.refreshAtn.status n = t.status n := by cases n <;> rfl
  have pending : (t.refreshAtn.port p).pending = (t.port p).pending := by
    rw [State.refreshAtn, State.port_mapPorts, PortState.withAtn_pending]
  rw [pending]
  exact h n before after hb (status ▸ ha) p

theorem State.Setting.announces {s u : State} (h : s.Setting u) : s.Announces u := by
  cases h with
  | configured | searched | setProtection => exact .same fun n => by cases n <;> rfl
  | effect p x =>
    obtain ⟨y, q, e⟩ := s.takeEffect_frame p x
    exact .same fun n => by rw [e]; cases n <;> rfl
  | writeSet n => exact .same fun m => by cases n <;> cases m <;> rfl
  | writeBoth => exact .same fun n => by cases n <;> rfl
  | settings => exact State.offersSince_announces (fun _ => rfl) fun _ => .same _ _ _
  | @refill n =>
    obtain ⟨l, e⟩ := State.refillTo_frame n s
    refine State.offersSince_announces (fun p => ?_) fun b => ?_
    · rw [e]; rfl
    · rw [e]; exact .same _ _ _
  | supplyLoss => exact .ofLine rfl
  | resetRelease => exact State.Announces.refreshAtn (.ofLine rfl)

theorem State.Deed.announces {s u : State} (h : s.Deed u) : s.Announces u := by
  cases h with
  | nothing => exact .same fun _ => rfl
  | act act => exact .ofAct act.regular
  | table deed => exact .same deed.tableOnly.status
  | set set => exact set.announces
  | selectBoth n => exact .same fun m => by cases m with
    | permit b => cases b <;> rfl
    | _ => rfl
  | select b n => exact .same fun m => by cases m with
    | permit c => cases b <;> cases c <;> rfl
    | _ => rfl
  | takeCount b => exact .same fun m => by cases m with
    | lane c => cases b <;> cases c <;> rfl
    | _ => rfl
  | reportMode b m => exact .same fun n => by cases n with
    | lane c =>
      refine congrArg some ?_
      rw [State.laneInStep, State.laneInStep, State.lane_setLane]
      split
      · rename_i own
        subst own
        unfold Lane.withMode
        split <;> rfl
      · rfl
    | _ => rfl

theorem State.Does.announces {s t : State} (h : s.Does t) : s.Announces t := by
  obtain ⟨v, u, before, deed, after⟩ := h
  intro n x y hx hy p
  have offered := deed.announces n x y ((before.status n).trans hx) ((after.status n).symm.trans hy) p
  rw [after.ports p]
  rw [before.ports p] at offered
  exact offered

/-- Settles O57: every deed is an action whose offers stand at its end, or leaves the statuses as they were. -/
theorem stepKeepsBoomsFollowed : Obligations.StepKeepsBoomsFollowed := by
  unfold Obligations.StepKeepsBoomsFollowed
  constructor
  · intro s t follows ran
    rcases step_cases s with ⟨_, ticks⟩ | ⟨i, rest, _, runs⟩
    · obtain rfl := Host.Outcome.next.inj (ticks.symm.trans ran)
      exact State.tick_followed follows
    · have taken : ({ s with pending := rest } : State).Followed := follows.congr rfl rfl (fun _ => rfl) rfl rfl
      exact exec_followed (runs.symm.trans ran) taken
  · intro c s t p ran powerOn resetN restart n before after named
    have announced := (exec_does ran powerOn resetN restart).announces
    rcases named with ⟨b, rfl, rfl, rfl⟩ | ⟨b, rfl, rfl, rfl⟩ | ⟨b, rfl, rfl, rfl⟩ | ⟨rfl, rfl, rfl⟩ | ⟨rfl, rfl, rfl⟩
    · exact announced (.permit b) _ _ rfl rfl p
    · exact announced (.lane b) _ _ rfl rfl p
    · exact announced (.void b) _ _ rfl rfl p
    · exact announced .loader _ _ rfl rfl p
    · exact announced .magazineLow _ _ rfl rfl p

end Sys2Proof.Machine

/-! PROOFS. The Flow Arbiter by itself: what a request, a release and the service pass do to the grants, the queue and the
drilling order, and what of them stays in agreement (chapter 9). -/

namespace Sys2Proof.Machine

/-! ### Operations on the arbiter -/

/-- The grant of a boom replaced. -/
def Arbiter.regrant (a : Arbiter) (b : Boom) (g : FlowGrant) : Arbiter := { a with grants := a.grants.set b (some g) }

/-- The grant with another amount, and its degraded mark with it (R151, R154). -/
def FlowGrant.withAmount (g : FlowGrant) (n : Nat) : FlowGrant := { g with amount := n, degraded := decide (n < g.demand) }

/-- A request judged (R151 steps 2 to 4), on the arbiter alone. -/
def Arbiter.judge (a : Arbiter) (r : FlowRequest) : Option Arbiter :=
  if r.demand ≤ a.available then some (a.give r r.demand)
  else if r.degradable ∧ r.minimum ≤ a.available then some (a.give r a.available)
  else
    match a.cuttable r with
    | some g => some ((a.regrant r.boom.other (g.cut (r.demand - a.available))).give r r.demand)
    | none => none

/-- Step 1 of the service pass, on the arbiter alone (R154). -/
def Arbiter.serveQueue : Nat → Arbiter → Arbiter
  | 0, a => a
  | n + 1, a =>
    match a.queue with
    | [] => a
    | r :: rest =>
      match a.judge r with
      | some t => Arbiter.serveQueue n { t with queue := rest }
      | none => a

/-- A top-up, on the arbiter alone (R154 step 2). -/
def Arbiter.topUp (a : Arbiter) (b : Boom) : Arbiter :=
  match a.grants.get b with
  | some g =>
    if g.degraded = true ∧ 0 < min (g.demand - g.amount) a.available then
      a.regrant b (g.withAmount (g.amount + min (g.demand - g.amount) a.available))
    else a
  | none => a

/-- A cut, on the arbiter alone (R154 step 3). -/
def Arbiter.cutDown (a : Arbiter) (b : Boom) : Arbiter :=
  match a.grants.get b with
  | some g =>
    if 0 < min (a.total - a.capacity) (g.amount - g.minimum) then
      a.regrant b (g.cut (min (a.total - a.capacity) (g.amount - g.minimum)))
    else a
  | none => a

/-- The service pass, on the arbiter alone (R154). -/
def Arbiter.service (a : Arbiter) : Arbiter :=
  let a1 := a.serveQueue a.queue.length
  let a2 := a1.order.foldl Arbiter.topUp a1
  a2.order.reverse.foldl Arbiter.cutDown a2

/-- A request, on the arbiter alone (R151). -/
def Arbiter.request (a : Arbiter) (r : FlowRequest) : Arbiter :=
  match a.queue with
  | [] => (a.judge r).getD { a with queue := a.queue ++ [r] }
  | _ :: _ => { a with queue := a.queue ++ [r] }

/-- The boom's grant and its place in the drilling order are gone (R153). -/
def Arbiter.withoutGrant (a : Arbiter) (b : Boom) : Arbiter :=
  { a with grants := a.grants.set b none, order := a.order.filter fun x => x != b }

/-- The boom's place in the queue is gone (R153). -/
def Arbiter.withoutPlace (a : Arbiter) (b : Boom) : Arbiter := { a with queue := a.queue.filter fun r => r.boom != b }

/-- A release, on the arbiter alone (R153). -/
def Arbiter.release (a : Arbiter) (b : Boom) : Arbiter :=
  match a.grants.get b with
  | some _ => (a.withoutGrant b).service
  | none => if a.queue.any fun r => r.boom == b then (a.withoutPlace b).service else a

theorem State.judgeRequest_arbiter (s : State) (r : FlowRequest) :
    (s.judgeRequest r).map State.arbiter = s.arbiter.judge r := by
  unfold State.judgeRequest Arbiter.judge
  simp only []
  split
  · rfl
  · split
    · rfl
    · cases s.arbiter.cuttable r <;> rfl

theorem State.serveFlowQueue_arbiter (n : Nat) (s : State) :
    (s.serveFlowQueue n).arbiter = s.arbiter.serveQueue n := by
  induction n generalizing s with
  | zero => rfl
  | succ n ih =>
    unfold State.serveFlowQueue Arbiter.serveQueue
    cases s.arbiter.queue with
    | nil => rfl
    | cons r rest =>
      simp only [← s.judgeRequest_arbiter r]
      cases s.judgeRequest r with
      | none => rfl
      | some t => exact ih _

theorem State.topUp_arbiter (s : State) (b : Boom) : (s.topUp b).arbiter = s.arbiter.topUp b := by
  unfold State.topUp Arbiter.topUp
  cases s.arbiter.grants.get b with
  | none => rfl
  | some g =>
    simp only []
    split <;> rfl

theorem State.cutDown_arbiter (s : State) (b : Boom) : (s.cutDown b).arbiter = s.arbiter.cutDown b := by
  unfold State.cutDown Arbiter.cutDown
  cases s.arbiter.grants.get b with
  | none => rfl
  | some g =>
    simp only []
    split <;> rfl

theorem State.foldFlow_arbiter {f : State → Boom → State} {g : Arbiter → Boom → Arbiter}
    (h : ∀ s b, (f s b).arbiter = g s.arbiter b) (l : List Boom) (s : State) :
    (l.foldl f s).arbiter = l.foldl g s.arbiter := by
  induction l generalizing s with
  | nil => rfl
  | cons b rest ih => rw [List.foldl_cons, List.foldl_cons, ih, h]

theorem State.servicePass_arbiter (s : State) : s.servicePass.arbiter = s.arbiter.service := by
  unfold State.servicePass Arbiter.service
  simp only [State.foldFlow_arbiter State.cutDown_arbiter, State.foldFlow_arbiter State.topUp_arbiter,
    State.serveFlowQueue_arbiter]

theorem State.requestFlow_arbiter (s : State) (r : FlowRequest) : (s.requestFlow r).arbiter = s.arbiter.request r := by
  have judged := s.judgeRequest_arbiter r
  unfold State.requestFlow Arbiter.request
  cases s.arbiter.queue with
  | nil =>
    rw [← judged]
    cases s.judgeRequest r <;> rfl
  | cons => rfl

theorem State.releaseFlow_arbiter (s : State) (b : Boom) : (s.releaseFlow b).arbiter = s.arbiter.release b := by
  unfold State.releaseFlow Arbiter.release
  cases s.arbiter.grants.get b with
  | some => exact State.servicePass_arbiter _
  | none =>
    simp only []
    split
    · exact State.servicePass_arbiter _
    · rfl

/-! ### Amounts -/

theorem Arbiter.total_eq (a : Arbiter) (b : Boom) :
    a.total = flowAmount (a.grants.get b) + flowAmount (a.grants.get b.other) := by
  cases b
  · rfl
  · exact Nat.add_comm _ _

theorem Arbiter.fixedSum_eq (a : Arbiter) (b : Boom) :
    a.fixedSum = fixedAmount (a.grants.get b) + fixedAmount (a.grants.get b.other) := by
  cases b
  · rfl
  · exact Nat.add_comm _ _

theorem Arbiter.floor_eq (a : Arbiter) (b : Boom) : a.floor =
    a.fixedSum + drillingMinimum (a.grants.get b) + drillingMinimum (a.grants.get b.other) := by
  cases b
  · rfl
  · exact Nat.add_right_comm _ _ _

/-- The stage of a boom's grant. -/
def Arbiter.stageOf (a : Arbiter) (b : Boom) : Option FlowStage := (a.grants.get b).map FlowGrant.stage

theorem Arbiter.stageOf_eq_some {a : Arbiter} {b : Boom} {x : FlowStage} :
    a.stageOf b = some x ↔ ∃ g, a.grants.get b = some g ∧ g.stage = x := Option.map_eq_some_iff

theorem Arbiter.stageOf_eq_none {a : Arbiter} {b : Boom} : a.stageOf b = none ↔ a.grants.get b = none :=
  Option.map_eq_none_iff

/-- The amount of a grant lies between its minimum and its demand, and it is degraded exactly when it is below the
demand (R151). -/
structure FlowGrant.Fits (g : FlowGrant) : Prop where
  least : g.minimum ≤ g.amount
  most : g.amount ≤ g.demand
  degraded : g.degraded = decide (g.amount < g.demand)

/-- The grant is one that the requests of its stage become (R46, R150). -/
structure FlowGrant.Proper (b : Boom) (g : FlowGrant) : Prop where
  demand : g.demand = (FlowRequest.ofStage b g.stage).demand
  minimum : g.minimum = (FlowRequest.ofStage b g.stage).minimum
  fits : g.Fits

theorem FlowGrant.Fits.withAmount_self {g : FlowGrant} (h : g.Fits) : g.withAmount g.amount = g := by
  unfold FlowGrant.withAmount
  rw [← h.degraded]

theorem FlowGrant.Fits.withAmount {g : FlowGrant} {n : Nat} (least : g.minimum ≤ n) (most : n ≤ g.demand) :
    (g.withAmount n).Fits := ⟨least, most, rfl⟩

theorem FlowGrant.Fits.cut_eq {g : FlowGrant} (h : g.Fits) {x : Nat} (pos : 0 < x) (le : x ≤ g.amount - g.minimum) :
    g.cut x = g.withAmount (g.amount - x) := by
  have below : g.amount - x < g.demand := by
    have := h.most
    omega
  unfold FlowGrant.cut FlowGrant.withAmount
  rw [decide_eq_true below]

theorem Pair.set_get_some {α : Type} {x : Pair (Option α)} {b : Boom} {v : α} (h : x.get b = some v) :
    x.set b (some v) = x := by rw [← h, Pair.set_get]

theorem Arbiter.regrant_self {a : Arbiter} {b : Boom} {g : FlowGrant} (h : a.grants.get b = some g) :
    a.regrant b g = a := by
  unfold Arbiter.regrant
  rw [Pair.set_get_some h]

theorem Arbiter.topUp_eq {a : Arbiter} {b : Boom} {g : FlowGrant} (h : a.grants.get b = some g) (fits : g.Fits) :
    a.topUp b = a.regrant b (g.withAmount (g.amount + min (g.demand - g.amount) a.available)) := by
  unfold Arbiter.topUp
  rw [h]
  simp only []
  split
  · rfl
  · rename_i idle
    have zero : min (g.demand - g.amount) a.available = 0 := by
      rw [fits.degraded, decide_eq_true_iff] at idle
      omega
    rw [zero, Nat.add_zero, fits.withAmount_self, Arbiter.regrant_self h]

theorem Arbiter.cutDown_eq {a : Arbiter} {b : Boom} {g : FlowGrant} (h : a.grants.get b = some g) (fits : g.Fits) :
    a.cutDown b = a.regrant b (g.withAmount (g.amount - min (a.total - a.capacity) (g.amount - g.minimum))) := by
  unfold Arbiter.cutDown
  rw [h]
  simp only []
  split
  · rename_i pos
    rw [fits.cut_eq pos (Nat.min_le_right _ _)]
  · rename_i idle
    rw [Nat.eq_zero_of_not_pos idle, Nat.sub_zero, fits.withAmount_self, Arbiter.regrant_self h]

theorem Arbiter.topUp_none {a : Arbiter} {b : Boom} (h : a.grants.get b = none) : a.topUp b = a := by
  unfold Arbiter.topUp
  rw [h]

theorem Arbiter.cutDown_none {a : Arbiter} {b : Boom} (h : a.grants.get b = none) : a.cutDown b = a := by
  unfold Arbiter.cutDown
  rw [h]

section
variable {a : Arbiter} {b : Boom} {g : FlowGrant}

@[simp] theorem Arbiter.regrant_get (a : Arbiter) (b : Boom) (g : FlowGrant) :
    (a.regrant b g).grants.get b = some g := Pair.get_set_same _ _ _

@[simp] theorem Arbiter.regrant_get_other (a : Arbiter) (b : Boom) (g : FlowGrant) :
    (a.regrant b g).grants.get b.other = a.grants.get b.other := Pair.get_set_other _ _ _

theorem Arbiter.regrant_total (h : a.grants.get b = some g) (n : Nat) :
    (a.regrant b (g.withAmount n)).total + g.amount = a.total + n := by
  rw [Arbiter.total_eq _ b, Arbiter.total_eq a b, Arbiter.regrant_get, Arbiter.regrant_get_other, h]
  exact Nat.add_right_comm _ _ _ |>.trans (by simp only [flowAmount, FlowGrant.withAmount]; omega)

theorem Arbiter.regrant_fixedSum (h : a.grants.get b = some g) (drilling : g.stage = .drilling) (n : Nat) :
    (a.regrant b (g.withAmount n)).fixedSum = a.fixedSum := by
  rw [Arbiter.fixedSum_eq _ b, Arbiter.fixedSum_eq a b, Arbiter.regrant_get, Arbiter.regrant_get_other, h]
  simp only [fixedAmount, FlowGrant.withAmount, drilling, if_true]

theorem Arbiter.regrant_capacity (h : a.grants.get b = some g) (drilling : g.stage = .drilling) (n : Nat) :
    (a.regrant b (g.withAmount n)).capacity = a.capacity := by
  unfold Arbiter.capacity
  rw [Arbiter.regrant_fixedSum h drilling]
  rfl

theorem Arbiter.regrant_floor (h : a.grants.get b = some g) (drilling : g.stage = .drilling) (n : Nat) :
    (a.regrant b (g.withAmount n)).floor = a.floor := by
  rw [Arbiter.floor_eq _ b, Arbiter.floor_eq a b, Arbiter.regrant_fixedSum h drilling, Arbiter.regrant_get,
    Arbiter.regrant_get_other, h]
  rfl

theorem Arbiter.regrant_stageOf (h : a.grants.get b = some g) (n : Nat) (c : Boom) :
    (a.regrant b (g.withAmount n)).stageOf c = a.stageOf c := by
  unfold Arbiter.stageOf Arbiter.regrant
  rw [Pair.get_set]
  split
  · rename_i own
    rw [own, h]
    rfl
  · rfl

end

/-! ### Agreement -/

/-- The grants are proper ones, the drilling order lists the DRILLING ones, and the derate target is in its range. -/
structure Arbiter.Granted (a : Arbiter) : Prop where
  proper : ∀ b g, a.grants.get b = some g → g.Proper b
  order : ∀ b, b ∈ a.order ↔ a.stageOf b = some .drilling
  orderOnce : a.order.Nodup
  derate : 60 ≤ a.derate ∧ a.derate ≤ 100

/-- The queue holds requests of R46, one of a boom and none of a boom with a grant. -/
structure Arbiter.Queued (a : Arbiter) : Prop where
  waiting : ∀ r ∈ a.queue, r = FlowRequest.ofStage r.boom r.stage
  once : (a.queue.map FlowRequest.boom).Nodup
  apart : ∀ r ∈ a.queue, a.stageOf r.boom = none

/-- The boom has a grant or a waiting request of the stage. -/
def Arbiter.Holds (a : Arbiter) (b : Boom) (x : FlowStage) : Prop :=
  a.stageOf b = some x ∨ ∃ r ∈ a.queue, r.boom = b ∧ r.stage = x

/-- A change of the arbiter that leaves the drilling minimums, the fixed grants and the stages, the drilling order, the
queue and the derate target: a cut or a top-up. -/
structure Arbiter.Tuned (a t : Arbiter) : Prop where
  granted : a.Granted → t.Granted
  queue : t.queue = a.queue
  order : t.order = a.order
  derate : t.derate = a.derate
  stageOf : ∀ b, t.stageOf b = a.stageOf b
  capacity : t.capacity = a.capacity
  floor : t.floor = a.floor
  fixed : ∀ b g, a.grants.get b = some g → g.stage ≠ .drilling → t.grants.get b = some g

namespace Arbiter.Tuned
variable {a t u : Arbiter}

theorem refl (a : Arbiter) : a.Tuned a := ⟨id, rfl, rfl, rfl, fun _ => rfl, rfl, rfl, fun _ _ h _ => h⟩

theorem trans (h : a.Tuned t) (k : t.Tuned u) : a.Tuned u where
  granted x := k.granted (h.granted x)
  queue := k.queue.trans h.queue
  order := k.order.trans h.order
  derate := k.derate.trans h.derate
  stageOf b := (k.stageOf b).trans (h.stageOf b)
  capacity := k.capacity.trans h.capacity
  floor := k.floor.trans h.floor
  fixed b g x y := k.fixed b g (h.fixed b g x y) y

theorem regrant {b : Boom} {g : FlowGrant} {n : Nat} (h : a.grants.get b = some g) (drilling : g.stage = .drilling)
    (least : g.minimum ≤ n) (most : n ≤ g.demand) : a.Tuned (a.regrant b (g.withAmount n)) where
  granted k :=
    { proper := fun c f hf => by
        unfold Arbiter.regrant at hf
        rw [Pair.get_set] at hf
        split at hf
        · rename_i own
          obtain rfl := Option.some.inj hf
          have old := k.proper c g (own ▸ h)
          exact ⟨old.demand, old.minimum, .withAmount least most⟩
        · exact k.proper c f hf
      order := fun c => by rw [Arbiter.regrant_stageOf h]; exact k.order c
      orderOnce := k.orderOnce
      derate := k.derate }
  queue := rfl
  order := rfl
  derate := rfl
  stageOf := Arbiter.regrant_stageOf h n
  capacity := Arbiter.regrant_capacity h drilling n
  floor := Arbiter.regrant_floor h drilling n
  fixed c f hf fixed := by
    unfold Arbiter.regrant
    rw [Pair.get_set]
    split
    · rename_i own
      rw [own, h] at hf
      exact absurd (Option.some.inj hf ▸ drilling) fixed
    · exact hf

end Arbiter.Tuned

/-- A SPINNING or TORQUING grant is of its demand, which is its minimum (R46, R150). -/
theorem FlowGrant.Proper.whole {b : Boom} {g : FlowGrant} (h : g.Proper b) (fixed : g.stage ≠ .drilling) :
    g.amount = g.demand ∧ g.minimum = g.demand ∧ g.demand ≤ 50 := by
  obtain ⟨demand, minimum, least, most, _⟩ := h
  cases stage : g.stage with
  | drilling => exact absurd stage fixed
  | spinning | torquing =>
    simp only [stage, FlowRequest.ofStage] at demand minimum
    omega

theorem FlowGrant.Proper.range {b : Boom} {g : FlowGrant} (h : g.Proper b) (drilling : g.stage = .drilling) :
    g.demand = 60 ∧ g.minimum = 30 := by
  obtain ⟨demand, minimum, _⟩ := h
  simp only [drilling, FlowRequest.ofStage] at demand minimum
  exact ⟨demand, minimum⟩

namespace Arbiter
variable {a t : Arbiter} {b : Boom} {r : FlowRequest}

theorem Granted.topUp (h : a.Granted) (b : Boom) : a.Tuned (a.topUp b) := by
  cases grant : a.grants.get b with
  | none => rw [Arbiter.topUp_none grant]; exact .refl a
  | some g =>
    have proper := h.proper b g grant
    have most := proper.fits.most
    have least := proper.fits.least
    rw [Arbiter.topUp_eq grant proper.fits]
    by_cases drilling : g.stage = .drilling
    · exact .regrant grant drilling (by omega) (by omega)
    · have whole := (proper.whole drilling).1
      rw [whole, Nat.sub_self, Nat.zero_min, Nat.add_zero, ← whole, proper.fits.withAmount_self,
        Arbiter.regrant_self grant]
      exact .refl a

theorem Granted.cutDown (h : a.Granted) (b : Boom) : a.Tuned (a.cutDown b) := by
  cases grant : a.grants.get b with
  | none => rw [Arbiter.cutDown_none grant]; exact .refl a
  | some g =>
    have proper := h.proper b g grant
    have most := proper.fits.most
    have least := proper.fits.least
    rw [Arbiter.cutDown_eq grant proper.fits]
    by_cases drilling : g.stage = .drilling
    · exact .regrant grant drilling (by omega) (by omega)
    · obtain ⟨whole, minimum, _⟩ := proper.whole drilling
      rw [show g.amount - g.minimum = 0 by omega, Nat.min_zero, Nat.sub_zero, proper.fits.withAmount_self,
        Arbiter.regrant_self grant]
      exact .refl a

theorem Granted.fold {f : Arbiter → Boom → Arbiter} (step : ∀ {a : Arbiter} (b : Boom), a.Granted → a.Tuned (f a b))
    (l : List Boom) (h : a.Granted) : a.Tuned (l.foldl f a) := by
  induction l generalizing a with
  | nil => exact .refl a
  | cons b rest ih =>
    have first := step b h
    exact first.trans (ih (first.granted h))

end Arbiter
end Sys2Proof.Machine

/-! PROOFS. The Flow Arbiter stays in agreement: a request, a release and the service pass keep the grants proper, the queue
and the order sound, and the grants within the effective capacity (R149 to R155). -/

namespace Sys2Proof.Machine
namespace Arbiter

variable {a t u : Arbiter} {b : Boom} {r : FlowRequest}

/-! ### A request granted -/

theorem give_get_self (a : Arbiter) (r : FlowRequest) (n : Nat) :
    (a.give r n).grants.get r.boom = some (r.granted n) := Pair.get_set_same _ _ _

theorem give_get_other (a : Arbiter) (r : FlowRequest) (n : Nat) :
    (a.give r n).grants.get r.boom.other = a.grants.get r.boom.other := Pair.get_set_other _ _ _

theorem give_stageOf (a : Arbiter) (r : FlowRequest) (n : Nat) (c : Boom) :
    (a.give r n).stageOf c = if c = r.boom then some r.stage else a.stageOf c := by
  unfold Arbiter.stageOf Arbiter.give
  rw [Pair.get_set]
  split <;> rfl

theorem give_total (free : a.stageOf r.boom = none) (n : Nat) : (a.give r n).total = a.total + n := by
  rw [Arbiter.total_eq _ r.boom, Arbiter.total_eq a r.boom, give_get_self, give_get_other,
    Arbiter.stageOf_eq_none.1 free]
  simp only [flowAmount, FlowRequest.granted]
  omega

theorem give_capacity (free : a.stageOf r.boom = none) (n : Nat) : a.capacity ≤ (a.give r n).capacity := by
  unfold Arbiter.capacity
  rw [Arbiter.fixedSum_eq (a.give r n) r.boom, Arbiter.fixedSum_eq a r.boom, give_get_self, give_get_other,
    Arbiter.stageOf_eq_none.1 free]
  simp only [fixedAmount, Arbiter.give]
  omega

theorem give_keeps (free : a.stageOf r.boom = none) (n : Nat) {g : FlowGrant} (h : a.grants.get b = some g) :
    (a.give r n).grants.get b = some g := by
  unfold Arbiter.give
  rw [Pair.get_set]
  split
  · rename_i own
    rw [Arbiter.stageOf_eq_none, ← own, h] at free
    exact absurd free nofun
  · exact h

theorem FlowRequest.proper_granted (h : r = FlowRequest.ofStage r.boom r.stage) {n : Nat} (least : r.minimum ≤ n)
    (most : n ≤ r.demand) : (r.granted n).Proper r.boom :=
  ⟨congrArg FlowRequest.demand h, congrArg FlowRequest.minimum h, least, most, rfl⟩

theorem Granted.give (h : a.Granted) (proper : r = FlowRequest.ofStage r.boom r.stage)
    (free : a.stageOf r.boom = none) {n : Nat} (least : r.minimum ≤ n) (most : n ≤ r.demand) :
    (a.give r n).Granted where
  proper c g hg := by
    unfold Arbiter.give at hg
    rw [Pair.get_set] at hg
    split at hg
    · rename_i own
      rw [own, ← Option.some.inj hg]
      exact FlowRequest.proper_granted proper least most
    · exact h.proper c g hg
  order c := by
    rw [give_stageOf]
    unfold Arbiter.give
    split
    · rename_i drilling
      rw [List.mem_append, List.mem_singleton, h.order]
      split
      · rename_i own
        exact ⟨fun _ => congrArg some drilling, fun _ => .inr own⟩
      · rename_i other
        exact ⟨fun k => k.resolve_right other, .inl⟩
    · rename_i fixed
      rw [h.order]
      split
      · rename_i own
        rw [own, free]
        exact ⟨nofun, fun k => absurd (Option.some.inj k) fixed⟩
      · rfl
  orderOnce := by
    unfold Arbiter.give
    split
    · refine List.nodup_append.2 ⟨h.orderOnce, List.nodup_singleton _, fun c hc d hd eq => ?_⟩
      have held := (h.order c).1 hc
      rw [eq, List.mem_singleton.1 hd, free] at held
      exact absurd held nofun
    · exact h.orderOnce
  derate := h.derate

/-- What a request that is granted leaves (R151). -/
structure Gives (a : Arbiter) (r : FlowRequest) (t : Arbiter) : Prop where
  granted : t.Granted
  queue : t.queue = a.queue
  derate : t.derate = a.derate
  stageOf : ∀ c, t.stageOf c = if c = r.boom then some r.stage else a.stageOf c
  within : a.total ≤ a.capacity → t.total ≤ t.capacity
  fixed : ∀ b g, a.grants.get b = some g → g.stage ≠ .drilling → t.grants.get b = some g

theorem Granted.gives (h : a.Granted) (proper : r = FlowRequest.ofStage r.boom r.stage)
    (free : a.stageOf r.boom = none) {n : Nat} (least : r.minimum ≤ n) (most : n ≤ r.demand)
    (room : a.total ≤ a.capacity → n ≤ a.available) : a.Gives r (a.give r n) where
  granted := h.give proper free least most
  queue := rfl
  derate := rfl
  stageOf := give_stageOf a r n
  within k := by
    have more := give_capacity free n
    have room := room k
    rw [give_total free]
    unfold Arbiter.available at room
    omega
  fixed b g hg _ := give_keeps free n hg

theorem ofStage_minimum_le (b : Boom) (x : FlowStage) :
    (FlowRequest.ofStage b x).minimum ≤ (FlowRequest.ofStage b x).demand ∧ 30 ≤ (FlowRequest.ofStage b x).minimum := by
  cases x <;> simp [FlowRequest.ofStage]

theorem cuttable_eq_some {g : FlowGrant} (h : a.cuttable r = some g) : a.grants.get r.boom.other = some g ∧
    r.stage ≠ .drilling ∧ g.stage = .drilling ∧ r.demand - a.available ≤ g.amount - g.minimum := by
  unfold Arbiter.cuttable at h
  split at h
  · rename_i f grant
    split at h
    · rename_i may
      rw [← Option.some.inj h]
      exact ⟨grant, may⟩
    · exact absurd h nofun
  · exact absurd h nofun

theorem cuttable_eq_none (h : a.cuttable r = none) {g : FlowGrant} (grant : a.grants.get r.boom.other = some g)
    (fixed : r.stage ≠ .drilling) (drilling : g.stage = .drilling) : g.amount - g.minimum < r.demand - a.available := by
  unfold Arbiter.cuttable at h
  rw [grant] at h
  simp only [] at h
  split at h
  · exact absurd h nofun
  · rename_i cannot
    exact Nat.lt_of_not_le fun le => cannot ⟨fixed, drilling, le⟩

/-- A grant that leaves a shortfall cut from the other boom's DRILLING grant (R152). -/
theorem Granted.gives_cut (h : a.Granted) (proper : r = FlowRequest.ofStage r.boom r.stage)
    (free : a.stageOf r.boom = none) {g : FlowGrant} (grant : a.grants.get r.boom.other = some g)
    (drilling : g.stage = .drilling) (short : a.available < r.demand)
    (room : r.demand - a.available ≤ g.amount - g.minimum) :
    a.Gives r ((a.regrant r.boom.other (g.cut (r.demand - a.available))).give r r.demand) := by
  have fits := (h.proper _ _ grant).fits
  have most := fits.most
  rw [fits.cut_eq (by omega) room]
  obtain ⟨m, cut⟩ : ∃ m, m + (r.demand - a.available) = g.amount := ⟨_, Nat.sub_add_cancel (by omega)⟩
  rw [show g.amount - (r.demand - a.available) = m by omega]
  have tuned : a.Tuned (a.regrant r.boom.other (g.withAmount m)) := .regrant grant drilling (by omega) (by omega)
  have total := Arbiter.regrant_total grant m
  have capacity := tuned.capacity
  have minimum := (ofStage_minimum_le r.boom r.stage).1
  rw [← proper] at minimum
  have free' := (tuned.stageOf r.boom).trans free
  exact
    { granted := (tuned.granted h).give proper free' minimum (le_refl _)
      queue := rfl
      derate := rfl
      stageOf := fun c => by rw [give_stageOf, tuned.stageOf]
      within := fun within => by
        have more := give_capacity free' r.demand
        rw [give_total free']
        unfold Arbiter.available at *
        omega
      fixed := fun c f hf k => give_keeps free' _ (tuned.fixed c f hf k) }

/-- A judged request that is granted (R151). -/
theorem Granted.judge (h : a.Granted) (proper : r = FlowRequest.ofStage r.boom r.stage)
    (free : a.stageOf r.boom = none) (given : a.judge r = some t) : a.Gives r t := by
  have minimum := (ofStage_minimum_le r.boom r.stage).1
  rw [← proper] at minimum
  unfold Arbiter.judge at given
  split at given
  · rename_i whole
    rw [← Option.some.inj given]
    exact h.gives proper free minimum (le_refl _) fun _ => whole
  · rename_i short
    split at given
    · rename_i degraded
      rw [← Option.some.inj given]
      exact h.gives proper free degraded.2 (Nat.le_of_not_le short) fun _ => le_refl _
    · split at given
      · rename_i g cuttable
        obtain ⟨grant, _, drilling, room⟩ := cuttable_eq_some cuttable
        rw [← Option.some.inj given]
        exact h.gives_cut proper free grant drilling (Nat.lt_of_not_le short) room
      · exact absurd given nofun

/-- A request that cannot be granted finds too little flow, also with the other boom's DRILLING grant cut (R151). -/
structure Refuses (a : Arbiter) (r : FlowRequest) : Prop where
  demand : a.available < r.demand
  minimum : r.stage = .drilling → a.available < r.minimum
  cut : ∀ g, r.stage ≠ .drilling → a.grants.get r.boom.other = some g → g.stage = .drilling →
    g.amount - g.minimum < r.demand - a.available

theorem judge_eq_none (h : a.judge r = none) : a.Refuses r := by
  unfold Arbiter.judge at h
  split at h
  · exact absurd h nofun
  · rename_i short
    split at h
    · exact absurd h nofun
    · rename_i shorter
      split at h
      · exact absurd h nofun
      · rename_i uncut
        refine ⟨Nat.lt_of_not_le short, fun drilling => Nat.lt_of_not_le fun le => shorter ⟨?_, le⟩, fun g fixed grant drilling =>
          cuttable_eq_none uncut grant fixed drilling⟩
        exact beq_iff_eq.2 drilling

/-- Above the effective capacity no request can be granted. -/
theorem Granted.judge_over (h : a.Granted) (proper : r = FlowRequest.ofStage r.boom r.stage)
    (above : a.capacity < a.total) : a.judge r = none := by
  have none : a.available = 0 := Nat.sub_eq_zero_of_le above.le
  have positive := ofStage_minimum_le r.boom r.stage
  rw [← proper] at positive
  unfold Arbiter.judge
  rw [if_neg (by omega), if_neg (by omega)]
  cases cuttable : a.cuttable r with
  | none => rfl
  | some g =>
    obtain ⟨grant, fixed, drilling, room⟩ := cuttable_eq_some cuttable
    have range := (h.proper _ _ grant).range drilling
    have most := (h.proper _ _ grant).fits.most
    have demand : 40 ≤ r.demand := by
      rw [proper]
      cases stage : r.stage with
      | drilling => exact absurd stage fixed
      | spinning | torquing => simp [FlowRequest.ofStage]
    omega

/-! ### The service pass -/

/-- Grants and queue in agreement. -/
structure Sound (a : Arbiter) : Prop where
  granted : a.Granted
  queued : a.Queued

/-- A change that keeps the agreement, the derate target, what each boom holds, and the SPINNING and TORQUING grants. -/
structure Kept (a t : Arbiter) : Prop where
  sound : t.Sound
  derate : t.derate = a.derate
  holds : ∀ b x, t.Holds b x ↔ a.Holds b x
  within : a.total ≤ a.capacity → t.total ≤ t.capacity
  fixed : ∀ b g, a.grants.get b = some g → g.stage ≠ .drilling → t.grants.get b = some g

theorem Kept.refl (h : a.Sound) : a.Kept a := ⟨h, rfl, fun _ _ => Iff.rfl, id, fun _ _ k _ => k⟩

theorem Kept.trans (h : a.Kept t) (k : t.Kept u) : a.Kept u where
  sound := k.sound
  derate := k.derate.trans h.derate
  holds b x := (k.holds b x).trans (h.holds b x)
  within x := k.within (h.within x)
  fixed b g x y := k.fixed b g (h.fixed b g x y) y

theorem Tuned.kept (k : a.Tuned t) (h : a.Sound) (within : a.total ≤ a.capacity → t.total ≤ t.capacity) : a.Kept t where
  sound := ⟨k.granted h.granted, by rw [k.queue]; exact h.queued.waiting, by rw [k.queue]; exact h.queued.once, by
    rw [k.queue]
    exact fun r hr => (k.stageOf r.boom).trans (h.queued.apart r hr)⟩
  derate := k.derate
  holds b x := by
    unfold Arbiter.Holds
    rw [k.stageOf, k.queue]
  within := within
  fixed := k.fixed

/-- The head of the queue is granted, and leaves the queue (R154 step 1). -/
theorem Sound.serve (h : a.Sound) {rest : List FlowRequest} (head : a.queue = r :: rest) (given : a.judge r = some t) :
    a.Kept { t with queue := rest } := by
  have mem : r ∈ a.queue := by rw [head]; exact List.mem_cons_self
  have later : ∀ x ∈ rest, x ∈ a.queue := fun x hx => by rw [head]; exact List.mem_cons_of_mem r hx
  have once := h.queued.once
  rw [head, List.map_cons, List.nodup_cons] at once
  have gives := h.granted.judge (h.queued.waiting r mem) (h.queued.apart r mem) given
  have elsewhere : ∀ x ∈ rest, x.boom ≠ r.boom := fun x hx own => once.1 (own ▸ List.mem_map_of_mem hx)
  exact
    { sound :=
        ⟨⟨gives.granted.proper, gives.granted.order, gives.granted.orderOnce, gives.granted.derate⟩,
          fun x hx => h.queued.waiting x (later x hx), once.2, fun x hx => by
            refine (gives.stageOf x.boom).trans ?_
            rw [if_neg (elsewhere x hx)]
            exact h.queued.apart x (later x hx)⟩
      derate := gives.derate
      holds := fun c x => by
        have stage : ({ t with queue := rest } : Arbiter).stageOf c = _ := gives.stageOf c
        unfold Arbiter.Holds
        rw [stage, head]
        simp only [List.mem_cons, exists_eq_or_imp]
        split
        · rename_i own
          have none : a.stageOf c = none := own ▸ h.queued.apart r mem
          rw [none]
          constructor
          · rintro (same | later)
            · exact .inr (.inl ⟨own.symm, Option.some.inj same⟩)
            · exact .inr (.inr later)
          · rintro (never | ⟨_, same⟩ | later)
            · exact absurd never nofun
            · exact .inl (congrArg some same)
            · exact .inr later
        · rename_i other
          have away : ¬ (r.boom = c ∧ r.stage = x) := fun k => other k.1.symm
          rw [or_iff_right away]
      within := gives.within
      fixed := gives.fixed }

theorem Sound.serveQueue (n : Nat) (h : a.Sound) : a.Kept (a.serveQueue n) := by
  induction n generalizing a with
  | zero => exact .refl h
  | succ n ih =>
    unfold Arbiter.serveQueue
    cases head : a.queue with
    | nil => exact .refl h
    | cons r rest =>
      simp only []
      cases given : a.judge r with
      | none => exact .refl h
      | some t =>
        have first := h.serve head given
        exact first.trans (ih first.sound)

theorem Sound.serveQueue_over (n : Nat) (h : a.Sound) (above : a.capacity < a.total) : a.serveQueue n = a := by
  cases n with
  | zero => rfl
  | succ n =>
    unfold Arbiter.serveQueue
    cases head : a.queue with
    | nil => rfl
    | cons r rest =>
      simp only []
      rw [h.granted.judge_over (h.queued.waiting r (by rw [head]; exact List.mem_cons_self)) above]

/-- After step 1 the head of the queue cannot be granted (R154). -/
theorem serveQueue_refuses {n : Nat} (enough : a.queue.length ≤ n) {rest : List FlowRequest}
    (head : (a.serveQueue n).queue = r :: rest) : (a.serveQueue n).Refuses r := by
  induction n generalizing a with
  | zero =>
    rw [show a.serveQueue 0 = a from rfl, List.eq_nil_of_length_eq_zero (Nat.le_zero.1 enough)] at head
    exact absurd head nofun
  | succ n ih =>
    unfold Arbiter.serveQueue at head ⊢
    cases queue : a.queue with
    | nil =>
      rw [queue] at head
      exact absurd (queue.symm.trans head) nofun
    | cons q others =>
      rw [queue] at head enough
      simp only [] at head ⊢
      cases given : a.judge q with
      | none =>
        rw [given] at head
        obtain ⟨rfl, _⟩ := List.cons.inj (queue.symm.trans head)
        exact judge_eq_none given
      | some t =>
        rw [given] at head
        exact ih (Nat.le_of_succ_le_succ enough) head

/-! ### Top-ups and cuts -/

theorem Granted.topUp_total (h : a.Granted) (b : Boom) :
    a.total ≤ (a.topUp b).total ∧ (a.topUp b).total ≤ max a.total a.capacity := by
  cases grant : a.grants.get b with
  | none => rw [Arbiter.topUp_none grant]; exact ⟨le_refl _, Nat.le_max_left _ _⟩
  | some g =>
    rw [Arbiter.topUp_eq grant (h.proper b g grant).fits]
    have total := Arbiter.regrant_total grant (g.amount + min (g.demand - g.amount) a.available)
    unfold Arbiter.available at total ⊢
    omega

theorem Granted.cutDown_total (h : a.Granted) (b : Boom) :
    (a.cutDown b).total ≤ a.total ∧ min a.total a.capacity ≤ (a.cutDown b).total := by
  cases grant : a.grants.get b with
  | none => rw [Arbiter.cutDown_none grant]; exact ⟨le_refl _, Nat.min_le_left _ _⟩
  | some g =>
    rw [Arbiter.cutDown_eq grant (h.proper b g grant).fits]
    have total := Arbiter.regrant_total grant (g.amount - min (a.total - a.capacity) (g.amount - g.minimum))
    omega

theorem Granted.topUps_total (l : List Boom) (h : a.Granted) :
    a.total ≤ (l.foldl Arbiter.topUp a).total ∧ (l.foldl Arbiter.topUp a).total ≤ max a.total a.capacity := by
  induction l generalizing a with
  | nil => exact ⟨le_refl _, Nat.le_max_left _ _⟩
  | cons b rest ih =>
    have first := h.topUp_total b
    have tuned := h.topUp b
    have later := ih (tuned.granted h)
    rw [tuned.capacity] at later
    rw [List.foldl_cons]
    omega

theorem Granted.cutDowns_total (l : List Boom) (h : a.Granted) :
    (l.foldl Arbiter.cutDown a).total ≤ a.total ∧ min a.total a.capacity ≤ (l.foldl Arbiter.cutDown a).total := by
  induction l generalizing a with
  | nil => exact ⟨le_refl _, Nat.min_le_left _ _⟩
  | cons b rest ih =>
    have first := h.cutDown_total b
    have tuned := h.cutDown b
    have later := ih (tuned.granted h)
    rw [tuned.capacity] at later
    rw [List.foldl_cons]
    omega

/-- The boom has no flow above its minimum. -/
def AtMinimum (a : Arbiter) (b : Boom) : Prop := ∀ g, a.grants.get b = some g → g.amount = g.minimum

theorem Granted.cutDown_atMinimum (h : a.Granted) (b : Boom) :
    (a.cutDown b).total ≤ a.capacity ∨ (a.cutDown b).AtMinimum b := by
  cases grant : a.grants.get b with
  | none =>
    rw [Arbiter.cutDown_none grant]
    exact .inr fun g hg => absurd (grant.symm.trans hg) nofun
  | some g =>
    have fits := (h.proper b g grant).fits
    have least := fits.least
    rw [Arbiter.cutDown_eq grant fits]
    have total := Arbiter.regrant_total grant (g.amount - min (a.total - a.capacity) (g.amount - g.minimum))
    rcases Nat.le_total (a.total - a.capacity) (g.amount - g.minimum) with le | le
    · refine .inl ?_
      omega
    · refine .inr fun f hf => ?_
      rw [Arbiter.regrant_get] at hf
      rw [← Option.some.inj hf]
      show g.amount - min _ _ = g.minimum
      omega

theorem Granted.cutDown_keepsMinimum (h : a.Granted) (b c : Boom) (low : a.AtMinimum c) : (a.cutDown b).AtMinimum c := by
  cases grant : a.grants.get b with
  | none => rw [Arbiter.cutDown_none grant]; exact low
  | some g =>
    have fits := (h.proper b g grant).fits
    rw [Arbiter.cutDown_eq grant fits]
    intro f hf
    unfold Arbiter.regrant at hf
    rw [Pair.get_set] at hf
    split at hf
    · rename_i own
      have equal := low g (own ▸ grant)
      rw [← Option.some.inj hf]
      show g.amount - min _ _ = g.minimum
      omega
    · exact low f hf

theorem Granted.cutDowns_keepMinimum (l : List Boom) (c : Boom) (h : a.Granted) (low : a.AtMinimum c) :
    (l.foldl Arbiter.cutDown a).AtMinimum c := by
  induction l generalizing a with
  | nil => exact low
  | cons b rest ih => exact ih ((h.cutDown b).granted h) (h.cutDown_keepsMinimum b c low)

/-- After the cuts the grants are within the capacity, or every boom that was cut is at its minimum (R154 step 3). -/
theorem Granted.cutDowns_atMinimum (l : List Boom) (h : a.Granted) :
    (l.foldl Arbiter.cutDown a).total ≤ a.capacity ∨ ∀ b ∈ l, (l.foldl Arbiter.cutDown a).AtMinimum b := by
  induction l generalizing a with
  | nil => exact .inr fun _ => nofun
  | cons b rest ih =>
    have tuned := h.cutDown b
    have granted := tuned.granted h
    have capacity := tuned.capacity
    have later := granted.cutDowns_total rest
    rw [List.foldl_cons]
    rcases ih granted with within | low
    · exact .inl (capacity ▸ within)
    · rcases h.cutDown_atMinimum b with within | own
      · exact .inl (later.1.trans within)
      · refine .inr fun c hc => ?_
        rcases List.mem_cons.1 hc with rfl | hc
        · exact Granted.cutDowns_keepMinimum rest c granted own
        · exact low c hc

end Arbiter
end Sys2Proof.Machine

/-! PROOFS. The service pass, a release and a request whole: the arbiter stays in agreement and within its capacity, and no
flow is left that the pass could give (R151 to R155). -/

namespace Sys2Proof.Machine
namespace Arbiter

variable {a t u : Arbiter} {b : Boom} {r : FlowRequest}

/-! ### Sums -/

theorem flowAmount_le {g : Option FlowGrant}
    (low : ∀ x, g = some x → x.stage = .drilling → x.amount = x.minimum) :
    flowAmount g ≤ fixedAmount g + drillingMinimum g := by
  cases g with
  | none => exact le_refl 0
  | some x =>
    simp only [flowAmount, fixedAmount, drillingMinimum]
    split
    · rename_i drilling
      rw [low x rfl drilling]
      omega
    · omega

/-- With every DRILLING grant at its minimum the grants come to no more than the floor (R155). -/
theorem total_le_floor (low : ∀ b, a.stageOf b = some .drilling → a.AtMinimum b) : a.total ≤ a.floor := by
  have bound : ∀ b, flowAmount (a.grants.get b) ≤ fixedAmount (a.grants.get b) + drillingMinimum (a.grants.get b) :=
    fun b => flowAmount_le fun x hx drilling => low b (Arbiter.stageOf_eq_some.2 ⟨x, hx, drilling⟩) x hx
  rw [Arbiter.total_eq a .A, Arbiter.floor_eq a .A, Arbiter.fixedSum_eq a .A]
  have first := bound .A
  have second := bound Boom.A.other
  omega

theorem Granted.fixedAmount_le (h : a.Granted) (b : Boom) :
    fixedAmount (a.grants.get b) ≤ 50 ∧ fixedAmount (a.grants.get b) ≤ flowAmount (a.grants.get b) := by
  cases grant : a.grants.get b with
  | none => exact ⟨by decide, by decide⟩
  | some g =>
    simp only [fixedAmount, flowAmount]
    split
    · exact ⟨by decide, Nat.zero_le _⟩
    · rename_i fixed
      obtain ⟨whole, _, limit⟩ := (h.proper b g grant).whole fixed
      exact ⟨by omega, le_refl _⟩

/-- The effective capacity is never above 100 (R149). -/
theorem Granted.capacity_le (h : a.Granted) : a.capacity ≤ 100 := by
  have first := h.fixedAmount_le .A
  have second := h.fixedAmount_le Boom.A.other
  have derate := h.derate.2
  unfold Arbiter.capacity
  rw [Arbiter.fixedSum_eq a .A]
  omega

/-! ### The service pass -/

theorem Sound.topUps (l : List Boom) (h : a.Sound) : a.Kept (l.foldl Arbiter.topUp a) := by
  have tuned := Granted.fold (fun b k => k.topUp b) l h.granted
  refine tuned.kept h fun within => ?_
  have total := h.granted.topUps_total l
  rw [tuned.capacity]
  omega

theorem Sound.cutDowns (l : List Boom) (h : a.Sound) : a.Kept (l.foldl Arbiter.cutDown a) := by
  have tuned := Granted.fold (fun b k => k.cutDown b) l h.granted
  refine tuned.kept h fun within => ?_
  have total := h.granted.cutDowns_total l
  rw [tuned.capacity]
  omega

/-- The service pass keeps the agreement, and what each boom holds (R154). -/
theorem Sound.service (h : a.Sound) : a.Kept a.service := by
  have served := h.serveQueue a.queue.length
  have raised := served.sound.topUps (a.serveQueue a.queue.length).order
  exact served.trans (raised.trans (raised.sound.cutDowns _))

/-- Above the capacity, the cuts of the service pass come down to it, where the floor lets them (R154 step 3). -/
theorem Sound.service_within (h : a.Sound) (floor : a.capacity < a.total → a.floor ≤ a.derate) :
    a.service.total ≤ a.service.capacity := by
  rcases Nat.lt_or_ge a.capacity a.total with above | within
  · have raise := Granted.fold (fun b k => k.topUp b) a.order h.granted
    have cut := Granted.fold (fun b k => k.cutDown b) (a.order.foldl Arbiter.topUp a).order.reverse
      (raise.granted h.granted)
    have bottom := (raise.granted h.granted).cutDowns_atMinimum (a.order.foldl Arbiter.topUp a).order.reverse
    unfold Arbiter.service
    simp only [h.serveQueue_over a.queue.length above]
    rw [cut.capacity]
    rcases bottom with done | low
    · exact done
    · refine le_trans (total_le_floor fun b drilling => low b ?_) ?_
      · rw [List.mem_reverse, (raise.granted h.granted).order, raise.stageOf]
        rw [cut.stageOf, raise.stageOf] at drilling
        exact drilling
      · rw [cut.floor, raise.floor, raise.capacity]
        exact (floor above).trans (Nat.le_max_left _ _)
  · exact h.service.within within

/-! ### What the service pass leaves -/

/-- No flow is left with which a degraded grant of the boom could be raised. -/
def Filled (a : Arbiter) (b : Boom) : Prop := ∀ g, a.grants.get b = some g → g.degraded = true → a.available = 0

theorem Granted.topUp_available (h : a.Granted) (b : Boom) : (a.topUp b).available ≤ a.available := by
  have total := (h.topUp_total b).1
  have capacity := (h.topUp b).capacity
  unfold Arbiter.available
  omega

theorem Granted.topUp_fills (h : a.Granted) (b : Boom) : (a.topUp b).Filled b := by
  intro f hf degraded
  cases grant : a.grants.get b with
  | none =>
    rw [Arbiter.topUp_none grant, grant] at hf
    exact absurd hf nofun
  | some g =>
    have fits := (h.proper b g grant).fits
    have most := fits.most
    have total := Arbiter.regrant_total grant (g.amount + min (g.demand - g.amount) a.available)
    have capacity := (h.topUp b).capacity
    rw [Arbiter.topUp_eq grant fits] at capacity hf ⊢
    rw [Arbiter.regrant_get] at hf
    rw [← Option.some.inj hf] at degraded
    have short : g.amount + min (g.demand - g.amount) a.available < g.demand := of_decide_eq_true degraded
    unfold Arbiter.available at *
    omega

theorem Granted.topUp_keepsFilled (h : a.Granted) (b c : Boom) (k : a.Filled c) : (a.topUp b).Filled c := by
  have less := h.topUp_available b
  intro f hf degraded
  by_cases own : c = b
  · subst own
    exact h.topUp_fills c f hf degraded
  · have same : (a.topUp b).grants.get c = a.grants.get c := by
      unfold Arbiter.topUp
      split
      · split
        · unfold Arbiter.regrant
          rw [Pair.get_set, if_neg own]
        · rfl
      · rfl
    have none := k f (same ▸ hf) degraded
    omega

theorem Granted.topUps_fill (l : List Boom) (h : a.Granted) (c : Boom) (k : c ∈ l ∨ a.Filled c) :
    (l.foldl Arbiter.topUp a).Filled c := by
  induction l generalizing a with
  | nil => exact k.resolve_left nofun
  | cons b rest ih =>
    have tuned := h.topUp b
    refine ih (tuned.granted h) ?_
    rcases k with mem | filled
    · rcases List.mem_cons.1 mem with rfl | later
      · exact .inr (h.topUp_fills c)
      · exact .inl later
    · exact .inr (h.topUp_keepsFilled b c filled)

/-- Within the capacity there is nothing to cut; above it the cuts do not come below it. -/
theorem Granted.cutDowns_available (l : List Boom) (h : a.Granted) :
    (l.foldl Arbiter.cutDown a).available = a.available := by
  have total := h.cutDowns_total l
  have capacity := (Granted.fold (fun b k => k.cutDown b) l h).capacity
  unfold Arbiter.available
  omega

theorem cutDown_within (within : a.total ≤ a.capacity) (b : Boom) : a.cutDown b = a := by
  unfold Arbiter.cutDown
  split
  · rw [Nat.sub_eq_zero_of_le within, Nat.zero_min]
    exact if_neg (Nat.lt_irrefl 0)
  · rfl

theorem cutDowns_within (within : a.total ≤ a.capacity) (l : List Boom) : l.foldl Arbiter.cutDown a = a := by
  induction l with
  | nil => rfl
  | cons b rest ih => rw [List.foldl_cons, cutDown_within within, ih]

/-- After the service pass no degraded grant has flow left to raise it (R154 step 2). -/
theorem Sound.service_filled (h : a.Sound) (b : Boom) : a.service.Filled b := by
  have served := (h.serveQueue a.queue.length).sound
  have raise := Granted.fold (fun b k => k.topUp b) (a.serveQueue a.queue.length).order served.granted
  have granted := raise.granted served.granted
  intro g hg degraded
  have kept := (Granted.fold (fun b k => k.cutDown b)
    ((a.serveQueue a.queue.length).order.foldl Arbiter.topUp (a.serveQueue a.queue.length)).order.reverse granted)
  refine (Granted.cutDowns_available _ granted).trans ?_
  rcases Nat.lt_or_ge ((a.serveQueue a.queue.length).order.foldl Arbiter.topUp (a.serveQueue a.queue.length)).capacity
    ((a.serveQueue a.queue.length).order.foldl Arbiter.topUp (a.serveQueue a.queue.length)).total with above | within
  · exact Nat.sub_eq_zero_of_le above.le
  · have unchanged := cutDowns_within within
      ((a.serveQueue a.queue.length).order.foldl Arbiter.topUp (a.serveQueue a.queue.length)).order.reverse
    have drilling : g.stage = .drilling := by
      by_contra fixed
      have proper := (kept.granted granted).proper b g hg
      rw [proper.fits.degraded, (proper.whole fixed).1, decide_eq_true_iff] at degraded
      exact Nat.lt_irrefl _ degraded
    refine served.granted.topUps_fill _ b (.inl ?_) g ?_ degraded
    · rw [served.granted.order, ← raise.stageOf, ← kept.stageOf]
      exact Arbiter.stageOf_eq_some.2 ⟨g, hg, drilling⟩
    · rw [← unchanged]
      exact hg

theorem Granted.topUp_refuses (h : a.Granted) (b : Boom) (k : a.Refuses r) : (a.topUp b).Refuses r := by
  have less := h.topUp_available b
  refine ⟨less.trans_lt k.demand, fun drilling => less.trans_lt (k.minimum drilling), fun f fixed hf drilling => ?_⟩
  cases grant : a.grants.get b with
  | none =>
    rw [Arbiter.topUp_none grant] at hf ⊢
    exact k.cut f fixed hf drilling
  | some g =>
    have fits := (h.proper b g grant).fits
    have total := Arbiter.regrant_total grant (g.amount + min (g.demand - g.amount) a.available)
    have capacity := (h.topUp b).capacity
    have short := k.demand
    rw [Arbiter.topUp_eq grant fits] at capacity hf less ⊢
    unfold Arbiter.regrant at hf
    rw [Pair.get_set] at hf
    split at hf
    · rename_i own
      rw [← Option.some.inj hf] at drilling ⊢
      have room := k.cut g fixed (own ▸ grant) drilling
      show g.amount + min (g.demand - g.amount) a.available - g.minimum < _
      unfold Arbiter.available at *
      omega
    · have room := k.cut f fixed hf drilling
      omega

theorem Granted.topUps_refuse (l : List Boom) (h : a.Granted) (k : a.Refuses r) : (l.foldl Arbiter.topUp a).Refuses r := by
  induction l generalizing a with
  | nil => exact k
  | cons b rest ih => exact ih ((h.topUp b).granted h) (h.topUp_refuses b k)

/-- A grant after the cuts was a grant before them, of no less. -/
theorem Granted.cutDowns_amount (l : List Boom) (h : a.Granted) (b : Boom) {f : FlowGrant}
    (hf : (l.foldl Arbiter.cutDown a).grants.get b = some f) :
    ∃ g, a.grants.get b = some g ∧ f.stage = g.stage ∧ f.minimum = g.minimum ∧ f.amount ≤ g.amount := by
  induction l generalizing a with
  | nil => exact ⟨f, hf, rfl, rfl, le_refl _⟩
  | cons c rest ih =>
    obtain ⟨e, he, stage, minimum, amount⟩ := ih ((h.cutDown c).granted h) hf
    cases grant : a.grants.get c with
    | none =>
      rw [Arbiter.cutDown_none grant] at he
      exact ⟨e, he, stage, minimum, amount⟩
    | some g =>
      rw [Arbiter.cutDown_eq grant (h.proper c g grant).fits] at he
      unfold Arbiter.regrant at he
      rw [Pair.get_set] at he
      split at he
      · rename_i own
        rw [← Option.some.inj he] at stage minimum amount
        exact ⟨g, own ▸ grant, stage, minimum, amount.trans (Nat.sub_le _ _)⟩
      · exact ⟨e, he, stage, minimum, amount⟩

/-- After the service pass the head of the queue cannot be granted (R154 step 1). -/
theorem Sound.service_refuses (h : a.Sound) {rest : List FlowRequest} (head : a.service.queue = r :: rest) :
    a.service.Refuses r := by
  have served := (h.serveQueue a.queue.length).sound
  have raise := Granted.fold (fun b k => k.topUp b) (a.serveQueue a.queue.length).order served.granted
  have granted := raise.granted served.granted
  have cut := Granted.fold (fun b k => k.cutDown b)
    ((a.serveQueue a.queue.length).order.foldl Arbiter.topUp (a.serveQueue a.queue.length)).order.reverse granted
  have refused := served.granted.topUps_refuse (a.serveQueue a.queue.length).order
    (serveQueue_refuses (le_refl a.queue.length) ((cut.queue.trans raise.queue).symm.trans head))
  have available : a.service.available = _ := Granted.cutDowns_available _ granted
  refine ⟨by rw [available]; exact refused.demand, by rw [available]; exact refused.minimum, fun f fixed hf drilling => ?_⟩
  obtain ⟨g, hg, stage, minimum, amount⟩ := granted.cutDowns_amount _ _ hf
  have room := refused.cut g fixed hg (stage ▸ drilling)
  rw [available]
  omega

/-! ### Releases and requests -/

theorem withoutGrant_get (a : Arbiter) (b c : Boom) :
    (a.withoutGrant b).grants.get c = if c = b then none else a.grants.get c := Pair.get_set _ _ _ _

theorem withoutGrant_stageOf (a : Arbiter) (b c : Boom) :
    (a.withoutGrant b).stageOf c = if c = b then none else a.stageOf c := by
  unfold Arbiter.stageOf
  rw [withoutGrant_get]
  split <;> rfl

theorem Sound.withoutGrant (h : a.Sound) (b : Boom) : (a.withoutGrant b).Sound where
  granted :=
    { proper := fun c g hg => by
        rw [withoutGrant_get] at hg
        split at hg
        · exact absurd hg nofun
        · exact h.granted.proper c g hg
      order := fun c => by
        rw [withoutGrant_stageOf]
        show c ∈ a.order.filter _ ↔ _
        rw [List.mem_filter, bne_iff_ne, h.granted.order]
        split
        · rename_i own
          exact ⟨fun k => absurd own k.2, nofun⟩
        · rename_i other
          exact and_iff_left other
      orderOnce := h.granted.orderOnce.filter _
      derate := h.granted.derate }
  queued :=
    { waiting := h.queued.waiting
      once := h.queued.once
      apart := fun r hr => by
        rw [withoutGrant_stageOf]
        split
        · rfl
        · exact h.queued.apart r hr }

theorem Granted.amount_pos (h : a.Granted) {g : FlowGrant} (grant : a.grants.get b = some g) : 0 < g.amount := by
  have proper := h.proper b g grant
  have least := proper.fits.least
  have positive := (ofStage_minimum_le b g.stage).2
  rw [← proper.minimum] at positive
  omega

theorem Sound.withoutGrant_within (h : a.Sound) (b : Boom) (within : a.total ≤ a.capacity) :
    (a.withoutGrant b).total ≤ (a.withoutGrant b).capacity := by
  have own := h.granted.fixedAmount_le b
  unfold Arbiter.capacity at *
  rw [Arbiter.total_eq _ b, Arbiter.fixedSum_eq _ b] at *
  rw [withoutGrant_get, withoutGrant_get, if_pos rfl, if_neg (Boom.other_ne b)]
  cases grant : a.grants.get b.other with
  | none => exact Nat.zero_le _
  | some g =>
    have positive := h.granted.amount_pos grant
    rw [grant] at within
    show 0 + g.amount ≤ max a.derate (0 + fixedAmount (some g))
    have amount : flowAmount (some g) = g.amount := rfl
    by_cases drilling : g.stage = .drilling
    · have none : fixedAmount (some g) = 0 := if_pos drilling
      omega
    · have whole : fixedAmount (some g) = g.amount := if_neg drilling
      omega

theorem withoutGrant_holds (h : a.Sound) {g : FlowGrant} (grant : a.grants.get b = some g) (c : Boom) (x : FlowStage) :
    (a.withoutGrant b).Holds c x ↔ a.Holds c x ∧ c ≠ b := by
  unfold Arbiter.Holds
  rw [withoutGrant_stageOf]
  show _ ∨ (∃ r ∈ a.queue, _) ↔ _
  split
  · rename_i own
    refine ⟨fun k => ?_, fun k => absurd own k.2⟩
    obtain ⟨r, hr, boom, _⟩ := k.resolve_left nofun
    have none := h.queued.apart r hr
    rw [boom, own, Arbiter.stageOf_eq_none, grant] at none
    exact absurd none nofun
  · rename_i other
    exact (and_iff_left other).symm

theorem withoutPlace_holds (free : a.grants.get b = none) (c : Boom) (x : FlowStage) :
    (a.withoutPlace b).Holds c x ↔ a.Holds c x ∧ c ≠ b := by
  unfold Arbiter.Holds Arbiter.withoutPlace
  show a.stageOf c = some x ∨ _ ↔ _
  simp only [List.mem_filter, bne_iff_ne]
  constructor
  · rintro (stage | ⟨r, ⟨hr, other⟩, boom, stage⟩)
    · refine ⟨.inl stage, fun own => ?_⟩
      rw [own, Arbiter.stageOf_eq_none.2 free] at stage
      exact absurd stage nofun
    · exact ⟨.inr ⟨r, hr, boom, stage⟩, boom ▸ other⟩
  · rintro ⟨stage | ⟨r, hr, boom, stage⟩, other⟩
    · exact .inl stage
    · exact .inr ⟨r, ⟨hr, boom ▸ other⟩, boom, stage⟩

theorem Sound.withoutPlace (h : a.Sound) (b : Boom) : (a.withoutPlace b).Sound where
  granted := ⟨h.granted.proper, h.granted.order, h.granted.orderOnce, h.granted.derate⟩
  queued :=
    { waiting := fun r hr => h.queued.waiting r (List.mem_of_mem_filter hr)
      once := h.queued.once.sublist (List.filter_sublist.map _)
      apart := fun r hr => h.queued.apart r (List.mem_of_mem_filter hr) }

/-- What a release leaves: the boom holds nothing, and the other holds what it held (R153). -/
structure Releases (a : Arbiter) (b : Boom) (t : Arbiter) : Prop where
  sound : t.Sound
  within : a.total ≤ a.capacity → t.total ≤ t.capacity
  holds : ∀ c x, t.Holds c x ↔ a.Holds c x ∧ c ≠ b

theorem Sound.release (h : a.Sound) (b : Boom) : a.Releases b (a.release b) := by
  unfold Arbiter.release
  cases grant : a.grants.get b with
  | some g =>
    have kept := (h.withoutGrant b).service
    exact ⟨kept.sound, fun within => kept.within (h.withoutGrant_within b within), fun c x =>
      (kept.holds c x).trans (withoutGrant_holds h grant c x)⟩
  | none =>
    simp only []
    split
    · have kept := (h.withoutPlace b).service
      exact ⟨kept.sound, kept.within, fun c x => (kept.holds c x).trans (withoutPlace_holds grant c x)⟩
    · rename_i away
      refine ⟨h, id, fun c x => ⟨fun k => ⟨k, fun own => ?_⟩, And.left⟩⟩
      rcases k with stage | ⟨r, hr, boom, _⟩
      · rw [own, Arbiter.stageOf_eq_none.2 grant] at stage
        exact absurd stage nofun
      · exact away (List.any_eq_true.2 ⟨r, hr, beq_iff_eq.2 (boom.trans own)⟩)

/-- What a request of a boom that holds nothing leaves: it holds the stage, granted or waiting (R151). -/
structure Requests (a : Arbiter) (r : FlowRequest) (t : Arbiter) : Prop where
  sound : t.Sound
  within : a.total ≤ a.capacity → t.total ≤ t.capacity
  holds : ∀ c x, t.Holds c x ↔ a.Holds c x ∨ c = r.boom ∧ x = r.stage

theorem Gives.requests (k : a.Gives r t) (empty : a.queue = []) (free : a.stageOf r.boom = none) : a.Requests r t where
  sound := by
    refine ⟨k.granted, ?_, ?_, ?_⟩ <;> rw [k.queue, empty]
    · exact fun _ => nofun
    · exact List.nodup_nil
    · exact fun _ => nofun
  within := k.within
  holds c x := by
    unfold Arbiter.Holds
    rw [k.stageOf, k.queue, empty]
    simp only [List.not_mem_nil, false_and, exists_false, or_false]
    split
    · rename_i own
      rw [own, free]
      exact ⟨fun same => .inr ⟨rfl, (Option.some.inj same).symm⟩, fun same => congrArg some (same.resolve_left nofun).2.symm⟩
    · rename_i other
      exact (or_iff_left fun same => other same.1).symm

theorem Sound.queue (h : a.Sound) (proper : r = FlowRequest.ofStage r.boom r.stage)
    (free : ∀ x, ¬ a.Holds r.boom x) : a.Requests r { a with queue := a.queue ++ [r] } where
  sound :=
    { granted := ⟨h.granted.proper, h.granted.order, h.granted.orderOnce, h.granted.derate⟩
      queued :=
        { waiting := fun q hq => (List.mem_append.1 hq).elim (h.queued.waiting q) fun last =>
            List.mem_singleton.1 last ▸ proper
          once := by
            rw [List.map_append, List.nodup_append]
            refine ⟨h.queued.once, List.nodup_singleton _, fun c hc d hd same => ?_⟩
            obtain ⟨q, hq, boom⟩ := List.mem_map.1 hc
            exact free q.stage (.inr ⟨q, hq, (boom.trans same).trans (List.mem_singleton.1 hd), rfl⟩)
          apart := fun q hq => (List.mem_append.1 hq).elim (h.queued.apart q) fun last => by
            rw [List.mem_singleton.1 last]
            exact Option.eq_none_iff_forall_not_mem.2 fun x hx => free x (.inl hx) } }
  within := id
  holds c x := by
    unfold Arbiter.Holds
    show a.stageOf c = some x ∨ (∃ q ∈ a.queue ++ [r], _) ↔ _
    simp only [List.mem_append, List.mem_singleton, or_and_right, exists_or, exists_eq_left, or_assoc]
    rw [eq_comm (a := r.boom), eq_comm (a := r.stage)]

theorem Sound.request (h : a.Sound) (proper : r = FlowRequest.ofStage r.boom r.stage)
    (free : ∀ x, ¬ a.Holds r.boom x) : a.Requests r (a.request r) := by
  have none : a.stageOf r.boom = none := Option.eq_none_iff_forall_not_mem.2 fun x hx => free x (.inl hx)
  have queued := h.queue proper free
  unfold Arbiter.request
  cases queue : a.queue with
  | cons =>
    rw [queue] at queued
    exact queued
  | nil =>
    cases given : a.judge r with
    | some t => exact (h.granted.judge proper none given).requests queue none
    | none =>
      rw [queue] at queued
      exact queued

end Arbiter
end Sys2Proof.Machine

/-! PROOFS. Flow and loader in agreement with the stages, operation by operation: what a boom that holds nothing may do, and
what a release, a cancellation, a request and a grant leave. -/

namespace Sys2Proof.Machine

/-! ### Agreement boom by boom -/

/-- What boom `b` holds of the flow and the loader belongs to its cycle state. -/
structure State.BoomAgrees (s : State) (b : Boom) : Prop where
  flow : ∀ x, s.arbiter.Holds b x → (s.unit b).cycle = x.cycle ∧ (s.unit b).dry = false
  resin : b ∈ s.loader.queue → (s.unit b).cycle = .awaitResin
  loading : ∀ g, s.loader.grant = some g → g.cancelled = false → g.boom = b → (s.unit b).cycle = .loading

/-- Boom `b` holds nothing of the flow. -/
def State.FlowFree (s : State) (b : Boom) : Prop := ∀ x, ¬ s.arbiter.Holds b x

/-- Boom `b` has no place and no live grant at the loader. -/
structure State.LoaderFree (s : State) (b : Boom) : Prop where
  queue : b ∉ s.loader.queue
  grant : ∀ g, s.loader.grant = some g → g.cancelled = false → g.boom ≠ b

/-- The arbiter and the loader's queue are in agreement with themselves. -/
structure State.CoreAgrees (s : State) : Prop where
  arbiter : s.arbiter.Sound
  within : s.arbiter.total ≤ s.arbiter.capacity
  resinOnce : s.loader.queue.Nodup

/-- The agreement but for what boom `b` holds. -/
structure State.AgreesBeside (s : State) (b : Boom) : Prop where
  core : s.CoreAgrees
  other : s.BoomAgrees b.other

theorem State.AgreesBeside.boom {s : State} {b c : Boom} (h : s.AgreesBeside b) (k : c ≠ b) : s.BoomAgrees c := by
  rcases Boom.eq_or_eq_other b c with rfl | rfl
  · exact absurd rfl k
  · exact h.other

theorem State.stagesAgree_iff (s : State) : s.StagesAgree ↔ s.CoreAgrees ∧ ∀ b, s.BoomAgrees b := by
  constructor
  · intro h
    refine ⟨⟨⟨⟨fun b g hg => ?_, fun b => ?_, h.orderOnce, h.derate⟩, fun r hr => (h.waiting r hr).1, h.queueOnce,
      fun r hr => ?_⟩, h.sum, h.resinOnce⟩, fun b => ⟨fun x hx => ?_, h.resin b, fun g hg k own => own ▸ h.loading g hg k⟩⟩
    · obtain ⟨_, _, _, demand, minimum, least, most, degraded⟩ := h.grant b g hg
      exact ⟨demand, minimum, least, most, degraded⟩
    · exact (h.order b).trans Arbiter.stageOf_eq_some.symm
    · refine Arbiter.stageOf_eq_none.2 (Option.eq_none_iff_forall_not_mem.2 fun g hg => ?_)
      exact (h.grant r.boom g hg).2.2.1 r hr rfl
    · rcases hx with granted | ⟨r, hr, boom, stage⟩
      · obtain ⟨g, hg, rfl⟩ := Arbiter.stageOf_eq_some.1 granted
        obtain ⟨cycle, dry, _⟩ := h.grant b g hg
        exact ⟨cycle, dry⟩
      · obtain ⟨_, cycle, dry⟩ := h.waiting r hr
        rw [← boom, ← stage]
        exact ⟨cycle, dry⟩
  · rintro ⟨core, boom⟩
    have granted := core.arbiter.granted
    have queued := core.arbiter.queued
    refine ⟨fun b g hg => ?_, fun r hr => ?_, queued.once, fun b => (granted.order b).trans Arbiter.stageOf_eq_some,
      granted.orderOnce, granted.derate, core.within, fun b hb => (boom b).resin hb, core.resinOnce,
      fun g hg k => (boom g.boom).loading g hg k rfl⟩
    · have stage : s.arbiter.stageOf b = some g.stage := Arbiter.stageOf_eq_some.2 ⟨g, hg, rfl⟩
      obtain ⟨cycle, dry⟩ := (boom b).flow g.stage (.inl stage)
      obtain ⟨demand, minimum, least, most, degraded⟩ := granted.proper b g hg
      refine ⟨cycle, dry, fun r hr own => ?_, demand, minimum, least, most, degraded⟩
      have none := queued.apart r hr
      rw [own, stage] at none
      exact absurd none nofun
    · exact ⟨queued.waiting r hr, (boom r.boom).flow r.stage (.inr ⟨r, hr, rfl, rfl⟩)⟩

theorem State.StagesAgree.beside {s : State} (h : s.StagesAgree) (b : Boom) : s.AgreesBeside b :=
  ⟨((State.stagesAgree_iff s).1 h).1, ((State.stagesAgree_iff s).1 h).2 _⟩

theorem State.StagesAgree.boom {s : State} (h : s.StagesAgree) (b : Boom) : s.BoomAgrees b :=
  ((State.stagesAgree_iff s).1 h).2 b

theorem State.AgreesBeside.with {s : State} {b : Boom} (h : s.AgreesBeside b) (k : s.BoomAgrees b) : s.StagesAgree := by
  refine (State.stagesAgree_iff s).2 ⟨h.core, fun c => ?_⟩
  rcases Boom.eq_or_eq_other b c with rfl | rfl
  · exact k
  · exact h.other

theorem State.BoomAgrees.ofFree {s : State} {b : Boom} (h : s.FlowFree b) (k : s.LoaderFree b) : s.BoomAgrees b :=
  ⟨fun x hx => absurd hx (h x), fun hb => absurd hb k.queue, fun g hg live own => absurd own (k.grant g hg live)⟩

theorem State.AgreesBeside.withFree {s : State} {b : Boom} (h : s.AgreesBeside b) (flow : s.FlowFree b)
    (loader : s.LoaderFree b) : s.StagesAgree := h.with (.ofFree flow loader)

/-- A boom outside the stages that have flow holds none. -/
theorem State.BoomAgrees.flowFree {s : State} {b : Boom} (h : s.BoomAgrees b) (k : ∀ x : FlowStage, (s.unit b).cycle ≠ x.cycle) :
    s.FlowFree b := fun x hx => k x (h.flow x hx).1

/-- A boom that neither waits for the loader nor has it holds nothing of it. -/
theorem State.BoomAgrees.loaderFree {s : State} {b : Boom} (h : s.BoomAgrees b) (await : (s.unit b).cycle ≠ .awaitResin)
    (loading : (s.unit b).cycle ≠ .loading) : s.LoaderFree b :=
  ⟨fun hb => await (h.resin hb), fun g hg live own => loading (h.loading g hg live own)⟩

/-- A boom in the cycle state is in no stage that has flow. -/
def CycleState.Flowless (c : CycleState) : Prop := ∀ x : FlowStage, c ≠ x.cycle

/-- A boom in the cycle state has nothing of the flow or the loader. -/
def CycleState.Bare (c : CycleState) : Prop := c.Flowless ∧ c ≠ .awaitResin ∧ c ≠ .loading

theorem CycleState.Flowless.ofNe {c : CycleState} (drilling : c ≠ .drilling) (spinning : c ≠ .spinning)
    (torquing : c ≠ .torquing) : c.Flowless := fun x => by cases x <;> assumption

theorem CycleState.Bare.ofNe {c : CycleState} (drilling : c ≠ .drilling) (spinning : c ≠ .spinning)
    (torquing : c ≠ .torquing) (await : c ≠ .awaitResin) (loading : c ≠ .loading) : c.Bare :=
  ⟨.ofNe drilling spinning torquing, await, loading⟩

theorem State.StagesAgree.free {s : State} (h : s.StagesAgree) {b : Boom} (k : (s.unit b).cycle.Bare) :
    s.FlowFree b ∧ s.LoaderFree b :=
  ⟨(h.boom b).flowFree k.1, (h.boom b).loaderFree k.2.1 k.2.2⟩

/-! ### Changes beside flow and loader -/

/-- Arbiter, loader queue and loader grant are the same, and the cycle state and DRY flag of every boom but `b`. -/
structure State.StagesBeside (b : Boom) (s t : State) : Prop where
  arbiter : t.arbiter = s.arbiter
  queue : t.loader.queue = s.loader.queue
  grant : t.loader.grant = s.loader.grant
  unit : (t.unit b.other).cycle = (s.unit b.other).cycle ∧ (t.unit b.other).dry = (s.unit b.other).dry

/-- Arbiter, loader queue and loader grant, and every boom's cycle state and DRY flag are the same. -/
structure State.SameStages (s t : State) : Prop where
  arbiter : t.arbiter = s.arbiter
  queue : t.loader.queue = s.loader.queue
  grant : t.loader.grant = s.loader.grant
  unit : ∀ b, (t.unit b).cycle = (s.unit b).cycle ∧ (t.unit b).dry = (s.unit b).dry

theorem State.SameStages.refl (s : State) : s.SameStages s := ⟨rfl, rfl, rfl, fun _ => ⟨rfl, rfl⟩⟩

theorem State.SameStages.trans {s t u : State} (h : s.SameStages t) (k : t.SameStages u) : s.SameStages u :=
  ⟨k.arbiter.trans h.arbiter, k.queue.trans h.queue, k.grant.trans h.grant, fun b =>
    ⟨(k.unit b).1.trans (h.unit b).1, (k.unit b).2.trans (h.unit b).2⟩⟩

theorem State.SameStages.of {s t : State} (arbiter : t.arbiter = s.arbiter) (loader : t.loader = s.loader)
    (units : t.units = s.units) : s.SameStages t :=
  ⟨arbiter, by rw [loader], by rw [loader], fun b => by unfold State.unit; rw [units]; exact ⟨rfl, rfl⟩⟩

theorem State.SameStages.beside {s t : State} (h : s.SameStages t) (b : Boom) : State.StagesBeside b s t :=
  ⟨h.arbiter, h.queue, h.grant, h.unit _⟩

theorem State.StagesBeside.trans {b : Boom} {s t u : State} (h : State.StagesBeside b s t) (k : State.StagesBeside b t u) :
    State.StagesBeside b s u :=
  ⟨k.arbiter.trans h.arbiter, k.queue.trans h.queue, k.grant.trans h.grant,
    ⟨k.unit.1.trans h.unit.1, k.unit.2.trans h.unit.2⟩⟩

theorem State.BoomAgrees.congr {s t : State} {b : Boom} (h : s.BoomAgrees b) (arbiter : t.arbiter = s.arbiter)
    (queue : t.loader.queue = s.loader.queue) (grant : t.loader.grant = s.loader.grant)
    (unit : (t.unit b).cycle = (s.unit b).cycle ∧ (t.unit b).dry = (s.unit b).dry) : t.BoomAgrees b := by
  obtain ⟨flow, resin, loading⟩ := h
  constructor <;> simp only [arbiter, queue, grant, unit] <;> assumption

theorem State.AgreesBeside.congr {s t : State} {b : Boom} (h : s.AgreesBeside b) (k : State.StagesBeside b s t) :
    t.AgreesBeside b := by
  obtain ⟨⟨sound, within, once⟩, other⟩ := h
  exact ⟨⟨k.arbiter ▸ sound, k.arbiter ▸ within, k.queue ▸ once⟩, other.congr k.arbiter k.queue k.grant k.unit⟩

theorem State.FlowFree.congr {s t : State} {b : Boom} (h : s.FlowFree b) (k : t.arbiter = s.arbiter) : t.FlowFree b := by
  unfold State.FlowFree
  rw [k]
  exact h

theorem State.LoaderFree.congr {s t : State} {b : Boom} (h : s.LoaderFree b) (queue : t.loader.queue = s.loader.queue)
    (grant : t.loader.grant = s.loader.grant) : t.LoaderFree b :=
  ⟨by rw [queue]; exact h.queue, by rw [grant]; exact h.grant⟩

theorem State.SameStages.stagesAgree {s t : State} (k : s.SameStages t) (h : s.StagesAgree) : t.StagesAgree :=
  ((h.beside .A).congr (k.beside .A)).with ((h.boom .A).congr k.arbiter k.queue k.grant (k.unit .A))

/-- A boom that holds nothing may change its cycle state and its DRY flag. -/
theorem State.StagesAgree.move {s t : State} {b : Boom} (h : s.StagesAgree) (free : s.FlowFree b ∧ s.LoaderFree b)
    (k : State.StagesBeside b s t) : t.StagesAgree :=
  ((h.beside b).congr k).withFree (free.1.congr k.arbiter) (free.2.congr k.queue k.grant)

namespace State.StagesBeside

theorem setCycle (s : State) (b : Boom) (c : CycleState) : StagesBeside b s (s.setCycle b c) :=
  ⟨rfl, rfl, rfl, by cases b <;> exact ⟨rfl, rfl⟩⟩

theorem modUnit (s : State) (b : Boom) (f : BoomUnit → BoomUnit) : StagesBeside b s (s.modUnit b f) :=
  ⟨rfl, rfl, rfl, by cases b <;> exact ⟨rfl, rfl⟩⟩

end State.StagesBeside

namespace State.SameStages

theorem modUnit (s : State) (b : Boom) {f : BoomUnit → BoomUnit} (h : ∀ u, (f u).cycle = u.cycle ∧ (f u).dry = u.dry) :
    s.SameStages (s.modUnit b f) := by
  refine ⟨rfl, rfl, rfl, fun c => ?_⟩
  unfold State.modUnit
  rw [State.unit_setUnit]
  split
  · rename_i own
    rw [own]
    exact h _
  · exact ⟨rfl, rfl⟩

theorem post (s : State) (n : NoticePair) : s.SameStages (s.post n) := .of rfl rfl rfl

theorem setEngine (s : State) (b : Boom) (e : Engine) : s.SameStages (s.setEngine b e) := .of rfl rfl rfl

theorem setLane (s : State) (b : Boom) (l : Lane) : s.SameStages (s.setLane b l) := .of rfl rfl rfl

theorem updateClaimed (s : State) (b : Boom) (f : Entry → Entry) : s.SameStages (s.updateClaimed b f) :=
  .of (by simp) (by simp) (by simp)

theorem updateResult (s : State) (b : Boom) (f : Result → Result) : s.SameStages (s.updateResult b f) :=
  .of (by simp) (by simp) (by simp)

theorem tableVerdict (s : State) (i : Slot) (v : VerdictReason) : s.SameStages (s.tableVerdict i v) :=
  .of (by simp) (by simp) (by simp)

theorem returnEntry (s : State) (i : Slot) : s.SameStages (s.returnEntry i) := .of (by simp) (by simp) (by simp)

theorem writeDrilledDepth (s : State) (b : Boom) : s.SameStages (s.writeDrilledDepth b) := .updateResult s b _

theorem noteDepth (s : State) (b : Boom) (e : Entry) : s.SameStages (s.noteDepth b e) := by
  unfold State.noteDepth
  split
  · exact .writeDrilledDepth s b
  · exact .refl s

/-- The loader changed beside its queue and its grant. -/
theorem setLoader (s : State) {l : Loader} (queue : l.queue = s.loader.queue) (grant : l.grant = s.loader.grant) :
    s.SameStages (s.setLoader l) := ⟨rfl, queue, grant, fun _ => ⟨rfl, rfl⟩⟩

end State.SameStages

/-! ### Flow -/

theorem State.AgreesBeside.releaseFlow {s : State} {b : Boom} (h : s.AgreesBeside b) :
    (s.releaseFlow b).AgreesBeside b ∧ (s.releaseFlow b).FlowFree b := by
  have released := h.core.arbiter.release b
  rw [← s.releaseFlow_arbiter] at released
  refine ⟨⟨⟨released.sound, released.within h.core.within, ?_⟩, fun x hx => ?_, fun hb => ?_, fun g hg live own => ?_⟩,
    fun x hx => ((released.holds b x).1 hx).2 rfl⟩
  · rw [State.releaseFlow_loader]
    exact h.core.resinOnce
  · rw [State.unit_releaseFlow]
    exact h.other.flow x ((released.holds _ x).1 hx).1
  · rw [State.releaseFlow_loader] at hb
    rw [State.unit_releaseFlow]
    exact h.other.resin hb
  · rw [State.releaseFlow_loader] at hg
    rw [State.unit_releaseFlow]
    exact h.other.loading g hg live own

/-- A boom that has moved away from its stage gives up its flow (R46). -/
theorem State.StagesAgree.leaveStage {s : State} {b : Boom} {c : CycleState} (h : s.AgreesBeside b)
    (loader : s.LoaderFree b) : (s.leaveStage b c).StagesAgree ∧ (s.leaveStage b c).FlowFree b := by
  have left := (h.congr (.setCycle s b c)).releaseFlow
  have free : (s.leaveStage b c).LoaderFree b :=
    loader.congr (by rw [State.leaveStage, State.releaseFlow_loader]; rfl)
      (by rw [State.leaveStage, State.releaseFlow_loader]; rfl)
  exact ⟨left.1.withFree left.2 free, left.2⟩

/-- A boom that holds nothing enters the stage of a request (R46). -/
theorem State.AgreesBeside.requestStage {s : State} {b : Boom} {x : FlowStage} (h : s.AgreesBeside b) (flow : s.FlowFree b)
    (loader : s.LoaderFree b) (cycle : (s.unit b).cycle = x.cycle) : (s.requestStage b x).StagesAgree := by
  unfold State.requestStage
  split
  · exact h.withFree flow loader
  · rename_i wet
    have boom : (FlowRequest.ofStage b x).boom = b := by cases x <;> rfl
    have stage : (FlowRequest.ofStage b x).stage = x := by cases x <;> rfl
    have requested := h.core.arbiter.request (r := .ofStage b x) (by rw [boom, stage]) (by rw [boom]; exact flow)
    rw [← s.requestFlow_arbiter] at requested
    rw [State.stagesAgree_iff]
    refine ⟨⟨requested.sound, requested.within h.core.within, ?_⟩, fun c => ⟨fun y hy => ?_, fun hc => ?_, fun g hg live own => ?_⟩⟩
    · rw [State.requestFlow_loader]
      exact h.core.resinOnce
    · rw [State.unit_requestFlow]
      rcases (requested.holds c y).1 hy with before | ⟨own, same⟩
      · have other : c ≠ b := fun own => flow y (own ▸ before)
        exact (h.boom other).flow y before
      · rw [boom] at own
        rw [stage] at same
        rw [own, same]
        exact ⟨cycle, Bool.eq_false_iff.2 wet⟩
    · rw [State.requestFlow_loader] at hc
      rw [State.unit_requestFlow]
      exact (h.boom fun own => loader.queue (own ▸ hc)).resin hc
    · rw [State.requestFlow_loader] at hg
      rw [State.unit_requestFlow]
      exact (h.boom fun same => loader.grant g hg live (own.trans same)).loading g hg live own

/-! ### Loader -/

/-- The loader granted to a boom that holds nothing else (R122). -/
theorem State.StagesAgree.grantLoader {s : State} {b : Boom} (h : s.AgreesBeside b) (flow : s.FlowFree b)
    (away : b ∉ s.loader.queue) : (s.grantLoader b).StagesAgree := by
  have moved : State.StagesBeside b (s.setLoader { s.loader with grant := some ⟨b, s.plannedFor b, 0, 0, false⟩ })
      (s.grantLoader b) := ⟨rfl, rfl, rfl, by cases b <;> exact ⟨rfl, rfl⟩⟩
  have granted : (s.setLoader { s.loader with grant := some ⟨b, s.plannedFor b, 0, 0, false⟩ }).AgreesBeside b :=
    ⟨⟨h.core.arbiter, h.core.within, h.core.resinOnce⟩, h.other.flow, h.other.resin, fun g hg _ own => by
      rw [State.setLoader_loader] at hg
      rw [← Option.some.inj hg] at own
      exact absurd own (Boom.ne_other b)⟩
  refine (granted.congr moved).with ⟨fun x hx => absurd hx (flow x), fun hb => absurd hb away, fun _ _ _ _ => ?_⟩
  exact State.setCycle_cycle _ _ _

theorem State.StagesAgree.serveLoader {s : State} (h : s.StagesAgree) : s.serveLoader.StagesAgree := by
  unfold State.serveLoader
  split
  · exact (State.SameStages.setLoader s (by rfl) (by rfl)).stagesAgree h
  · rename_i c rest queue
    have once := (h.beside c).core.resinOnce
    rw [queue, List.nodup_cons] at once
    have head : c ∈ s.loader.queue := by rw [queue]; exact List.mem_cons_self
    have waits := (h.boom c).resin head
    have flow : s.FlowFree c := (h.boom c).flowFree fun x => by
      rw [waits]
      cases x <;> decide
    have shorter : (s.setLoader { s.loader with queue := rest }).AgreesBeside c :=
      ⟨⟨(h.beside c).core.arbiter, (h.beside c).core.within, once.2⟩, (h.beside c).other.flow,
        fun hb => (h.beside c).other.resin (by rw [queue]; exact List.mem_cons_of_mem c hb), (h.beside c).other.loading⟩
    exact State.StagesAgree.grantLoader shorter flow once.1

theorem State.LoaderFree.serveLoader {s : State} {b : Boom} (h : s.LoaderFree b) : s.serveLoader.LoaderFree b := by
  unfold State.serveLoader
  split
  · exact ⟨h.queue, h.grant⟩
  · rename_i c rest queue
    have away := h.queue
    rw [queue, List.mem_cons, not_or] at away
    refine ⟨away.2, fun g hg _ own => away.1 ?_⟩
    rw [← own, ← Option.some.inj (show some _ = some g from hg)]

/-- The loader without the boom's place and its live grant. -/
theorem State.AgreesBeside.withoutLoader {s : State} {b : Boom} (h : s.AgreesBeside b) (flow : s.FlowFree b) {l : Loader}
    (queue : l.queue = s.loader.queue.filter fun x => x != b)
    (grant : ∀ g, l.grant = some g → g.cancelled = false → s.loader.grant = some g ∧ g.boom ≠ b) :
    (s.setLoader l).StagesAgree ∧ (s.setLoader l).LoaderFree b := by
  have free : (s.setLoader l).LoaderFree b :=
    ⟨by rw [State.setLoader_loader, queue]; simp, fun g hg live => (grant g hg live).2⟩
  have left : (s.setLoader l).AgreesBeside b := by
    refine ⟨⟨h.core.arbiter, h.core.within, ?_⟩, h.other.flow, fun hb => ?_, fun g hg live own => ?_⟩
    · rw [State.setLoader_loader, queue]
      exact h.core.resinOnce.filter _
    · rw [State.setLoader_loader, queue] at hb
      exact h.other.resin (List.mem_of_mem_filter hb)
    · exact h.other.loading g (grant g hg live).1 live own
  exact ⟨left.withFree flow free, free⟩

theorem Loader.holderIs_iff {l : Loader} {b : Boom} :
    l.holderIs b = true ↔ ∃ g, l.grant = some g ∧ g.boom = b ∧ g.cancelled = false := by
  unfold Loader.holderIs
  cases l.grant <;> simp

/-- The boom gives up its place or its grant, and the loader goes on (R130). -/
theorem State.AgreesBeside.cancelLoader {s : State} {b : Boom} (h : s.AgreesBeside b) (flow : s.FlowFree b) :
    (s.cancelLoader b).StagesAgree ∧ (s.cancelLoader b).LoaderFree b := by
  unfold State.cancelLoader
  simp only []
  split
  · split
    · refine h.withoutLoader flow rfl fun g hg live => ?_
      obtain ⟨y, _, same⟩ := Option.map_eq_some_iff.1 (show s.loader.grant.map LoaderGrant.cancel = some g from hg)
      rw [← same] at live
      exact absurd live nofun
    · refine h.withoutLoader flow rfl fun g hg live => ?_
      obtain ⟨y, _, same⟩ := Option.map_eq_some_iff.1 (show s.loader.grant.map LoaderGrant.cancel = some g from hg)
      rw [← same] at live
      exact absurd live nofun
    · have ended := h.withoutLoader flow (l := { s.loader with
          queue := s.loader.queue.filter fun x => x != b, grant := none, stageTimer := none }) rfl
        fun g hg => absurd (show none = some g from hg) nofun
      exact ⟨ended.1.serveLoader, ended.2.serveLoader⟩
  · rename_i other
    refine h.withoutLoader flow rfl fun g hg live => ⟨hg, fun own => other ?_⟩
    exact Loader.holderIs_iff.2 ⟨g, hg, own, live⟩

/-- A request of a boom that waits for the loader and holds nothing else (R121). -/
theorem State.StagesAgree.requestLoader {s : State} {b : Boom} (h : s.AgreesBeside b) (flow : s.FlowFree b)
    (loader : s.LoaderFree b) (cycle : (s.unit b).cycle = .awaitResin) : (s.requestLoader b).StagesAgree := by
  unfold State.requestLoader
  split
  · exact State.StagesAgree.grantLoader h flow loader.queue
  · have queued : (s.setLoader { s.loader with queue := s.loader.queue ++ [b] }).AgreesBeside b := by
      refine ⟨⟨h.core.arbiter, h.core.within, ?_⟩, h.other.flow, fun hb => ?_, h.other.loading⟩
      · refine List.nodup_append.2 ⟨h.core.resinOnce, List.nodup_singleton b, fun c hc d hd same => ?_⟩
        exact loader.queue (List.mem_singleton.1 hd ▸ same ▸ hc)
      · refine h.other.resin ((List.mem_append.1 hb).resolve_right fun last => ?_)
        exact Boom.other_ne b (List.mem_singleton.1 last)
    refine queued.with ⟨fun x hx => absurd hx (flow x), fun _ => cycle, fun g hg live own => ?_⟩
    exact absurd own (loader.grant g hg live)

/-! ### Verdicts -/

/-- A verdict of the boom's hole gives up its flow and its place at the loader (R60). -/
theorem State.StagesAgree.boomVerdict {s : State} (h : s.StagesAgree) (b : Boom) (v : VerdictReason) (next : CycleState) :
    (s.boomVerdict b v next).StagesAgree := by
  unfold State.boomVerdict
  split
  · rename_i i _ _
    have judged : s.SameStages ((s.tableVerdict i v).modUnit b fun u => { u with claimHeld := false }) :=
      .trans (.tableVerdict s i v) (.modUnit _ b fun _ => ⟨rfl, rfl⟩)
    have released := ((h.beside b).congr (judged.beside b)).releaseFlow
    have cancelled := released.1.cancelLoader released.2
    refine (State.SameStages.post _ (.verdict b)).stagesAgree cancelled.1 |>.move ⟨?_, ?_⟩ (.setCycle _ b next)
    · exact released.2.congr (State.cancelLoader_arbiter _ b)
    · exact cancelled.2.congr rfl rfl
  · exact h

end Sys2Proof.Machine

/-! PROOFS. Every deed of the part keeps flow and loader in agreement with the stages of the booms. -/

namespace Sys2Proof.Machine

/-! ### Stages of the cycle -/

theorem State.StagesAgree.endDrilling {s : State} {b : Boom} (h : s.StagesAgree) (drilling : (s.unit b).cycle = .drilling) :
    (s.endDrilling b).StagesAgree := by
  have ended : s.SameStages (((s.writeDrilledDepth b).setEngine b (s.engine b).dropRun).updateClaimed b fun e =>
      { e with holeState := .drilled }) :=
    .trans (.trans (.writeDrilledDepth s b) (.setEngine _ b _)) (.updateClaimed _ b _)
  refine (State.StagesAgree.leaveStage ((h.beside b).congr (ended.beside b)) ?_).1
  refine ((h.boom b).loaderFree ?_ ?_).congr ended.queue ended.grant <;> rw [drilling] <;> decide

theorem State.StagesAgree.rejectDrilling {s : State} {b : Boom} (h : s.StagesAgree) (drilling : (s.unit b).cycle = .drilling)
    (v : VerdictReason) : (s.rejectDrilling b v).StagesAgree := by
  unfold State.rejectDrilling
  split
  · exact h.endDrilling drilling
  · exact .boomVerdict (State.SameStages.stagesAgree (.trans (.writeDrilledDepth s b) (.setEngine _ b _)) h) b v _

theorem State.StagesAgree.enterTorquing {s : State} {b : Boom} (h : s.StagesAgree) (flow : s.FlowFree b)
    (loader : s.LoaderFree b) : (s.enterTorquing b).StagesAgree :=
  ((h.beside b).congr (.setCycle s b _)).requestStage (flow.congr rfl) (loader.congr rfl rfl) (State.setCycle_cycle _ _ _)

theorem State.LoaderFree.leaveStage {s : State} {b c : Boom} {x : CycleState} (h : s.LoaderFree b) :
    (s.leaveStage c x).LoaderFree b :=
  h.congr (by rw [State.leaveStage, State.releaseFlow_loader]; rfl) (by rw [State.leaveStage, State.releaseFlow_loader]; rfl)

theorem State.StagesAgree.spinComplete {s : State} {b : Boom} (h : s.StagesAgree) (spinning : (s.unit b).cycle = .spinning) :
    (s.spinComplete b).StagesAgree := by
  have loader : s.LoaderFree b := (h.boom b).loaderFree (by rw [spinning]; decide) (by rw [spinning]; decide)
  have left := State.StagesAgree.leaveStage (c := .setting) (h.beside b) loader
  have timed : (s.leaveStage b .setting).SameStages
      ((s.leaveStage b .setting).modUnit b fun u => { u with setTimer := some 0 }) := .modUnit _ b fun _ => ⟨rfl, rfl⟩
  unfold State.spinComplete
  simp only []
  split
  · exact (timed.stagesAgree left.1).enterTorquing (left.2.congr timed.arbiter) (loader.leaveStage.congr timed.queue timed.grant)
  · exact timed.stagesAgree left.1

/-! ### Samples -/

theorem State.SameStages.applyRun (s : State) (b : Boom) (d : DrillRun) : s.SameStages (s.applyRun b d) := by
  obtain ⟨p, h⟩ := State.offers_frame (.void b) d.voidChanges ((s.setEngine b d.engine).updateClaimed b fun e =>
    { e with lengthClass := d.lengthClass, result := some d.result })
  unfold State.applyRun
  simp only []
  rw [h]
  exact .of (by simp) (by simp) (by simp)

theorem State.StagesAgree.drillSample {s : State} {b : Boom} (h : s.StagesAgree) (drilling : (s.unit b).cycle = .drilling)
    (x : Sample) : (s.drillSample b x).StagesAgree := by
  unfold State.drillSample
  split
  · split
    · simp only []
      generalize DrillRun.sample _ _ _ = d
      have applied := State.SameStages.applyRun s b d.1
      have agree := applied.stagesAgree h
      have still : ((s.applyRun b d.1).unit b).cycle = .drilling := (applied.unit b).1.trans drilling
      cases d.2 with
      | goesOn => exact agree
      | extended => exact (State.SameStages.post _ _).stagesAgree agree
      | reached => exact agree.endDrilling still
      | overVoid => exact agree.rejectDrilling still _
    · exact h
  · exact h

theorem State.StagesAgree.spinSample {s : State} {b : Boom} (h : s.StagesAgree) (spinning : (s.unit b).cycle = .spinning)
    (x : Sample) : (s.spinSample b x).StagesAgree := by
  unfold State.spinSample
  simp only []
  generalize min sumTop ((s.engine b).revolutionSum + x.speed) = n
  have counted : s.SameStages ((s.setEngine b { s.engine b with revolutionSum := n }).updateResult b fun r =>
    { r with spinRevs := some (n / revolution) }) := .trans (.setEngine s b _) (.updateResult _ b _)
  split
  · exact (counted.stagesAgree h).spinComplete ((counted.unit b).1.trans spinning)
  · exact counted.stagesAgree h

theorem State.StagesAgree.torqueSample {s : State} (h : s.StagesAgree) (b : Boom) (x : Sample) :
    (s.torqueSample b x).StagesAgree := by
  have judged : s.SameStages (s.judge b x) := .trans (.setEngine s b _) (.updateResult _ b _)
  have replaced : ∀ e : Engine, s.SameStages ((s.judge b x).setEngine b e) := fun e => judged.trans (.setEngine _ b e)
  rw [State.torqueSample_eq]
  split
  · exact .boomVerdict ((judged.trans (.updateResult _ b _)).stagesAgree h) b _ _
  · split
    · split
      · exact .boomVerdict (judged.stagesAgree h) b _ _
      · simp only []
        split
        · exact .boomVerdict ((replaced _).stagesAgree h) b _ _
        · exact (replaced _).stagesAgree h
    · simp only []
      split
      · exact ((replaced _).trans (.updateResult _ b _)).stagesAgree h
      · exact (replaced _).stagesAgree h

theorem State.StagesAgree.engineSample {s : State} (h : s.StagesAgree) (b : Boom) (x : Sample) :
    (s.engineSample b x).StagesAgree := by
  unfold State.engineSample
  split
  · rename_i drilling
    exact h.drillSample drilling x
  · rename_i spinning
    exact h.spinSample spinning x
  · unfold State.setSample
    split
    · exact h.boomVerdict b _ _
    · exact h
  · unfold State.torquingSample
    split
    · exact h.torqueSample b x
    · exact h
  · exact h

namespace State.SameStages

theorem laneMark (s : State) (b : Boom) : s.SameStages (s.laneMark b) := by
  unfold State.laneMark
  split
  · exact .setEngine s b _
  · exact .refl s

theorem watchFlush (s : State) (b : Boom) (x : Sample) : s.SameStages (s.watchFlush b x) := by
  unfold State.watchFlush
  split
  · exact .modUnit s b fun _ => ⟨rfl, rfl⟩
  · exact .refl s

theorem countFaults (s : State) (b : Boom) (n : Nat) : s.SameStages (s.countFaults b n) := by
  unfold State.countFaults
  simp only []
  split
  · exact .trans (.setLane s b _) (.post _ _)
  · exact .setLane s b _

theorem discardFault (s : State) (b : Boom) : s.SameStages (s.discardFault b) := by
  unfold State.discardFault
  simp only []
  split
  · exact .trans (.countFaults s b 1) (.laneMark _ b)
  · exact .trans (.trans (.countFaults s b 1) (.setLane _ b _)) (.laneMark _ b)

theorem tearFrame (s : State) (b : Boom) : s.SameStages (s.tearFrame b) := .trans (.setLane s b _) (.discardFault _ b)

theorem transferCount (s : State) (b : Boom) : s.SameStages (s.transferCount b) := .trans (.setLane s b _) (.post _ _)

theorem loseLane (s : State) (b : Boom) : s.SameStages (s.loseLane b) :=
  .trans (.trans (.setLane s b _) (.countFaults _ b 1)) (.laneMark _ b)

end State.SameStages

theorem State.StagesAgree.admitSample {s : State} (h : s.StagesAgree) (b : Boom) (raw : RawSample) :
    (s.admitSample b raw).StagesAgree := by
  have sampled : ∀ {t : State}, s.SameStages t → ((t.engineSample b raw.clamp).watchFlush b raw.clamp).StagesAgree :=
    fun k => (State.SameStages.watchFlush _ b _).stagesAgree ((k.stagesAgree h).engineSample b raw.clamp)
  unfold State.admitSample
  simp only []
  refine (State.SameStages.setLane _ b _).stagesAgree ?_
  split
  · exact sampled (.trans (.trans (.setLane s b _) (.countFaults _ b _)) (.laneMark _ b))
  · exact sampled (.trans (.setLane s b _) (.countFaults _ b _))

theorem State.StagesAgree.takeCharacter {s : State} (h : s.StagesAgree) (b : Boom) (c : Byte) (good : Bool) :
    (s.takeCharacter b c good).StagesAgree := by
  unfold State.takeCharacter
  split
  · exact h
  · split
    · split
      · exact (State.SameStages.setLane s b _).stagesAgree h
      · exact h
    · split
      · exact (State.SameStages.tearFrame s b).stagesAgree h
      · split
        · exact (State.SameStages.setLane s b _).stagesAgree h
        · have hunting := (State.SameStages.setLane s b { s.lane b with framer := .hunting }).stagesAgree h
          unfold State.completeFrame
          simp only []
          split
          · exact hunting.admitSample b _
          · exact (State.SameStages.discardFault _ b).stagesAgree hunting

/-! ### Commands of the cycle -/

theorem State.StagesAgree.moveCycle {s t : State} {b : Boom} (h : s.StagesAgree) (bare : (s.unit b).cycle.Bare)
    (k : State.StagesBeside b s t) (c : CycleState) : (t.setCycle b c).StagesAgree :=
  h.move (h.free bare) (k.trans (.setCycle t b c))

/-- A boom that holds nothing enters the stage of a flow request. -/
theorem State.StagesAgree.startStage {s t : State} {b : Boom} (h : s.StagesAgree) (bare : (s.unit b).cycle.Bare)
    (k : State.StagesBeside b s t) (x : FlowStage) : ((t.setCycle b x.cycle).requestStage b x).StagesAgree := by
  have free := h.free bare
  have moved := k.trans (.setCycle t b x.cycle)
  exact ((h.beside b).congr moved).requestStage (free.1.congr moved.arbiter) (free.2.congr moved.queue moved.grant)
    (State.setCycle_cycle _ _ _)

theorem CycleState.bare_idle : CycleState.Bare .idle := by apply Bare.ofNe <;> decide
theorem CycleState.bare_claimed : CycleState.Bare .claimed := by apply Bare.ofNe <;> decide
theorem CycleState.bare_withdrawing : CycleState.Bare .withdrawing := by apply Bare.ofNe <;> decide
theorem CycleState.bare_awaitBolt : CycleState.Bare .awaitBolt := by apply Bare.ofNe <;> decide
theorem CycleState.bare_setting : CycleState.Bare .setting := by apply Bare.ofNe <;> decide
theorem CycleState.bare_suspended : CycleState.Bare .suspended := by apply Bare.ofNe <;> decide
theorem CycleState.bare_halted : CycleState.Bare .halted := by apply Bare.ofNe <;> decide

theorem State.StagesAgree.claimed {s : State} {b : Boom} (h : s.StagesAgree) (idle : (s.unit b).cycle = .idle) (i : Slot) :
    (s.claimed b i).StagesAgree := by
  refine h.moveCycle (idle ▸ CycleState.bare_idle) (State.StagesBeside.trans (t := (s.modEntry i fun e => e.claimedBy b).modUnit b
    fun u => { u with workSlot := some i, claimHeld := true, activeSet := u.pendingSet }) ?_ ?_) .claimed
  · exact .trans (State.SameStages.beside (.of (by simp) (by simp) (by simp)) b) (.modUnit _ b _)
  · exact State.SameStages.beside (.of (by simp) (by simp) (by simp)) b

theorem State.StagesAgree.endWithdrawal {s : State} {b : Boom} (h : s.StagesAgree)
    (withdrawing : (s.unit b).cycle = .withdrawing) : (State.endWithdrawal b s).StagesAgree := by
  have bare : (s.unit b).cycle.Bare := withdrawing ▸ CycleState.bare_withdrawing
  unfold State.endWithdrawal
  split
  · split
    · rename_i r _
      simp only []
      generalize cartridgeCount (s.active b) r = n
      split
      · unfold State.endDryRun
        simp only []
        split
        · exact .boomVerdict ((State.SameStages.updateResult s b _).stagesAgree h) b _ _
        · exact h.boomVerdict b _ _
      · unfold State.beginResin
        split
        · have free := h.free bare
          have moved := ((State.SameStages.updateResult s b fun r =>
            { r with cartPlanned := some n, cartDelivered := some 0 }).beside b).trans (.setCycle _ b .awaitResin)
          exact .requestLoader ((h.beside b).congr moved) (free.1.congr moved.arbiter)
            (free.2.congr moved.queue moved.grant) (State.setCycle_cycle _ _ _)
        · exact h.boomVerdict b _ _
    · exact h
  · exact h.moveCycle bare ((State.SameStages.refl s).beside b) .idle

theorem CycleState.suspendable_cases {c : CycleState} {x : StoredState} (h : c.suspendable = some x) :
    c = .drilling ∧ x = .drilling ∨ c = .torquing ∧ x = .torquing := by
  cases c <;> simp_all [CycleState.suspendable]

theorem State.StagesAgree.suspendBoom {s : State} {b : Boom} {x : StoredState} (h : s.StagesAgree)
    (takes : (s.unit b).cycle.suspendable = some x) : (State.suspendBoom b x s).StagesAgree := by
  have loader : s.LoaderFree b := by
    rcases CycleState.suspendable_cases takes with ⟨c, _⟩ | ⟨c, _⟩ <;>
      exact (h.boom b).loaderFree (by rw [c]; decide) (by rw [c]; decide)
  have stored : State.StagesBeside b s (s.modUnit b fun u => { u with stored := some x, torqueTimer := u.torqueTimer.pause }) :=
    .modUnit s b _
  have left := (State.StagesAgree.leaveStage (c := .suspended) ((h.beside b).congr stored)
    (loader.congr stored.queue stored.grant)).1
  unfold State.suspendBoom
  cases x with
  | drilling => exact left
  | torquing => exact (State.SameStages.setEngine _ b _).stagesAgree left

theorem State.StagesAgree.abortBoom {s : State} (h : s.StagesAgree) (b : Boom) : (State.abortBoom b s).StagesAgree := by
  have halted : ∀ {t : State}, s.SameStages t → (((t.releaseFlow b).cancelLoader b).setCycle b .halted).StagesAgree := by
    intro t k
    have released := ((h.beside b).congr (k.beside b)).releaseFlow
    have cancelled := released.1.cancelLoader released.2
    exact cancelled.1.move ⟨released.2.congr (State.cancelLoader_arbiter _ b), cancelled.2⟩ (.setCycle _ b _)
  have disposed : (s.disposeAbort b).StagesAgree := by
    unfold State.disposeAbort
    split
    · split
      · exact halted (.returnEntry s _)
      · exact .boomVerdict ((State.SameStages.noteDepth s b _).stagesAgree h) b _ _
    · exact halted (.refl s)
  exact State.SameStages.stagesAgree (.trans (.modUnit _ b (f := BoomUnit.cleared) fun _ => ⟨rfl, rfl⟩) (.setEngine _ b _))
    disposed

/-! ### The loader's events -/

/-- The grant ended, and any other change of the loader beside its queue. -/
theorem State.StagesAgree.dropGrant {s : State} (h : s.StagesAgree) {l : Loader} (queue : l.queue = s.loader.queue)
    (grant : ∀ g, l.grant = some g → g.cancelled = false → ∃ f, s.loader.grant = some f ∧ f.cancelled = false ∧ f.boom = g.boom) :
    (s.setLoader l).StagesAgree := by
  rw [State.stagesAgree_iff] at h ⊢
  refine ⟨⟨h.1.arbiter, h.1.within, ?_⟩, fun b => ⟨(h.2 b).flow, fun hb => ?_, fun g hg live own => ?_⟩⟩
  · rw [State.setLoader_loader, queue]
    exact h.1.resinOnce
  · rw [State.setLoader_loader, queue] at hb
    exact (h.2 b).resin hb
  · obtain ⟨f, hf, live', boom⟩ := grant g hg live
    exact (h.2 b).loading f hf live' (boom.trans own)

theorem State.StagesAgree.endGrant {s : State} (h : s.StagesAgree) : s.endGrant.StagesAgree :=
  h.dropGrant rfl fun _ => nofun

theorem State.StagesAgree.deliver {s : State} (h : s.StagesAgree) {g : LoaderGrant} (grant : s.loader.grant = some g)
    (live : g.cancelled = false) : (s.deliver g).StagesAgree := by
  have counted := State.SameStages.updateResult s g.boom fun r => { r with cartDelivered := some (g.delivered + 1) }
  have loading : (s.unit g.boom).cycle = .loading := (h.boom g.boom).loading g grant live rfl
  unfold State.deliver
  simp only []
  split
  · have resined := counted.trans (.updateClaimed _ g.boom fun e => { e with holeState := .resined })
    have ended := (resined.stagesAgree h).endGrant
    have waits : (s.unit g.boom).cycle ≠ .awaitResin := by rw [loading]; decide
    refine (ended.move (b := g.boom) ⟨?_, ⟨fun hb => waits ?_, fun _ => nofun⟩⟩ (.setCycle _ g.boom _)).serveLoader
    · refine ((h.boom g.boom).flowFree fun x => ?_).congr resined.arbiter
      rw [loading]
      cases x <;> decide
    · exact (h.boom g.boom).resin (resined.queue ▸ hb)
  · refine (counted.stagesAgree h).dropGrant rfl fun f hf k => ⟨g, counted.grant.trans grant, live, ?_⟩
    rw [← Option.some.inj (show some _ = some f from hf)]

theorem State.SameStages.spendCartridge (s : State) : s.SameStages s.spendCartridge := .setLoader s rfl rfl

theorem State.StagesAgree.loaderDone {s : State} (h : s.StagesAgree) : s.loaderDone.StagesAgree := by
  have spent := (State.SameStages.spendCartridge s).stagesAgree h
  unfold State.loaderDone
  split
  · rename_i g grant
    split
    · exact spent.endGrant.serveLoader
    · rename_i live
      exact spent.deliver grant (Bool.eq_false_iff.2 live)
  · exact spent.serveLoader

theorem State.StagesAgree.loaderJam {s : State} (h : s.StagesAgree) : s.loaderJam.StagesAgree := by
  unfold State.loaderJam
  simp only []
  split
  · rename_i g grant
    split
    · exact h.dropGrant rfl fun _ => nofun
    · rename_i live
      refine h.dropGrant rfl fun f hf _ => ⟨g, grant, Bool.eq_false_iff.2 live, ?_⟩
      rw [← Option.some.inj (show some _ = some f from hf)]
  · exact (State.SameStages.setLoader s (by rfl) (by rfl)).stagesAgree h

theorem State.StagesAgree.clearLoader {s : State} (h : s.StagesAgree) : s.clearLoader.StagesAgree := by
  unfold State.clearLoader
  split
  · exact h.serveLoader
  · split
    · exact h.endGrant.serveLoader
    · split
      · exact (h.endGrant.boomVerdict _ _ _).serveLoader
      · exact (State.SameStages.setLoader s (by rfl) (by rfl)).stagesAgree h

theorem State.SameStages.fireLoader (s : State) : s.SameStages s.fireLoader := by
  unfold State.fireLoader
  split
  · exact .setLoader s rfl rfl
  · exact .setLoader s rfl rfl

/-! ### DERATE -/

theorem Arbiter.Granted.floor_le {a : Arbiter} (h : a.Granted) (within : a.total ≤ a.capacity) : a.floor ≤ 100 := by
  have least : ∀ b, drillingMinimum (a.grants.get b) + fixedAmount (a.grants.get b) ≤ flowAmount (a.grants.get b) := by
    intro b
    cases grant : a.grants.get b with
    | none => exact le_refl 0
    | some g =>
      have fits := (h.proper b g grant).fits.least
      simp only [drillingMinimum, fixedAmount, flowAmount]
      split <;> omega
  have first := least .A
  have second := least Boom.A.other
  have limit := h.capacity_le
  rw [Arbiter.total_eq a .A] at within
  rw [Arbiter.floor_eq a .A, Arbiter.fixedSum_eq a .A]
  omega

theorem Arbiter.Granted.derateTo_bounds {a : Arbiter} (h : a.Granted) (within : a.total ≤ a.capacity) (n : Nat) :
    60 ≤ a.derateTo n ∧ a.derateTo n ≤ 100 ∧ a.floor ≤ a.derateTo n := by
  have bounds := clampTo_bounds (lo := 60) (hi := 100) (x := n) (by decide)
  have floor := h.floor_le within
  unfold Arbiter.derateTo
  omega

/-- The arbiter with another derate target. -/
def Arbiter.withDerate (a : Arbiter) (n : Nat) : Arbiter := { a with derate := n }

theorem Arbiter.Sound.withDerate {a : Arbiter} (h : a.Sound) {n : Nat} (bounds : 60 ≤ n ∧ n ≤ 100) : (a.withDerate n).Sound :=
  ⟨⟨h.granted.proper, h.granted.order, h.granted.orderOnce, bounds⟩, h.queued.waiting, h.queued.once, h.queued.apart⟩

theorem State.StagesAgree.derated {s : State} (h : s.StagesAgree) (n : Nat) :
    (s.setArbiter { s.arbiter with derate := s.arbiter.derateTo n }).servicePass.StagesAgree := by
  have core := (h.beside .A).core
  have bounds := core.arbiter.granted.derateTo_bounds core.within n
  have sound := core.arbiter.withDerate (n := s.arbiter.derateTo n) ⟨bounds.1, bounds.2.1⟩
  have kept := sound.service
  have within := sound.service_within fun _ => bounds.2.2
  have arbiter : (s.setArbiter { s.arbiter with derate := s.arbiter.derateTo n }).servicePass.arbiter =
    (s.arbiter.withDerate (s.arbiter.derateTo n)).service := State.servicePass_arbiter _
  rw [← arbiter] at kept within
  rw [State.stagesAgree_iff]
  refine ⟨⟨kept.sound, within, ?_⟩, fun b => ⟨fun x hx => ?_, fun hb => ?_, fun g hg live own => ?_⟩⟩
  · rw [State.servicePass_loader]
    exact core.resinOnce
  · rw [State.unit_servicePass]
    exact (h.boom b).flow x ((kept.holds b x).1 hx)
  · rw [State.servicePass_loader] at hb
    rw [State.unit_servicePass]
    exact (h.boom b).resin hb
  · rw [State.servicePass_loader] at hg
    rw [State.unit_servicePass]
    exact (h.boom b).loading g hg live own

/-! ### Every step -/

theorem State.Act.stagesAgree {s v : State} (act : s.Act v) (h : s.StagesAgree) : v.StagesAgree := by
  cases act with
  | nothing => exact h
  | claim _ idle => exact h.claimed idle _
  | @cancelClaim b i _ claimed =>
    exact h.moveCycle (claimed ▸ CycleState.bare_claimed) (((State.SameStages.returnEntry s i).beside b).trans (.modUnit _ b _)) .idle
  | @collared b claimed =>
    exact h.startStage (claimed ▸ CycleState.bare_claimed)
      (((State.SameStages.updateClaimed s b _).beside b).trans (.modUnit _ b _)) .drilling
  | bitOut withdrawing => exact h.endWithdrawal withdrawing
  | @boltIn b waits =>
    exact h.startStage (waits ▸ CycleState.bare_awaitBolt) ((State.SameStages.updateClaimed s b _).beside b) .spinning
  | suspend takes => exact h.suspendBoom takes
  | @resume b x suspended =>
    have moved : State.StagesBeside b s (s.modUnit b fun u => { u with stored := none, torqueTimer := u.torqueTimer.goOn }) :=
      .modUnit s b _
    cases x with
    | drilling => exact h.startStage (suspended ▸ CycleState.bare_suspended) moved .drilling
    | torquing => exact h.startStage (suspended ▸ CycleState.bare_suspended) moved .torquing
  | abort => exact h.abortBoom _
  | @clear b halted => exact h.moveCycle (halted ▸ CycleState.bare_halted) ((State.SameStages.refl s).beside b) .idle
  | @dry b x idle =>
    exact h.move (h.free (idle ▸ CycleState.bare_idle)) (.trans (.modUnit s b _) ((State.SameStages.setLane _ b _).beside b))
  | clearJam => exact h.clearLoader
  | derate => exact h.derated _
  | sample => exact h.admitSample _ _
  | character => exact h.takeCharacter _ _ _
  | gap => exact (State.SameStages.tearFrame s _).stagesAgree h
  | loss => exact (State.SameStages.loseLane s _).stagesAgree h
  | period => exact (State.SameStages.trans (.transferCount s _) (.setLane _ _ _)).stagesAgree h
  | abandon drilling => exact h.rejectDrilling drilling _
  | spinMax => exact h.boomVerdict _ _ _
  | @setTimer b setting =>
    have free := h.free (b := b) (setting ▸ CycleState.bare_setting)
    exact h.enterTorquing free.1 free.2
  | torqueStage => exact h.boomVerdict _ _ _
  | fire => exact (State.SameStages.fireLoader s).stagesAgree h
  | pulseEnd => exact (State.SameStages.setLoader s (by rfl) (by rfl)).stagesAgree h
  | done => exact h.loaderDone
  | jam => exact h.loaderJam

theorem State.SameStages.sync (s : State) : s.SameStages s.sync := by
  obtain ⟨u, e, h⟩ := s.sync_frame
  refine ⟨by rw [h], by rw [h], by rw [h], fun b => ?_⟩
  rw [State.sync_unit]
  exact ⟨rfl, rfl⟩

theorem State.SameStages.offersSince (s u : State) : s.SameStages (s.offersSince u) := by
  obtain ⟨p, h⟩ := State.offersSince_frame s u
  rw [h]
  exact .of rfl rfl rfl

theorem State.TableOnly.sameStages {s t : State} (h : s.TableOnly t) : s.SameStages t := by
  obtain ⟨_, _, _, _, rfl⟩ := h
  exact .of rfl rfl rfl

theorem State.SameButFrames.sameStages {s t : State} (h : s.SameButFrames t) : s.SameStages t := by
  rw [h.blocks]
  exact .of rfl rfl rfl

theorem State.SameStages.announcing {s : State} {f : State → State} (h : s.SameStages (f s)) : s.SameStages (s.announcing f) :=
  h.trans (.offersSince _ s)

theorem State.SameStages.refillTo (n : Nat) (s : State) : s.SameStages (s.refillTo n) := by
  have filled : s.SameStages (s.setLoader { s.loader with magazine := n }) := .setLoader s rfl rfl
  unfold State.refillTo
  simp only []
  split
  · exact filled.trans (.fireLoader _)
  · exact filled

theorem State.Setting.sameStages {s u : State} (h : s.Setting u) : s.SameStages u := by
  cases h with
  | configured | searched | setProtection | writeSet | writeBoth => exact .of rfl rfl rfl
  | effect p x =>
    obtain ⟨_, _, e⟩ := s.takeEffect_frame p x
    rw [e]
    exact .of rfl rfl rfl
  | settings => exact .announcing (.of rfl rfl rfl)
  | refill => exact .announcing (.refillTo _ s)
  | supplyLoss => exact .trans (t := { s with supplyUp := false }) (.of rfl rfl rfl) (.trans (.sync _) (.offersSince _ s))
  | resetRelease =>
    refine .trans (t := s.acting fun s => { s with resetLow := false }) ?_ (.of rfl rfl rfl)
    exact .trans (t := { s with resetLow := false }) (.of rfl rfl rfl) (.trans (.sync _) (.offersSince _ s))

theorem State.SameStages.select (s : State) (b : Boom) (n : SetNo) : s.SameStages (s.modUnit b (BoomUnit.select n)) :=
  .modUnit s b (f := BoomUnit.select n) fun _ => ⟨rfl, rfl⟩

theorem State.Deed.stagesAgree {s u : State} (deed : s.Deed u) (h : s.StagesAgree) : u.StagesAgree := by
  cases deed with
  | nothing => exact h
  | act act => exact ((State.SameStages.sync _).trans (.offersSince _ s)).stagesAgree (act.stagesAgree h)
  | table deed => exact deed.tableOnly.sameStages.stagesAgree h
  | set set => exact set.sameStages.stagesAgree h
  | selectBoth n => exact (State.SameStages.trans (.select s .A n) (.select _ .B n)).stagesAgree h
  | select b n => exact (State.SameStages.select s b n).stagesAgree h
  | takeCount => exact (State.SameStages.transferCount s _).stagesAgree h
  | reportMode => exact (State.SameStages.setLane s _ _).stagesAgree h

theorem State.SameStages.disposeRestart (s : State) (b : Boom) : s.SameStages (s.disposeRestart b) := by
  unfold State.disposeRestart
  split
  · split
    · exact .of rfl rfl rfl
    · exact .trans (.trans (.noteDepth s b _) (.tableVerdict _ _ _)) (.post _ _)
  · exact .refl s

theorem State.SameStages.closeDisposed (s before : State) (b : Boom) : s.SameStages (s.closeDisposed before b) := by
  unfold State.closeDisposed
  split
  · exact .of (by simp) (by simp) (by simp)
  · exact .refl s

theorem State.SameStages.restartPosts (s before : State) (b : Boom) : s.SameStages (s.restartPosts before b) := by
  unfold State.restartPosts
  simp only []
  split <;> split <;> exact .of rfl rfl rfl

theorem State.SameStages.restartDisposed (s : State) : s.SameStages s.restartDisposed := by
  have cleared : s.SameStages (s.mapPorts PortState.restartNotices) := .of rfl rfl rfl
  exact cleared.trans (.trans (.trans (.trans (.trans (.trans (.disposeRestart _ .A) (.disposeRestart _ .B))
    (.closeDisposed _ s .A)) (.closeDisposed _ s .B)) (.restartPosts _ s .A)) (.restartPosts _ s .B))

/-- RESTART leaves nothing of the flow and the loader to any boom. -/
theorem State.restartPart_stagesAgree {s : State} (h : s.StagesAgree) : s.restartPart.StagesAgree := by
  have derate : s.restartPart.arbiter.derate = s.arbiter.derate := by
    rw [State.restartPart_eq, ← (State.SameStages.restartDisposed s).arbiter]
    rfl
  have none : ∀ b, s.restartPart.arbiter.stageOf b = none := fun b => by cases b <;> rfl
  have queue : s.restartPart.arbiter.queue = [] := rfl
  have order : s.restartPart.arbiter.order = [] := rfl
  have loader : s.restartPart.loader.queue = [] := rfl
  rw [State.stagesAgree_iff]
  refine ⟨⟨⟨⟨fun b g hg => ?_, fun b => ?_, by rw [order]; exact List.nodup_nil, by rw [derate]; exact h.derate⟩,
      by rw [queue]; exact fun _ => nofun, by rw [queue]; exact List.nodup_nil, fun r _ => none r.boom⟩, Nat.zero_le _,
      by rw [loader]; exact List.nodup_nil⟩, fun b => .ofFree (fun x hx => ?_) ⟨by rw [loader]; exact List.not_mem_nil, fun _ => nofun⟩⟩
  · exact absurd ((Arbiter.stageOf_eq_none.1 (none b)).symm.trans hg) nofun
  · rw [order, none]
    exact ⟨nofun, nofun⟩
  · rcases hx with stage | ⟨r, hr, _⟩
    · exact absurd ((none b).symm.trans stage) nofun
    · rw [queue] at hr
      exact absurd hr List.not_mem_nil

theorem State.SameStages.tick (s : State) : s.SameStages s.tick := by
  unfold State.tick
  split
  · exact .refl s
  · exact ⟨rfl, rfl, rfl, fun b => by cases b <;> exact ⟨rfl, rfl⟩⟩

theorem exec_stagesAgree {c : Instr} {s t : State} (ran : exec c s = .next t) (h : s.StagesAgree) : t.StagesAgree := by
  by_cases powerOn : c = .powerOn
  · subst powerOn
    exact (execPowerOn_blank ran).stagesAgree
  by_cases resetN : c = .resetN
  · subst resetN
    exact (execResetN_blank ran).stagesAgree
  by_cases restart : ∃ p, c = .restart p
  · obtain ⟨p, rfl⟩ := restart
    rcases execRestart_cases ran with same | ⟨_, _, rfl⟩
    · exact same.sameStages.stagesAgree h
    · exact State.restartPart_stagesAgree ((State.SameButFrames.setFrame s .C .idle).sameStages.stagesAgree h)
  · obtain ⟨v, u, before, deed, after⟩ := exec_does ran powerOn resetN fun p k => restart ⟨p, k⟩
    exact after.sameStages.stagesAgree (deed.stagesAgree (before.sameStages.stagesAgree h))

/-- Settles O59: boom by boom, every deed leaves a boom nothing of flow and loader, or what its stage has
(`State.stagesAgree_iff`); the capacity is at most the derate target or two fixed grants of 50. -/
theorem stepKeepsStagesAgreed : Obligations.StepKeepsStagesAgreed := by
  unfold Obligations.StepKeepsStagesAgreed
  refine ⟨fun s t agrees ran => ?_, fun s agrees => ?_⟩
  · rcases step_cases s with ⟨_, ticks⟩ | ⟨i, rest, _, runs⟩
    · obtain rfl := Host.Outcome.next.inj (ticks.symm.trans ran)
      exact (State.SameStages.tick s).stagesAgree agrees
    · have taken : ({ s with pending := rest } : State).StagesAgree :=
        State.SameStages.stagesAgree (s := s) (.of rfl rfl rfl) agrees
      exact exec_stagesAgree (runs.symm.trans ran) taken
  · have core := (agrees.beside .A).core
    exact ⟨core.within, core.arbiter.granted.capacity_le⟩

end Sys2Proof.Machine

/-! PROOFS. The Hole Table by itself: counting its entries, looking up its rows, and what agrees in it (R1, R7, R11, R21). -/

namespace Sys2Proof.Machine

/-! ### Counting entries -/

/-- The number of entries whose row and hole state are as `q` says. -/
def State.tally (s : State) (q : Byte → HoleState → Bool) : Nat :=
  allSlots.countP fun i => (s.entry i).any fun e => q e.row e.holeState

theorem List.countP_add_toNat {α : Type} {l : List α} (nodup : l.Nodup) {p q : α → Bool} {i : α} (mem : i ∈ l)
    (agree : ∀ j, j ≠ i → q j = p j) : l.countP q + (p i).toNat = l.countP p + (q i).toNat := by
  induction l with
  | nil => exact absurd mem List.not_mem_nil
  | cons x rest ih =>
    obtain ⟨away, nodup⟩ := List.nodup_cons.1 nodup
    rw [List.countP_cons, List.countP_cons]
    by_cases own : x = i
    · have same : rest.countP q = rest.countP p := List.countP_congr fun j hj => by
        rw [agree j fun eq => away (own ▸ eq ▸ hj)]
      rw [same, own]
      cases p i <;> cases q i <;> simp [Nat.add_comm]
    · have tail := ih nodup ((List.mem_cons.1 mem).resolve_left fun eq => own eq.symm)
      rw [agree x own]
      omega

theorem allSlots_nodup : allSlots.Nodup := List.nodup_finRange 48

theorem State.tally_setEntry (s : State) (i : Slot) (x : Option Entry) (q : Byte → HoleState → Bool) :
    (s.setEntry i x).tally q + ((s.entry i).any fun e => q e.row e.holeState).toNat =
      s.tally q + (x.any fun e => q e.row e.holeState).toNat := by
  have counted := List.countP_add_toNat allSlots_nodup (mem_allSlots i)
    (p := fun j => (s.entry j).any fun e => q e.row e.holeState)
    (q := fun j => ((s.setEntry i x).entry j).any fun e => q e.row e.holeState)
    fun j hj => by rw [State.entry_setEntry_ne s hj]
  rw [State.entry_setEntry_same] at counted
  exact counted

/-- The number of entries of a row whose hole state is as `g` says. -/
def State.tallyIn (s : State) (id : Byte) (g : HoleState → Bool) : Nat := s.tally fun x y => x == id && g y

theorem State.slotsOfRow_length (s : State) (id : Byte) : (s.slotsOfRow id).length = s.tallyIn id fun _ => true := by
  unfold State.slotsOfRow State.tallyIn State.tally
  rw [← List.countP_eq_length_filter]
  refine List.countP_congr fun i _ => ?_
  cases s.entry i <;> simp

theorem State.countIn_eq (s : State) (id : Byte) (h : HoleState) : s.countIn id h = s.tallyIn id fun y => y == h := by
  unfold State.countIn State.slotsOfRow State.tallyIn State.tally
  rw [List.countP_filter]
  refine List.countP_congr fun i _ => ?_
  cases s.entry i with
  | none => rfl
  | some e => simp only [Option.any_some, Bool.and_comm]

/-- The entry of slot `i` replaced within a row changes that row's numbers by what the slot held and holds. -/
theorem State.tallyIn_setEntry_own {s : State} {i : Slot} {x : Option Entry} {id : Byte}
    (old : ∀ e, s.entry i = some e → e.row = id) (new : ∀ e, x = some e → e.row = id) (g : HoleState → Bool) :
    (s.setEntry i x).tallyIn id g + ((s.entry i).any fun e => g e.holeState).toNat =
      s.tallyIn id g + (x.any fun e => g e.holeState).toNat := by
  have own : ∀ {y : Option Entry}, (∀ e, y = some e → e.row = id) →
      (y.any fun e => e.row == id && g e.holeState) = y.any fun e => g e.holeState := by
    intro y h
    cases y with
    | none => rfl
    | some e => rw [Option.any_some, Option.any_some, h e rfl, beq_self_eq_true, Bool.true_and]
  have counted := s.tally_setEntry i x fun x y => x == id && g y
  rw [own old, own new] at counted
  exact counted

theorem State.tallyIn_setEntry_other {s : State} {i : Slot} {x : Option Entry} {id k : Byte} (other : k ≠ id)
    (old : ∀ e, s.entry i = some e → e.row = id) (new : ∀ e, x = some e → e.row = id) (g : HoleState → Bool) :
    (s.setEntry i x).tallyIn k g = s.tallyIn k g := by
  have none : ∀ {y : Option Entry}, (∀ e, y = some e → e.row = id) →
      (y.any fun e => e.row == k && g e.holeState) = false := by
    intro y h
    cases y with
    | none => rfl
    | some e => rw [Option.any_some, h e rfl, beq_false_of_ne other.symm, Bool.false_and]
  have counted := s.tally_setEntry i x fun x y => x == k && g y
  rw [none old, none new] at counted
  exact counted

theorem State.tallyIn_pos {s : State} {i : Slot} {e : Entry} (h : s.entry i = some e) {g : HoleState → Bool}
    (k : g e.holeState = true) : 0 < s.tallyIn e.row g := by
  unfold State.tallyIn State.tally
  rw [List.countP_pos_iff]
  exact ⟨i, mem_allSlots i, by simp [h, k]⟩

/-! ### Rows -/

theorem State.row_id {s : State} {id : Byte} {r : RowRecord} (h : s.row id = some r) : r.id = id := by
  have found := List.find?_some (p := fun x : RowRecord => x.id == id) (l := s.rows) h
  exact beq_iff_eq.1 found

theorem State.row_eq_some {s : State} (distinct : (s.rows.map RowRecord.id).Nodup) {id : Byte} {r : RowRecord} :
    s.row id = some r ↔ r ∈ s.rows ∧ r.id = id := by
  unfold State.row
  constructor
  · intro h
    exact ⟨List.mem_of_find?_eq_some h, State.row_id h⟩
  · rintro ⟨mem, rfl⟩
    cases found : s.rows.find? fun x => x.id == r.id with
    | none => exact absurd (beq_self_eq_true r.id) (List.find?_eq_none.1 found r mem)
    | some x =>
      have same : x.id = r.id := State.row_id found
      rw [List.inj_on_of_nodup_map distinct (List.mem_of_find?_eq_some found) mem same]

theorem State.row_congr {s t : State} (h : t.rows = s.rows) (id : Byte) : t.row id = s.row id := by
  unfold State.row
  rw [h]

theorem State.row_modRow (s : State) (id k : Byte) {f : RowRecord → RowRecord} (keeps : ∀ r, (f r).id = r.id) :
    (s.modRow id f).row k = (s.row k).map fun r => if k = id then f r else r := by
  have same : (fun r : RowRecord => r.id == k) ∘ (fun r => if r.id = id then f r else r) = fun r => r.id == k := by
    funext r
    rw [Function.comp_apply]
    split
    · rw [keeps]
    · rfl
  show (s.rows.map fun r => if r.id = id then f r else r).find? _ = _
  rw [List.find?_map, same]
  show (s.row k).map _ = _
  cases found : s.row k with
  | none => rfl
  | some r => rw [Option.map_some, Option.map_some, State.row_id found]

theorem State.modRow_ids (s : State) (id : Byte) {f : RowRecord → RowRecord} (keeps : ∀ r, (f r).id = r.id) :
    (s.modRow id f).rows.map RowRecord.id = s.rows.map RowRecord.id := by
  show (s.rows.map fun r => if r.id = id then f r else r).map _ = _
  rw [List.map_map]
  refine List.map_congr_left fun r _ => ?_
  show (if r.id = id then f r else r).id = r.id
  split
  · exact keeps r
  · rfl

/-- The row is present and OPEN. -/
def State.RowOpen (s : State) (id : Byte) : Prop := ∃ r, s.row id = some r ∧ r.state = .opened

theorem State.rowIs_opened {s : State} {id : Byte} : s.rowIs id .opened = true ↔ s.RowOpen id := by
  unfold State.rowIs State.RowOpen
  cases s.row id <;> simp

/-! ### Agreement of the table -/

/-- What the table and the claims ask of an entry: its row, its state, its claimant, its validity and its offset. -/
def Entry.key (e : Entry) : Byte × HoleState × Option Boom × Validity × Nat :=
  (e.row, e.holeState, e.claimant, e.validity, e.offset)

theorem Entry.key_eq {e f : Entry} (h : f.key = e.key) : f.row = e.row ∧ f.holeState = e.holeState ∧
    f.claimant = e.claimant ∧ f.validity = e.validity ∧ f.offset = e.offset := by
  simpa only [Entry.key, Prod.mk.injEq] using h

theorem Entry.settled_congr {e f : Entry} (h : f.holeState = e.holeState) (k : f.validity = e.validity) :
    f.settled = e.settled := by
  unfold Entry.settled
  rw [h, k]

/-- The record's counts are those of its row's entries (R7). -/
structure RowRecord.Counts (r : RowRecord) (s : State) : Prop where
  entries : r.entries = s.tallyIn r.id fun _ => true
  accepted : r.accepted = s.tallyIn r.id fun y => y == .accepted
  rejected : r.rejected = s.tallyIn r.id fun y => y == .rejected

/-- An entry with a final state that a parent of the backlog has (R21). -/
def HoleState.Final (x : HoleState) : Prop := x = .accepted ∨ x = .rejected

/-- Rows, entries and backlog agree, whatever the booms do. -/
structure State.TableSound (s : State) : Prop where
  size : s.rows.length ≤ 4
  distinct : (s.rows.map RowRecord.id).Nodup
  present : ∀ i e, s.entry i = some e → ∃ r, s.row e.row = some r
  counted : ∀ id r, s.row id = some r → r.Counts s
  named : ∀ i e, s.entry i = some e → e.claimant.isSome = e.holeState.isClaimed
  settled : ∀ i e, s.entry i = some e → s.RowOpen e.row ∨ e.settled = true
  parents : ∀ i ∈ s.backlog, ∃ e, s.entry i = some e ∧ e.holeState.Final ∧ s.RowOpen e.row
  once : s.backlog.Nodup

end Sys2Proof.Machine

/-! PROOFS. The operations of the Hole Table keep rows, entries and backlog in agreement (`State.TableSound`). -/

namespace Sys2Proof.Machine

/-! ### Changes of slots and rows -/

/-- Rows, backlog and the keys of the entries are the same. -/
structure State.SameTable (s t : State) : Prop where
  rows : t.rows = s.rows
  backlog : t.backlog = s.backlog
  keys : ∀ i, (t.entry i).map Entry.key = (s.entry i).map Entry.key

theorem State.SameTable.refl (s : State) : s.SameTable s := ⟨rfl, rfl, fun _ => rfl⟩

theorem State.SameTable.trans {s t u : State} (h : s.SameTable t) (k : t.SameTable u) : s.SameTable u :=
  ⟨k.rows.trans h.rows, k.backlog.trans h.backlog, fun i => (k.keys i).trans (h.keys i)⟩

theorem State.SameTable.of {s t : State} (slots : t.slots = s.slots) (rows : t.rows = s.rows) (backlog : t.backlog = s.backlog) :
    s.SameTable t := ⟨rows, backlog, fun i => by unfold State.entry; rw [slots]⟩

theorem State.SameTable.entry {s t : State} (h : s.SameTable t) {i : Slot} {f : Entry} (hf : t.entry i = some f) :
    ∃ e, s.entry i = some e ∧ f.row = e.row ∧ f.holeState = e.holeState ∧ f.claimant = e.claimant ∧
      f.validity = e.validity ∧ f.offset = e.offset := by
  have keys := h.keys i
  rw [hf, Option.map_some, eq_comm, Option.map_eq_some_iff] at keys
  obtain ⟨e, he, key⟩ := keys
  exact ⟨e, he, Entry.key_eq key.symm⟩

theorem State.SameTable.symm {s t : State} (h : s.SameTable t) : t.SameTable s :=
  ⟨h.rows.symm, h.backlog.symm, fun i => (h.keys i).symm⟩

theorem State.SameTable.tallyIn {s t : State} (h : s.SameTable t) (id : Byte) (g : HoleState → Bool) :
    t.tallyIn id g = s.tallyIn id g := by
  unfold State.tallyIn State.tally
  refine List.countP_congr fun i _ => ?_
  cases new : t.entry i with
  | none =>
    have keys := h.keys i
    rw [new, Option.map_none, eq_comm, Option.map_eq_none_iff] at keys
    rw [keys]
  | some f =>
    obtain ⟨e, he, row, state, _⟩ := h.entry new
    rw [he, Option.any_some, Option.any_some, row, state]

theorem State.RowOpen.congr {s t : State} (h : t.rows = s.rows) {id : Byte} (k : s.RowOpen id) : t.RowOpen id := by
  obtain ⟨r, row, opened⟩ := k
  exact ⟨r, (State.row_congr h id).trans row, opened⟩

theorem State.TableSound.congr {s t : State} (h : s.TableSound) (k : s.SameTable t) : t.TableSound where
  size := k.rows ▸ h.size
  distinct := k.rows ▸ h.distinct
  present i f hf := by
    obtain ⟨e, he, row, _⟩ := k.entry hf
    rw [row, State.row_congr k.rows]
    exact h.present i e he
  counted id r hr := by
    rw [State.row_congr k.rows] at hr
    obtain ⟨entries, accepted, rejected⟩ := h.counted id r hr
    constructor <;> rw [k.tallyIn] <;> assumption
  named i f hf := by
    obtain ⟨e, he, _, state, claimant, _⟩ := k.entry hf
    rw [state, claimant]
    exact h.named i e he
  settled i f hf := by
    obtain ⟨e, he, row, state, _, validity, _⟩ := k.entry hf
    rw [row, Entry.settled_congr state validity]
    exact (h.settled i e he).imp_left (.congr k.rows)
  parents i hi := by
    obtain ⟨e, he, final, opened⟩ := h.parents i (k.backlog ▸ hi)
    obtain ⟨f, hf, row, state, _⟩ := k.symm.entry he
    exact ⟨f, hf, state ▸ final, row ▸ opened.congr k.rows⟩
  once := k.backlog ▸ h.once

theorem State.RowOpen.modRow {s : State} {id k : Byte} {f : RowRecord → RowRecord} (keeps : ∀ r, (f r).id = r.id)
    (still : k = id → ∀ r, s.row k = some r → r.state = .opened → (f r).state = .opened) (h : s.RowOpen k) :
    (s.modRow id f).RowOpen k := by
  obtain ⟨r, row, opened⟩ := h
  refine ⟨_, (State.row_modRow s id k keeps).trans (congrArg _ row), ?_⟩
  split
  · rename_i own
    exact still own r row opened
  · exact opened

theorem State.TableSound.open_of_unsettled {s : State} (h : s.TableSound) {i : Slot} {e : Entry} (he : s.entry i = some e)
    (unsettled : e.settled = false) : s.RowOpen e.row :=
  (h.settled i e he).resolve_right fun settled => absurd (settled.symm.trans unsettled) nofun

theorem HoleState.unsettled_of_claimed {e : Entry} (h : e.holeState.isClaimed = true) : e.settled = false := by
  unfold Entry.settled
  cases state : e.holeState <;> simp_all [HoleState.isClaimed]

/-- A slot whose entry is not final is not in the backlog. -/
theorem State.TableSound.not_parent {s : State} (h : s.TableSound) {i : Slot}
    (k : ∀ e, s.entry i = some e → ¬ e.holeState.Final) : i ∉ s.backlog := by
  intro hi
  obtain ⟨e, he, final, _⟩ := h.parents i hi
  exact k e he final

/-- A slot's entry replaced within its row, with the row's counts brought in step. -/
theorem State.TableSound.replace {s : State} (h : s.TableSound) {i : Slot} {x : Option Entry} {id : Byte}
    {f : RowRecord → RowRecord} (old : ∀ e, s.entry i = some e → e.row = id) (away : i ∉ s.backlog)
    (present : ∃ r, s.row id = some r) (new : ∀ e, x = some e → e.row = id)
    (named : ∀ e, x = some e → e.claimant.isSome = e.holeState.isClaimed)
    (settled : ∀ e, x = some e → s.RowOpen id ∨ e.settled = true)
    (keeps : ∀ r, (f r).id = r.id) (state : ∀ r, (f r).state = r.state)
    (counts : ∀ r, s.row id = some r → r.Counts s →
      (f r).entries + ((s.entry i).any fun _ => true).toNat = r.entries + (x.any fun _ => true).toNat ∧
      (f r).accepted + ((s.entry i).any fun e => e.holeState == .accepted).toNat =
        r.accepted + (x.any fun e => e.holeState == .accepted).toNat ∧
      (f r).rejected + ((s.entry i).any fun e => e.holeState == .rejected).toNat =
        r.rejected + (x.any fun e => e.holeState == .rejected).toNat) :
    ((s.setEntry i x).modRow id f).TableSound := by
  have row : ∀ k, ((s.setEntry i x).modRow id f).row k = (s.row k).map fun r => if k = id then f r else r :=
    fun k => State.row_modRow (s.setEntry i x) id k keeps
  have entry : ∀ j, ((s.setEntry i x).modRow id f).entry j = if j = i then x else s.entry j := fun j => by
    exact State.entry_setEntry s i j x
  have tally : ∀ k g, ((s.setEntry i x).modRow id f).tallyIn k g = (s.setEntry i x).tallyIn k g := fun _ _ => rfl
  have opened : ∀ {k}, s.RowOpen k → ((s.setEntry i x).modRow id f).RowOpen k := fun k =>
    State.RowOpen.modRow keeps (fun _ r _ hr => (state r).trans hr) (k.congr (t := s.setEntry i x) rfl)
  constructor
  · exact (List.length_map _).trans_le h.size
  · rw [State.modRow_ids _ _ keeps]
    exact h.distinct
  · intro j e he
    rw [entry] at he
    split at he
    · obtain ⟨r, hr⟩ := present
      exact ⟨_, (row e.row).trans (by rw [new e he, hr]; rfl)⟩
    · obtain ⟨r, hr⟩ := h.present j e he
      exact ⟨_, (row e.row).trans (by rw [hr]; rfl)⟩
  · intro k r' hr'
    rw [row, Option.map_eq_some_iff] at hr'
    obtain ⟨r, hr, rfl⟩ := hr'
    have counted := h.counted k r hr
    have same := State.row_id hr
    obtain ⟨entries, accepted, rejected⟩ := counted
    by_cases own : k = id
    · subst own
      obtain ⟨entries', accepted', rejected'⟩ := counts r hr ⟨entries, accepted, rejected⟩
      rw [same] at entries accepted rejected
      have all := State.tallyIn_setEntry_own old new fun _ => true
      have yes := State.tallyIn_setEntry_own old new fun y => y == .accepted
      have no := State.tallyIn_setEntry_own old new fun y => y == .rejected
      rw [if_pos rfl]
      constructor <;> rw [keeps, same, tally] <;> omega
    · rw [if_neg own]
      constructor <;> rw [same, tally, State.tallyIn_setEntry_other own old new, ← same] <;> assumption
  · intro j e he
    rw [entry] at he
    split at he
    · exact named e he
    · exact h.named j e he
  · intro j e he
    rw [entry] at he
    split at he
    · rw [new e he]
      exact (settled e he).imp_left opened
    · exact (h.settled j e he).imp_left opened
  · intro j hj
    obtain ⟨e, he, final, row⟩ := h.parents j hj
    refine ⟨e, ?_, final, opened row⟩
    rw [entry, if_neg fun own : j = i => away (own ▸ hj)]
    exact he
  · exact h.once

theorem State.modRow_self (s : State) (id : Byte) : s.modRow id (fun r => r) = s := by
  unfold State.modRow
  simp only [ite_self, List.map_id']
  rfl

/-- An entry that is neither accepted nor rejected given another such state, or another claimant or validity. -/
theorem State.TableSound.restate {s : State} (h : s.TableSound) {i : Slot} {e f : Entry} (he : s.entry i = some e)
    (row : f.row = e.row) (before : ¬ e.holeState.Final) (after : ¬ f.holeState.Final)
    (named : f.claimant.isSome = f.holeState.isClaimed) (opened : s.RowOpen e.row ∨ f.settled = true) :
    (s.setEntry i (some f)).TableSound := by
  have away : i ∉ s.backlog := h.not_parent fun x hx => by
    rw [← Option.some.inj (he.symm.trans hx)]
    exact before
  have not : ∀ {x : HoleState}, ¬ x.Final → (x == .accepted) = false ∧ (x == .rejected) = false := fun k =>
    ⟨beq_false_of_ne fun eq => k (.inl eq), beq_false_of_ne fun eq => k (.inr eq)⟩
  have replaced := h.replace (x := some f) (id := e.row) (f := fun r => r)
    (fun x hx => by rw [← Option.some.inj (he.symm.trans hx)]) away (h.present i e he)
    (fun x hx => by rw [← Option.some.inj hx]; exact row) (fun x hx => by rw [← Option.some.inj hx]; exact named)
    (fun x hx => by rw [← Option.some.inj hx]; exact opened) (fun _ => rfl) (fun _ => rfl) fun r _ _ => by
      rw [he]
      simp only [Option.any_some, not before, not after, and_self]
  rw [State.modRow_self] at replaced
  exact replaced

/-- A row changed in its state or its plan-ended flag: the row stays OPEN, or its entries are settled and the backlog
holds none of its parents. -/
theorem State.TableSound.modRow {s : State} (h : s.TableSound) {id : Byte} {f : RowRecord → RowRecord}
    (keeps : ∀ r, (f r).id = r.id)
    (counts : ∀ r, (f r).entries = r.entries ∧ (f r).accepted = r.accepted ∧ (f r).rejected = r.rejected)
    (opened : (∀ r, s.row id = some r → r.state = .opened → (f r).state = .opened) ∨
      (∀ i e, s.entry i = some e → e.row = id → e.settled = true) ∧ ∀ i ∈ s.backlog, ∀ e, s.entry i = some e → e.row ≠ id) :
    (s.modRow id f).TableSound where
  size := (List.length_map _).trans_le h.size
  distinct := by
    rw [State.modRow_ids _ _ keeps]
    exact h.distinct
  present i e he := by
    obtain ⟨r, hr⟩ := h.present i e he
    exact ⟨_, (State.row_modRow s id e.row keeps).trans (congrArg _ hr)⟩
  counted k r' hr' := by
    rw [State.row_modRow s id k keeps, Option.map_eq_some_iff] at hr'
    obtain ⟨r, hr, rfl⟩ := hr'
    obtain ⟨entries, accepted, rejected⟩ := h.counted k r hr
    obtain ⟨entries', accepted', rejected'⟩ := counts r
    split
    · exact ⟨by rw [keeps, entries']; exact entries, by rw [keeps, accepted']; exact accepted,
        by rw [keeps, rejected']; exact rejected⟩
    · exact ⟨entries, accepted, rejected⟩
  named := h.named
  settled i e he := by
    rcases h.settled i e he with row | settled
    · by_cases own : e.row = id
      · rcases opened with still | ⟨all, _⟩
        · exact .inl (.modRow keeps (fun _ r hr => still r (own ▸ hr)) row)
        · exact .inr (all i e he own)
      · exact .inl (.modRow keeps (fun same => absurd same own) row)
    · exact .inr settled
  parents i hi := by
    obtain ⟨e, he, final, row⟩ := h.parents i hi
    refine ⟨e, he, final, .modRow keeps (fun own r hr k => ?_) row⟩
    rcases opened with still | ⟨_, none⟩
    · exact still r (own ▸ hr) k
    · exact absurd own (none i hi e he)
  once := h.once

theorem State.rowSettled_iff {s : State} {id : Byte} :
    s.rowSettled id = true ↔ ∀ i e, s.entry i = some e → e.row = id → e.settled = true := by
  unfold State.rowSettled
  rw [List.all_eq_true]
  constructor
  · intro h i e he row
    have settled := h i (State.mem_slotsOfRow.2 ⟨e, he, row⟩)
    rw [he] at settled
    exact settled
  · intro h i hi
    obtain ⟨e, he, row⟩ := State.mem_slotsOfRow.1 hi
    rw [he]
    exact h i e he row

theorem State.backlogHas_iff {s : State} {id : Byte} :
    s.backlogHas id = true ↔ ∃ i ∈ s.backlog, ∃ e, s.entry i = some e ∧ e.row = id := by
  unfold State.backlogHas
  rw [List.any_eq_true]
  refine exists_congr fun i => and_congr_right fun _ => ?_
  cases s.entry i <;> simp

theorem State.TableSound.closingCheck {s : State} (h : s.TableSound) (id : Byte) : (s.closingCheck id).TableSound := by
  rcases State.closingCheck_cases s id with ⟨r, _, _, _, settled, parents, closed⟩ | same
  · rw [closed]
    have swapped : (s.modRow id fun r => { r with state := .closed }).TableSound := by
      refine h.modRow (fun _ => rfl) (by exact fun _ => ⟨rfl, rfl, rfl⟩)
        (.inr ⟨State.rowSettled_iff.1 settled, fun i hi e he row => ?_⟩)
      exact Bool.eq_false_iff.1 parents (State.backlogHas_iff.2 ⟨i, hi, e, he, row⟩)
    exact swapped.congr (.of rfl rfl rfl)
  · rw [same]
    exact h

/-! ### The backlog -/

theorem State.TableSound.withBacklog {s : State} (h : s.TableSound) {l : List Slot}
    (parents : ∀ i ∈ l, ∃ e, s.entry i = some e ∧ e.holeState.Final ∧ s.RowOpen e.row) (once : l.Nodup) :
    (s.setBacklog l).TableSound :=
  ⟨h.size, h.distinct, h.present, fun id r hr => by
    obtain ⟨entries, accepted, rejected⟩ := h.counted id r hr
    exact ⟨entries, accepted, rejected⟩, h.named, h.settled, parents, once⟩

theorem State.TableSound.setBacklog {s : State} (h : s.TableSound) {l : List Slot} (sub : l.Sublist s.backlog) :
    (s.setBacklog l).TableSound := h.withBacklog (fun i hi => h.parents i (sub.subset hi)) (h.once.sublist sub)

theorem State.nextFree_empty {s : State} {i : Slot} (h : s.nextFree = some i) : s.entry i = none :=
  Option.isNone_iff_eq_none.1 (List.find?_some (p := fun i => (s.entry i).isNone) (l := allSlots) h)

theorem State.TableSound.writeSlot {s : State} (h : s.TableSound) {i : Slot} {e : Entry} (free : s.entry i = none)
    (opened : s.RowOpen e.row) (planned : e.holeState = .planned) (unclaimed : e.claimant = none) :
    (s.writeSlot i e).TableSound := by
  have written : ((s.setEntry i (some e)).modRow e.row fun r => { r with entries := r.entries + 1 }).TableSound := by
    refine h.replace (f := fun r => { r with entries := r.entries + 1 }) (fun x hx => absurd (free.symm.trans hx) nofun)
      (h.not_parent fun x hx => absurd (free.symm.trans hx) nofun) (opened.imp fun _ => And.left)
      (fun x hx => by rw [← Option.some.inj hx]) (fun x hx => ?_) (fun x hx => .inl opened) (fun _ => rfl)
      (fun _ => rfl) fun r _ _ => ?_
    · rw [← Option.some.inj hx, planned, unclaimed]
      rfl
    · rw [free, Option.any_some, Option.any_some, Option.any_some, planned]
      exact ⟨rfl, rfl, rfl⟩
  unfold State.writeSlot
  simp only []
  split <;> exact written.congr (.of rfl rfl rfl)

theorem State.TableSound.emptySlot {s : State} (h : s.TableSound) {i : Slot} (away : i ∉ s.backlog) :
    (s.emptySlot i).TableSound := by
  unfold State.emptySlot
  split
  · rename_i e he
    have emptied : ((s.setEntry i none).modRow e.row fun r => r.without e).TableSound := by
      refine h.replace (f := fun r => r.without e) (fun x hx => by rw [← Option.some.inj (he.symm.trans hx)]) away
        (h.present i e he) (fun _ => nofun) (fun _ => nofun) (fun _ => nofun) (fun _ => rfl) (fun _ => rfl)
        fun r hr counts => ?_
      obtain ⟨entries, accepted, rejected⟩ := counts
      rw [State.row_id hr] at entries accepted rejected
      have all := State.tallyIn_pos he (g := fun _ => true) rfl
      have yes : e.holeState = .accepted → 0 < r.accepted := fun k => by
        rw [accepted]
        exact State.tallyIn_pos he (beq_iff_eq.2 k)
      have no : e.holeState = .rejected → 0 < r.rejected := fun k => by
        rw [rejected]
        exact State.tallyIn_pos he (beq_iff_eq.2 k)
      rw [he]
      simp only [RowRecord.without, Option.any_some, Option.any_none, Bool.toNat_true, Bool.toNat_false]
      refine ⟨by omega, ?_, ?_⟩
      · split
        · rename_i k
          have := yes k
          rw [k]
          simp only [beq_self_eq_true, Bool.toNat_true]
          omega
        · rename_i k
          rw [beq_false_of_ne k]
          rfl
      · split
        · rename_i k
          have := no k
          rw [k]
          simp only [beq_self_eq_true, Bool.toNat_true]
          omega
        · rename_i k
          rw [beq_false_of_ne k]
          rfl
    exact emptied.congr (.of rfl rfl rfl)
  · exact h

theorem State.TableSound.writeSupplement {s : State} (h : s.TableSound) {i : Slot}
    (opened : ∀ e, s.entry i = some e → s.RowOpen e.row) : (s.writeSupplement i).TableSound := by
  unfold State.writeSupplement
  split
  · rename_i j e free he
    exact h.writeSlot (State.nextFree_empty free) (opened e he) rfl rfl
  · exact h

theorem State.TableSound.drain {s : State} (n : Nat) (h : s.TableSound) : (s.drain n).TableSound := by
  induction n generalizing s with
  | zero => exact h
  | succ n ih =>
    unfold State.drain
    split
    · exact h
    · rename_i i rest backlog
      have taken : (s.setBacklog rest).TableSound := h.setBacklog (by rw [backlog]; exact List.sublist_cons_self i rest)
      obtain ⟨f, hf, _, opened⟩ := h.parents i (by rw [backlog]; exact List.mem_cons_self)
      split
      · exact h
      · split
        · refine ih ((taken.writeSupplement fun e he => ?_).closingCheck _)
          obtain rfl := Option.some.inj (hf.symm.trans he)
          exact opened.congr rfl
        · exact ih taken

/-! ### Verdicts -/

/-- A mark on an entry does not change its key. -/
theorem State.SameTable.modEntry (s : State) (i : Slot) {f : Entry → Entry} (h : ∀ e, (f e).key = e.key) :
    s.SameTable (s.modEntry i f) := by
  refine ⟨by simp, by simp, fun j => ?_⟩
  rw [State.entry_modEntry]
  split
  · rw [Option.map_map]
    exact congrArg (fun g => (s.entry j).map g) (funext h)
  · rfl

theorem State.TableSound.handleSupplement {s : State} (h : s.TableSound) {i : Slot} (away : i ∉ s.backlog)
    (final : ∀ e, s.entry i = some e → e.holeState.Final ∧ s.RowOpen e.row) : (s.handleSupplement i).TableSound := by
  unfold State.handleSupplement
  split
  · rename_i e he
    obtain ⟨state, opened⟩ := final e he
    split
    · exact h.congr (.trans (.modEntry s i (f := Entry.markRefer) fun _ => rfl) (.of rfl rfl rfl))
    · split
      · split
        · have waits : (s.setBacklog (s.backlog ++ [i])).TableSound :=
            h.withBacklog (fun j hj => (List.mem_append.1 hj).elim (h.parents j) fun last => by
                rw [List.mem_singleton.1 last]
                exact ⟨e, he, state, opened⟩)
              (List.nodup_append.2 ⟨h.once, List.nodup_singleton i, fun j hj k hk same =>
                away (List.mem_singleton.1 hk ▸ same ▸ hj)⟩)
          exact waits.congr (.of rfl rfl rfl)
        · exact h.congr (.trans (.modEntry s i (f := Entry.markLost) fun _ => rfl) (.of rfl rfl rfl))
      · exact h.writeSupplement fun f hf => (final f hf).2
  · exact h

theorem VerdictReason.final_cases (v : VerdictReason) :
    v.final = .accepted ∨ v.final = .rejected ∨ v.final = .tested ∧ v = .dry := by cases v <;> simp [VerdictReason.final]

/-- A verdict of a claimed entry (R5). -/
theorem State.TableSound.tableVerdict {s : State} (h : s.TableSound) {i : Slot} {e : Entry} (he : s.entry i = some e)
    (claimed : e.claimant.isSome = true) (v : VerdictReason) : (s.tableVerdict i v).TableSound := by
  have state : e.holeState.isClaimed = true := (h.named i e he).symm.trans claimed
  have opened := h.open_of_unsettled he (HoleState.unsettled_of_claimed state)
  have unfinal : ¬ e.holeState.Final := by
    rintro (k | k) <;> rw [k] at state <;> exact absurd state nofun
  have away : i ∉ s.backlog := h.not_parent fun x hx => by
    rw [← Option.some.inj (he.symm.trans hx)]
    exact unfinal
  have judged : ((s.setEntry i (some (e.withVerdict v))).modRow e.row fun r => r.withVerdict v.final).TableSound := by
    refine h.replace (f := fun r => r.withVerdict v.final) (fun x hx => by rw [← Option.some.inj (he.symm.trans hx)]) away
      (h.present i e he) (fun x hx => by rw [← Option.some.inj hx]; rfl) (fun x hx => ?_)
      (fun x hx => .inl opened) (fun _ => rfl) (fun _ => rfl) fun r _ _ => ?_
    · rw [← Option.some.inj hx]
      show false = v.final.isClaimed
      cases v <;> rfl
    · rw [he]
      have accepted : (e.holeState == .accepted) = false := beq_false_of_ne fun k => unfinal (.inl k)
      have rejected : (e.holeState == .rejected) = false := beq_false_of_ne fun k => unfinal (.inr k)
      simp only [Option.any_some, accepted, rejected]
      show _ ∧ (r.withVerdict v.final).accepted + 0 = r.accepted + (v.final == .accepted).toNat ∧
        (r.withVerdict v.final).rejected + 0 = r.rejected + (v.final == .rejected).toNat
      cases v <;> exact ⟨rfl, rfl, rfl⟩
  have opened' : ((s.setEntry i (some (e.withVerdict v))).modRow e.row fun r => r.withVerdict v.final).RowOpen e.row :=
    .modRow (fun _ => rfl) (by exact fun _ _ _ k => k) (opened.congr (t := s.setEntry i _) rfl)
  unfold State.tableVerdict
  rw [he]
  simp only []
  split
  · rename_i due
    refine .closingCheck (judged.handleSupplement away fun f hf => ?_) e.row
    have same : f = e.withVerdict v := Option.some.inj (hf.symm.trans (State.entry_setEntry_same s i _))
    refine ⟨?_, ?_⟩
    · rw [same]
      show v.final.Final
      rcases v.final_cases with k | k | ⟨_, k⟩
      · exact .inl k
      · exact .inr k
      · rw [k] at due
        exact absurd due nofun
    · rw [same]
      exact opened'
  · exact judged.closingCheck e.row

end Sys2Proof.Machine

/-! PROOFS. The claims of the table and the booms that hold them, and the table commands, which leave every claim. -/

namespace Sys2Proof.Machine

/-! ### Claims -/

/-- What the part asks of a claimed entry: its boom, its row, its validity and its offset. -/
structure Claim where
  boom : Boom
  row : Byte
  validity : Validity
  offset : Nat

/-- The claim that names the entry, where one does. -/
def Entry.claim (e : Entry) : Option Claim := e.claimant.map fun b => ⟨b, e.row, e.validity, e.offset⟩

/-- The claim on a slot. -/
def State.claimOf (s : State) (i : Slot) : Option Claim := (s.entry i).bind Entry.claim

theorem State.claimOf_eq_some {s : State} {i : Slot} {c : Claim} : s.claimOf i = some c ↔
    ∃ e, s.entry i = some e ∧ e.claimant = some c.boom ∧ e.row = c.row ∧ e.validity = c.validity ∧ e.offset = c.offset := by
  obtain ⟨b, row, validity, offset⟩ := c
  unfold State.claimOf Entry.claim
  rw [Option.bind_eq_some_iff]
  refine exists_congr fun e => and_congr_right fun _ => ?_
  simp [Option.map_eq_some_iff]

/-- Two claims of one row are the min separation apart, but where one is a dry run (R36). -/
def Claim.Apart (c d : Claim) (separation : Nat) : Prop :=
  c.row = d.row → c.validity ≠ .held → d.validity ≠ .held →
    separation ≤ c.offset - d.offset ∨ separation ≤ d.offset - c.offset

/-- Claims and booms agree, and the claims are apart. -/
structure State.ClaimsSound (s : State) : Prop where
  held : ∀ i c, s.claimOf i = some c → (s.unit c.boom).claimHeld = true ∧ (s.unit c.boom).workSlot = some i
  working : ∀ b, (s.unit b).claimHeld = true → (s.unit b).cycle ≠ .idle ∧ (s.unit b).cycle ≠ .halted ∧
    ∃ i c, (s.unit b).workSlot = some i ∧ s.claimOf i = some c ∧ c.boom = b
  apart : ∀ i j c d, s.claimOf i = some c → s.claimOf j = some d → c.boom = .A → d.boom = .B →
    c.Apart d s.params.settings.separation

/-- The three invariants of the table, taken apart into the table by itself and the claims. -/
theorem State.tableAgrees_iff (s : State) :
    s.RowsAgree ∧ s.ClaimsAgree ∧ s.ClaimsApart ↔ s.TableSound ∧ s.ClaimsSound := by
  constructor
  · rintro ⟨⟨size, distinct, present, counted⟩, ⟨_, _, named, held, working, settled, parents, once⟩, apart⟩
    have found : ∀ {id r}, s.row id = some r ↔ r ∈ s.rows ∧ r.id = id := State.row_eq_some distinct
    have counts : ∀ r ∈ s.rows, r.Counts s := by
      intro r hr
      obtain ⟨entries, accepted, rejected⟩ := counted r hr
      exact ⟨entries.trans (s.slotsOfRow_length _), accepted.trans (s.countIn_eq _ _), rejected.trans (s.countIn_eq _ _)⟩
    refine ⟨⟨size, distinct, fun i e he => ?_, fun id r hr => counts r (found.1 hr).1, named, fun i e he => ?_,
      fun i hi => ?_, once⟩, ⟨fun i c hc => ?_, fun b hb => ?_, fun i j c d hc hd a b row lc ld => ?_⟩⟩
    · obtain ⟨r, hr, row⟩ := present i e he
      exact ⟨r, found.2 ⟨hr, row⟩⟩
    · obtain ⟨r, hr, row⟩ := present i e he
      by_cases opened : r.state = .opened
      · exact .inl ⟨r, found.2 ⟨hr, row⟩, opened⟩
      · exact .inr (settled r hr opened i e he row.symm)
    · obtain ⟨e, r, he, final, hr, row, opened⟩ := parents i hi
      exact ⟨e, he, final, r, found.2 ⟨hr, row⟩, opened⟩
    · obtain ⟨e, he, claimant, _⟩ := State.claimOf_eq_some.1 hc
      exact held i e c.boom he claimant
    · obtain ⟨idle, halted, i, e, slot, he, claimant⟩ := working b hb
      exact ⟨idle, halted, i, ⟨b, e.row, e.validity, e.offset⟩, slot,
        State.claimOf_eq_some.2 ⟨e, he, claimant, rfl, rfl, rfl⟩, rfl⟩
    · obtain ⟨e, he, claimant, rowE, validityE, offsetE⟩ := State.claimOf_eq_some.1 hc
      obtain ⟨f, hf, claimantF, rowF, validityF, offsetF⟩ := State.claimOf_eq_some.1 hd
      rw [← offsetE, ← offsetF]
      exact apart i j e f he hf (a ▸ claimant) (b ▸ claimantF) (rowE.trans (row.trans rowF.symm)) (validityE ▸ lc)
        (validityF ▸ ld)
  · rintro ⟨table, claims⟩
    have found : ∀ {id r}, s.row id = some r ↔ r ∈ s.rows ∧ r.id = id := State.row_eq_some table.distinct
    have present : ∀ i e, s.entry i = some e → ∃ r ∈ s.rows, r.id = e.row := fun i e he => by
      obtain ⟨r, hr⟩ := table.present i e he
      exact ⟨r, found.1 hr⟩
    have claim : ∀ {i e b}, s.entry i = some e → e.claimant = some b →
        s.claimOf i = some ⟨b, e.row, e.validity, e.offset⟩ := fun he k =>
      State.claimOf_eq_some.2 ⟨_, he, k, rfl, rfl, rfl⟩
    refine ⟨⟨table.size, table.distinct, present, fun r hr => ?_⟩, ⟨table.distinct, present, table.named,
      fun i e b he k => claims.held i _ (claim he k), fun b hb => ?_, fun r hr shut i e he row => ?_, fun i hi => ?_,
      table.once⟩, fun i j e f he hf a b row lc ld => claims.apart i j _ _ (claim he a) (claim hf b) rfl rfl row lc ld⟩
    · obtain ⟨entries, accepted, rejected⟩ := table.counted r.id r (found.2 ⟨hr, rfl⟩)
      exact ⟨entries.trans (s.slotsOfRow_length _).symm, accepted.trans (s.countIn_eq _ _).symm,
        rejected.trans (s.countIn_eq _ _).symm⟩
    · obtain ⟨idle, halted, i, c, slot, hc, own⟩ := claims.working b hb
      obtain ⟨e, he, claimant, _⟩ := State.claimOf_eq_some.1 hc
      exact ⟨idle, halted, i, e, slot, he, own ▸ claimant⟩
    · refine (table.settled i e he).resolve_left fun ⟨x, hx, opened⟩ => shut ?_
      rw [row, found.2 ⟨hr, rfl⟩] at hx
      rw [Option.some.inj hx]
      exact opened
    · obtain ⟨e, he, final, r, hr, opened⟩ := table.parents i hi
      exact ⟨e, r, he, final, (found.1 hr).1, (found.1 hr).2, opened⟩

/-- The table and its claims agree. -/
structure State.TableAgrees (s : State) : Prop where
  table : s.TableSound
  claims : s.ClaimsSound

/-- No claim is different. -/
def State.SameClaims (s t : State) : Prop := ∀ i, t.claimOf i = s.claimOf i

/-- The booms keep their claims: a boom that holds one has the same work slot, and does not go to IDLE or HALTED. -/
structure State.UnitsKeep (s t : State) : Prop where
  claimHeld : ∀ b, (t.unit b).claimHeld = (s.unit b).claimHeld
  workSlot : ∀ b, (s.unit b).claimHeld = true → (t.unit b).workSlot = (s.unit b).workSlot
  busy : ∀ b, (s.unit b).claimHeld = true → (s.unit b).cycle ≠ .idle → (s.unit b).cycle ≠ .halted →
    (t.unit b).cycle ≠ .idle ∧ (t.unit b).cycle ≠ .halted
  separation : t.params.settings.separation = s.params.settings.separation

theorem State.SameClaims.refl (s : State) : s.SameClaims s := fun _ => rfl

theorem State.SameClaims.trans {s t u : State} (h : s.SameClaims t) (k : t.SameClaims u) : s.SameClaims u :=
  fun i => (k i).trans (h i)

theorem State.SameClaims.of {s t : State} (h : t.slots = s.slots) : s.SameClaims t := fun i => by
  unfold State.claimOf State.entry
  rw [h]

theorem State.SameTable.sameClaims {s t : State} (h : s.SameTable t) : s.SameClaims t := by
  intro i
  have forward : ∀ {s t : State} {c}, s.SameTable t → t.claimOf i = some c → s.claimOf i = some c := by
    intro s t c h hc
    obtain ⟨f, hf, claimant, row, validity, offset⟩ := State.claimOf_eq_some.1 hc
    obtain ⟨e, he, row', _, claimant', validity', offset'⟩ := h.entry hf
    exact State.claimOf_eq_some.2 ⟨e, he, claimant' ▸ claimant, row' ▸ row, validity' ▸ validity, offset' ▸ offset⟩
  exact Option.ext fun c => ⟨forward h, forward h.symm⟩

theorem State.UnitsKeep.of {s t : State} (units : t.units = s.units) (params : t.params = s.params) : s.UnitsKeep t := by
  have unit : ∀ b, t.unit b = s.unit b := fun b => by unfold State.unit; rw [units]
  refine ⟨fun b => by rw [unit], fun b _ => by rw [unit], fun b _ idle halted => ?_, by rw [params]⟩
  rw [unit]
  exact ⟨idle, halted⟩

theorem State.UnitsKeep.trans {s t u : State} (h : s.UnitsKeep t) (k : t.UnitsKeep u) : s.UnitsKeep u where
  claimHeld b := (k.claimHeld b).trans (h.claimHeld b)
  workSlot b x := (k.workSlot b ((h.claimHeld b).trans x)).trans (h.workSlot b x)
  busy b x idle halted := by
    obtain ⟨idle, halted⟩ := h.busy b x idle halted
    exact k.busy b ((h.claimHeld b).trans x) idle halted
  separation := k.separation.trans h.separation

theorem State.ClaimsSound.congr {s t : State} (h : s.ClaimsSound) (claims : s.SameClaims t) (units : s.UnitsKeep t) :
    t.ClaimsSound where
  held i c hc := by
    obtain ⟨held, slot⟩ := h.held i c (claims i ▸ hc)
    exact ⟨(units.claimHeld _).trans held, (units.workSlot _ held).trans slot⟩
  working b hb := by
    have held := (units.claimHeld b).symm.trans hb
    obtain ⟨idle, halted, i, c, slot, hc, own⟩ := h.working b held
    obtain ⟨idle', halted'⟩ := units.busy b held idle halted
    exact ⟨idle', halted', i, c, (units.workSlot b held).trans slot, (claims i).trans hc, own⟩
  apart i j c d hc hd a b := by
    rw [units.separation]
    exact h.apart i j c d (claims i ▸ hc) (claims j ▸ hd) a b

theorem State.TableOnly.unitsKeep {s t : State} (h : s.TableOnly t) : s.UnitsKeep t := by
  obtain ⟨_, _, _, _, rfl⟩ := h
  exact .of rfl rfl

/-! ### The table's operations and the claims -/

theorem State.claimOf_setEntry (s : State) (i j : Slot) (x : Option Entry) :
    (s.setEntry i x).claimOf j = if j = i then x.bind Entry.claim else s.claimOf j := by
  unfold State.claimOf
  rw [State.entry_setEntry]
  split <;> rfl

/-- A slot without a claim given an entry without one. -/
theorem State.SameClaims.setEntry {s : State} {i : Slot} {x : Option Entry} (before : s.claimOf i = none)
    (after : x.bind Entry.claim = none) : s.SameClaims (s.setEntry i x) := by
  intro j
  rw [State.claimOf_setEntry]
  split
  · rename_i own
    rw [own, before, after]
  · rfl

theorem Entry.claim_eq_none {e : Entry} (h : e.claimant = none) : e.claim = none := by
  unfold Entry.claim
  rw [h]
  rfl

theorem State.claimOf_eq_none {s : State} {i : Slot} {e : Entry} (he : s.entry i = some e) (h : e.claimant = none) :
    s.claimOf i = none := by
  unfold State.claimOf
  rw [he]
  exact Entry.claim_eq_none h

@[simp] theorem State.writeSlot_slots (s : State) (i : Slot) (e : Entry) :
    (s.writeSlot i e).slots = (s.setEntry i (some e)).slots := by
  unfold State.writeSlot
  simp only []
  split <;> rfl

theorem State.emptySlot_slots {s : State} {i : Slot} {e : Entry} (h : s.entry i = some e) :
    (s.emptySlot i).slots = (s.setEntry i none).slots := by
  unfold State.emptySlot
  rw [h]
  rfl

@[simp] theorem State.entry_writeSlot (s : State) (i : Slot) (e : Entry) (j : Slot) :
    (s.writeSlot i e).entry j = (s.setEntry i (some e)).entry j := by
  unfold State.entry
  rw [State.writeSlot_slots]

theorem State.entry_emptySlot (s : State) (i j : Slot) :
    (s.emptySlot i).entry j = if j = i then none else s.entry j := by
  cases h : s.entry i with
  | some e =>
    unfold State.entry
    rw [State.emptySlot_slots h]
    exact State.entry_setEntry s i j none
  | none =>
    unfold State.emptySlot
    rw [h]
    show s.entry j = _
    split
    · rename_i own
      rw [own, h]
    · rfl

theorem State.SameClaims.writeSlot {s : State} {i : Slot} {e : Entry} (free : s.entry i = none) (unclaimed : e.claimant = none) :
    s.SameClaims (s.writeSlot i e) := by
  have written : s.SameClaims (s.setEntry i (some e)) :=
    .setEntry (by unfold State.claimOf; rw [free]; rfl) (Entry.claim_eq_none unclaimed)
  exact written.trans (.of (State.writeSlot_slots s i e))

theorem State.SameClaims.emptySlot {s : State} {i : Slot} (unclaimed : s.claimOf i = none) : s.SameClaims (s.emptySlot i) := by
  intro j
  unfold State.claimOf at *
  rw [State.entry_emptySlot]
  split
  · rename_i own
    rw [own, unclaimed]
    rfl
  · rfl

theorem State.SameClaims.closingCheck (s : State) (id : Byte) : s.SameClaims (s.closingCheck id) :=
  .of (State.closingCheck_slots s id)

theorem State.SameClaims.writeSupplement (s : State) (i : Slot) : s.SameClaims (s.writeSupplement i) := by
  unfold State.writeSupplement
  split
  · rename_i free _
    exact .writeSlot (State.nextFree_empty free) rfl
  · exact .refl s

theorem State.SameClaims.drain (n : Nat) (s : State) : s.SameClaims (s.drain n) := by
  induction n generalizing s with
  | zero => exact .refl s
  | succ n ih =>
    unfold State.drain
    split
    · exact .refl s
    · rename_i i rest _
      have taken : s.SameClaims (s.setBacklog rest) := .of rfl
      split
      · exact .refl s
      · split
        · exact .trans taken (.trans (.writeSupplement _ i) (.trans (.closingCheck _ _) (ih _)))
        · exact taken.trans (ih _)

theorem State.SameClaims.modEntry (s : State) (i : Slot) {f : Entry → Entry} (h : ∀ e, (f e).key = e.key) :
    s.SameClaims (s.modEntry i f) := (State.SameTable.modEntry s i h).sameClaims

theorem State.SameClaims.handleSupplement (s : State) (i : Slot) : s.SameClaims (s.handleSupplement i) := by
  have marked : ∀ {f : Entry → Entry}, (∀ e, (f e).key = e.key) → s.SameClaims ((s.modEntry i f).post .table) :=
    fun h => .trans (.modEntry s i h) (.of rfl)
  unfold State.handleSupplement
  split
  · split
    · exact marked fun _ => rfl
    · split
      · split
        · exact .of rfl
        · exact marked fun _ => rfl
      · exact .writeSupplement s i
  · exact .refl s

/-- A verdict ends the claim on its slot, and no other. -/
theorem State.claimOf_tableVerdict {s : State} {i : Slot} {e : Entry} (he : s.entry i = some e) (v : VerdictReason) (j : Slot) :
    (s.tableVerdict i v).claimOf j = if j = i then none else s.claimOf j := by
  have judged : ((s.setEntry i (some (e.withVerdict v))).modRow e.row fun r => r.withVerdict v.final).claimOf j =
      if j = i then none else s.claimOf j := by
    refine (State.claimOf_setEntry s i j (some (e.withVerdict v))).trans ?_
    rw [Option.bind_some, Entry.claim_eq_none rfl]
  unfold State.tableVerdict
  rw [he]
  simp only []
  rw [State.SameClaims.closingCheck _ _ j]
  split
  · rw [State.SameClaims.handleSupplement _ i j]
    exact judged
  · exact judged

/-! ### Table commands -/

theorem State.SameTable.clearDrained (s : State) (row : Byte) : s.SameTable (s.clearDrained row) := by
  unfold State.clearDrained
  induction s.slotsOfRow row generalizing s with
  | nil => exact .refl s
  | cons i rest ih => exact .trans (.modEntry s i (f := fun e => { e with drained := false }) fun _ => rfl) (ih _)

/-- Slots without claims and parents emptied one after the other. -/
theorem State.TableSound.emptySlots (l : List Slot) {s : State} (h : s.TableSound)
    (away : ∀ i ∈ l, i ∉ s.backlog ∧ s.claimOf i = none) :
    (l.foldl State.emptySlot s).TableSound ∧ s.SameClaims (l.foldl State.emptySlot s) := by
  induction l generalizing s with
  | nil => exact ⟨h, .refl s⟩
  | cons i rest ih =>
    obtain ⟨parent, claim⟩ := away i List.mem_cons_self
    have same : s.SameClaims (s.emptySlot i) := .emptySlot claim
    obtain ⟨_, _, _, frame⟩ := State.emptySlot_frame s i
    have backlog : (s.emptySlot i).backlog = s.backlog := by rw [frame]
    obtain ⟨sound, claims⟩ := ih (h.emptySlot parent) fun j hj => by
      rw [backlog, same j]
      exact away j (List.mem_cons_of_mem i hj)
    exact ⟨sound, same.trans claims⟩

theorem State.entry_emptySlots (l : List Slot) (s : State) (j : Slot) :
    (l.foldl State.emptySlot s).entry j = if j ∈ l then none else s.entry j := by
  induction l generalizing s with
  | nil => rfl
  | cons i rest ih =>
    rw [List.foldl_cons, ih, State.entry_emptySlot]
    by_cases own : j = i
    · simp [own]
    · simp [own]

/-- The record of a row without entries removed (R16). -/
theorem State.TableSound.dropRow {s : State} (h : s.TableSound) {id : Byte} (none : ∀ i e, s.entry i = some e → e.row ≠ id) :
    (s.setRows (s.rows.filter fun x => x.id != id)).TableSound := by
  have distinct : ((s.rows.filter fun x => x.id != id).map RowRecord.id).Nodup :=
    h.distinct.sublist (List.filter_sublist.map _)
  have row : ∀ {k r}, (s.setRows (s.rows.filter fun x => x.id != id)).row k = some r ↔ s.row k = some r ∧ k ≠ id := by
    intro k r
    rw [State.row_eq_some distinct, State.row_eq_some h.distinct]
    show r ∈ s.rows.filter _ ∧ r.id = k ↔ _
    rw [List.mem_filter, bne_iff_ne]
    constructor
    · rintro ⟨⟨mem, other⟩, rfl⟩
      exact ⟨⟨mem, rfl⟩, other⟩
    · rintro ⟨⟨mem, rfl⟩, other⟩
      exact ⟨⟨mem, other⟩, rfl⟩
  have opened : ∀ {i e}, s.entry i = some e → s.RowOpen e.row →
      (s.setRows (s.rows.filter fun x => x.id != id)).RowOpen e.row := fun he ⟨r, hr, k⟩ =>
    ⟨r, row.2 ⟨hr, none _ _ he⟩, k⟩
  refine ⟨(List.length_filter_le _ _).trans h.size, distinct, fun i e he => ?_, fun k r hr => ?_, h.named, fun i e he => ?_,
    fun i hi => ?_, h.once⟩
  · obtain ⟨r, hr⟩ := h.present i e he
    exact ⟨r, row.2 ⟨hr, none i e he⟩⟩
  · obtain ⟨entries, accepted, rejected⟩ := h.counted k r (row.1 hr).1
    exact ⟨entries, accepted, rejected⟩
  · exact (h.settled i e he).imp_left (opened he)
  · obtain ⟨e, he, final, row⟩ := h.parents i hi
    exact ⟨e, he, final, opened he row⟩

/-- A new row without entries (R8). -/
theorem State.TableSound.addRow {s : State} (h : s.TableSound) {id : Byte} (absent : s.row id = none) (room : s.rows.length < 4) :
    (s.setRows (s.rows ++ [newRow id])).TableSound := by
  have unused : ∀ i e, s.entry i = some e → e.row ≠ id := fun i e he own => by
    obtain ⟨r, hr⟩ := h.present i e he
    rw [own, absent] at hr
    exact absurd hr nofun
  have distinct : ((s.rows ++ [newRow id]).map RowRecord.id).Nodup := by
    rw [List.map_append, List.nodup_append]
    refine ⟨h.distinct, List.nodup_singleton _, fun x hx y hy same => ?_⟩
    obtain ⟨r, hr, own⟩ := List.mem_map.1 hx
    have present := (State.row_eq_some h.distinct).2 ⟨hr, own.trans (same.trans (List.mem_singleton.1 hy))⟩
    exact absurd (absent.symm.trans present) nofun
  have row : ∀ {k r}, (s.setRows (s.rows ++ [newRow id])).row k = some r ↔ s.row k = some r ∨ k = id ∧ r = newRow id := by
    intro k r
    rw [State.row_eq_some distinct, State.row_eq_some h.distinct]
    show r ∈ s.rows ++ [newRow id] ∧ r.id = k ↔ _
    rw [List.mem_append, List.mem_singleton]
    constructor
    · rintro ⟨mem | rfl, own⟩
      · exact .inl ⟨mem, own⟩
      · exact .inr ⟨own.symm, rfl⟩
    · rintro (⟨mem, own⟩ | ⟨rfl, rfl⟩)
      · exact ⟨.inl mem, own⟩
      · exact ⟨.inr rfl, rfl⟩
  have opened : ∀ {k}, s.RowOpen k → (s.setRows (s.rows ++ [newRow id])).RowOpen k := fun ⟨r, hr, k⟩ =>
    ⟨r, row.2 (.inl hr), k⟩
  refine ⟨?_, distinct, fun i e he => ?_, fun k r hr => ?_, h.named, fun i e he => ?_, fun i hi => ?_, h.once⟩
  · exact (List.length_append ..).trans_le room
  · exact (h.present i e he).imp fun r hr => row.2 (.inl hr)
  · rcases row.1 hr with old | ⟨_, rfl⟩
    · obtain ⟨entries, accepted, rejected⟩ := h.counted k r old
      exact ⟨entries, accepted, rejected⟩
    · have zero : ∀ g, s.tallyIn id g = 0 := fun g => by
        unfold State.tallyIn State.tally
        rw [List.countP_eq_zero]
        intro i _
        cases he : s.entry i with
        | none => exact nofun
        | some e => simp [unused i e he]
      exact ⟨(zero fun _ => true).symm, (zero fun y => y == .accepted).symm, (zero fun y => y == .rejected).symm⟩
  · exact (h.settled i e he).imp_left opened
  · obtain ⟨e, he, final, row⟩ := h.parents i hi
    exact ⟨e, he, final, opened row⟩

theorem HoleState.not_final_planned : ¬ HoleState.Final .planned := fun h => h.elim nofun nofun

theorem State.TableSound.unclaimed {s : State} (h : s.TableSound) {i : Slot} {e : Entry} (he : s.entry i = some e)
    (state : e.holeState.isClaimed = false) : e.claimant = none := by
  have named := h.named i e he
  rw [state] at named
  exact Option.isNone_iff_eq_none.1 (by rw [← Option.not_isSome, named]; rfl)

/-- A new validity of a PLANNED entry in an OPEN row (R19). -/
theorem State.TableSound.revalidate {s : State} (h : s.TableSound) {i : Slot} {e : Entry} (he : s.entry i = some e)
    (may : s.mayRevalidate e = true) (v : Validity) :
    (s.setEntry i (some { e with validity := v })).TableSound ∧ s.SameClaims (s.setEntry i (some { e with validity := v })) := by
  obtain ⟨planned, opened⟩ := Bool.and_eq_true_iff.1 may
  have state : e.holeState = .planned := beq_iff_eq.1 planned
  have unclaimed : e.claimant = none := h.unclaimed he (by rw [state]; rfl)
  refine ⟨h.restate he rfl (state ▸ HoleState.not_final_planned) (state ▸ HoleState.not_final_planned) (h.named i e he)
    (.inl (State.rowIs_opened.1 opened)), .setEntry (State.claimOf_eq_none he unclaimed) (Entry.claim_eq_none unclaimed)⟩

/-- The eligible members of a match set given a new validity, one after the other (R19). -/
theorem State.TableSound.revalidateAll (l : List Slot) (v : Validity) {s : State} (h : s.TableSound)
    (may : ∀ i ∈ l, ∃ e, s.entry i = some e ∧ s.mayRevalidate e = true) :
    (l.foldl (fun acc i => acc.modEntry i fun e => { e with validity := v }) s).TableSound ∧
      s.SameClaims (l.foldl (fun acc i => acc.modEntry i fun e => { e with validity := v }) s) := by
  induction l generalizing s with
  | nil => exact ⟨h, .refl s⟩
  | cons i rest ih =>
    obtain ⟨e, he, ok⟩ := may i List.mem_cons_self
    have first := h.revalidate he ok v
    have same : s.modEntry i (fun e => { e with validity := v }) = s.setEntry i (some { e with validity := v }) := by
      unfold State.modEntry
      rw [he]
    have later := ih (s := s.setEntry i (some { e with validity := v })) first.1 fun j hj => by
      obtain ⟨f, hf, may⟩ := may j (List.mem_cons_of_mem i hj)
      rw [State.entry_setEntry]
      split
      · exact ⟨_, rfl, ok⟩
      · exact ⟨f, hf, may⟩
    rw [List.foldl_cons, same]
    exact ⟨later.1, first.2.trans later.2⟩

theorem State.TableSound.closeRows (l : List Slot) {s : State} (h : s.TableSound) :
    (l.foldl State.closeRowOf s).TableSound ∧ s.SameClaims (l.foldl State.closeRowOf s) := by
  induction l generalizing s with
  | nil => exact ⟨h, .refl s⟩
  | cons i rest ih =>
    have first : (s.closeRowOf i).TableSound ∧ s.SameClaims (s.closeRowOf i) := by
      unfold State.closeRowOf
      split
      · exact ⟨h.closingCheck _, .closingCheck s _⟩
      · exact ⟨h, .refl s⟩
    have later := ih first.1
    exact ⟨later.1, first.2.trans later.2⟩

theorem State.mem_revalidatable {s : State} {l : List Slot} {i : Slot} :
    i ∈ s.revalidatable l ↔ i ∈ l ∧ ∃ e, s.entry i = some e ∧ s.mayRevalidate e = true := by
  unfold State.revalidatable
  rw [List.mem_filter]
  refine and_congr_right fun _ => ?_
  cases s.entry i <;> simp

/-- A row that is not OPEN has neither claims nor parents. -/
theorem State.TableSound.shutRow {s : State} (h : s.TableSound) {id : Byte} {r : RowRecord} (row : s.row id = some r)
    (shut : r.state ≠ .opened) {i : Slot} (mem : i ∈ s.slotsOfRow id) : i ∉ s.backlog ∧ s.claimOf i = none := by
  obtain ⟨e, he, own⟩ := State.mem_slotsOfRow.1 mem
  have away : ¬ s.RowOpen e.row := fun ⟨x, hx, opened⟩ => by
    rw [own, row] at hx
    exact shut (Option.some.inj hx ▸ opened)
  refine ⟨fun hi => ?_, State.claimOf_eq_none he (h.unclaimed he (Bool.eq_false_iff.2 fun claimed => ?_))⟩
  · obtain ⟨f, hf, _, opened⟩ := h.parents i hi
    exact away (Option.some.inj (he.symm.trans hf) ▸ opened)
  · exact away (h.open_of_unsettled he (HoleState.unsettled_of_claimed claimed))

theorem State.row_not_opened {s : State} {id : Byte} {r x : RowRecord} (row : s.row id = some r) (shut : r.state ≠ .opened)
    (hx : s.row id = some x) : x.state ≠ .opened := by
  rw [← Option.some.inj (row.symm.trans hx)]
  exact shut

/-- Each table command keeps the table in agreement, and every claim. -/
theorem State.TableDeed.keeps {s u : State} (deed : s.TableDeed u) (h : s.TableSound) : u.TableSound ∧ s.SameClaims u := by
  cases deed with
  | openRow absent room =>
    exact ⟨h.addRow (Option.isNone_iff_eq_none.1 (by rw [← Option.not_isSome, absent]; rfl)) room, .of rfl⟩
  | planHole _ _ _ _ _ free row opened =>
    exact ⟨h.writeSlot (State.nextFree_empty free) ⟨_, row, opened⟩ rfl rfl, .writeSlot (State.nextFree_empty free) rfl⟩
  | @endPlan row _ _ _ =>
    have ended := h.modRow (id := row) (f := fun r => { r with planEnded := true }) (fun _ => rfl) (fun _ => ⟨rfl, rfl, rfl⟩)
      (.inl fun _ _ opened => opened)
    exact ⟨ended.closingCheck row, .trans (.of rfl) (.closingCheck _ row)⟩
  | @freeze row r present closed =>
    have cleared := State.SameTable.clearDrained s row
    exact ⟨(h.congr cleared).modRow (f := fun r => { r with state := .frozen }) (fun _ => rfl) (fun _ => ⟨rfl, rfl, rfl⟩)
      (.inl fun x hx opened => absurd opened (State.row_not_opened present (by rw [closed]; decide)
        ((State.row_congr cleared.rows row).symm.trans hx))), cleared.sameClaims.trans (.of rfl)⟩
  | @thaw row r present frozen =>
    have cleared := State.SameTable.clearDrained s row
    exact ⟨(h.congr cleared).modRow (f := fun r => { r with state := .closed }) (fun _ => rfl) (fun _ => ⟨rfl, rfl, rfl⟩)
      (.inl fun x hx opened => absurd opened (State.row_not_opened present (by rw [frozen]; decide)
        ((State.row_congr cleared.rows row).symm.trans hx))), cleared.sameClaims.trans (.of rfl)⟩
  | @release row r present frozen =>
    have emptied := h.emptySlots (s.slotsOfRow row) fun i hi => h.shutRow present (by rw [frozen]; decide) hi
    have dropped := emptied.1.dropRow (id := row) fun i e he own => by
      rw [State.entry_emptySlots] at he
      split at he
      · exact absurd he nofun
      · rename_i away
        exact away (State.mem_slotsOfRow.2 ⟨e, he, own⟩)
    exact ⟨dropped.drain _, emptied.2.trans (.trans (.of rfl) (.drain _ _))⟩
  | @erase i e he _ state =>
    have away : i ∉ s.backlog := h.not_parent fun f hf final => by
      rw [← Option.some.inj (he.symm.trans hf)] at final
      rcases state with k | k <;> rw [k] at final <;> exact final.elim nofun nofun
    have unclaimed : e.claimant = none := h.unclaimed he (by rcases state with k | k <;> rw [k] <;> rfl)
    exact ⟨((h.emptySlot away).drain _).closingCheck _,
      .trans (.emptySlot (State.claimOf_eq_none he unclaimed)) (.trans (.drain _ _) (.closingCheck _ _))⟩
  | setValidity v he may =>
    have changed := h.revalidate he may v
    exact ⟨changed.1.closingCheck _, changed.2.trans (.closingCheck _ _)⟩
  | setValidities l v =>
    rw [State.setValidityAll_state]
    split
    · exact ⟨h, .refl s⟩
    · have changed := h.revalidateAll (s.revalidatable l) v fun i hi => (State.mem_revalidatable.1 hi).2
      have closed := changed.1.closeRows (s.revalidatable l)
      exact ⟨closed.1, changed.2.trans closed.2⟩
  | @cancelSupplements row r present =>
    have shorter := h.setBacklog (l := s.backlog.filter fun i => !((s.parentsOf row).contains i)) List.filter_sublist
    have marked : ∀ (l : List Slot) (t : State), t.SameTable (l.foldl (fun acc i => acc.modEntry i Entry.markLost) t) := by
      intro l
      induction l with
      | nil => exact .refl
      | cons i rest ih => exact fun t => .trans (.modEntry t i (f := Entry.markLost) fun _ => rfl) (ih _)
    have lost := (marked (s.parentsOf row) (s.setBacklog (s.backlog.filter fun i => !((s.parentsOf row).contains i)))).trans
      (u := (((s.parentsOf row).foldl (fun acc i => acc.modEntry i Entry.markLost)
        (s.setBacklog (s.backlog.filter fun i => !((s.parentsOf row).contains i)))).post .table)) (.of rfl rfl rfl)
    exact ⟨(shorter.congr lost).closingCheck row,
      .trans (.trans (t := s.setBacklog _) (.of rfl) lost.sameClaims) (.closingCheck _ row)⟩

theorem State.TableDeed.agrees {s u : State} (deed : s.TableDeed u) (h : s.TableAgrees) : u.TableAgrees := by
  obtain ⟨table, claims⟩ := deed.keeps h.table
  exact ⟨table, h.claims.congr claims deed.tableOnly.unitsKeep⟩

end Sys2Proof.Machine

/-! PROOFS. Claims taken, advanced and ended: the table and its claims stay in agreement through every action. -/

namespace Sys2Proof.Machine

/-! ### Changes that keep table and claims -/

/-- Rows, backlog and the keys of the entries are the same, and the booms keep their claims. -/
structure State.KeepsTable (s t : State) : Prop where
  table : s.SameTable t
  units : s.UnitsKeep t

theorem State.KeepsTable.agrees {s t : State} (k : s.KeepsTable t) (h : s.TableAgrees) : t.TableAgrees :=
  ⟨h.table.congr k.table, h.claims.congr k.table.sameClaims k.units⟩

namespace State.KeepsTable

theorem refl (s : State) : s.KeepsTable s := ⟨.refl s, .of rfl rfl⟩

theorem trans {s t u : State} (h : s.KeepsTable t) (k : t.KeepsTable u) : s.KeepsTable u :=
  ⟨h.table.trans k.table, h.units.trans k.units⟩

theorem of {s t : State} (slots : t.slots = s.slots) (rows : t.rows = s.rows) (backlog : t.backlog = s.backlog)
    (units : t.units = s.units) (params : t.params = s.params) : s.KeepsTable t := ⟨.of slots rows backlog, .of units params⟩

theorem post (s : State) (n : NoticePair) : s.KeepsTable (s.post n) := .of rfl rfl rfl rfl rfl

theorem setEngine (s : State) (b : Boom) (e : Engine) : s.KeepsTable (s.setEngine b e) := .of rfl rfl rfl rfl rfl

theorem setLane (s : State) (b : Boom) (l : Lane) : s.KeepsTable (s.setLane b l) := .of rfl rfl rfl rfl rfl

theorem setLoader (s : State) (l : Loader) : s.KeepsTable (s.setLoader l) := .of rfl rfl rfl rfl rfl

/-- A unit changed: its claim stays with it, and it is not taken to IDLE or HALTED with one. -/
theorem modUnit (s : State) (b : Boom) {f : BoomUnit → BoomUnit} (held : (f (s.unit b)).claimHeld = (s.unit b).claimHeld)
    (slot : (s.unit b).claimHeld = true → (f (s.unit b)).workSlot = (s.unit b).workSlot)
    (busy : (s.unit b).claimHeld = true → (s.unit b).cycle ≠ .idle → (s.unit b).cycle ≠ .halted →
      (f (s.unit b)).cycle ≠ .idle ∧ (f (s.unit b)).cycle ≠ .halted) : s.KeepsTable (s.modUnit b f) := by
  refine ⟨.of rfl rfl rfl, ?_⟩
  have other : ∀ c, c ≠ b → (s.modUnit b f).unit c = s.unit c := fun c k => by
    unfold State.modUnit
    rw [State.unit_setUnit, if_neg k]
  have own : (s.modUnit b f).unit b = f (s.unit b) := State.unit_setUnit_same _ _ _
  refine ⟨fun c => ?_, fun c => ?_, fun c => ?_, rfl⟩ <;> by_cases k : c = b
  · rw [k, own]; exact held
  · rw [other c k]
  · rw [k, own]; exact slot
  · rw [other c k]; exact fun _ => rfl
  · rw [k, own]; exact busy
  · rw [other c k]; exact fun _ idle halted => ⟨idle, halted⟩

/-- A boom goes on in its cycle. -/
theorem setCycle (s : State) (b : Boom) {c : CycleState} (idle : c ≠ .idle) (halted : c ≠ .halted) :
    s.KeepsTable (s.setCycle b c) :=
  .trans (.modUnit s b rfl (fun _ => if_neg (not_or.2 ⟨idle, halted⟩)) fun _ _ _ => ⟨idle, halted⟩) (.post _ _)

/-- A boom without a claim goes to any cycle state. -/
theorem setCycleFree (s : State) (b : Boom) (c : CycleState) (free : (s.unit b).claimHeld = false) :
    s.KeepsTable (s.setCycle b c) :=
  .trans (.modUnit s b rfl (fun held => absurd (free.symm.trans held) nofun) fun held => absurd (free.symm.trans held) nofun)
    (.post _ _)

theorem updateClaimed (s : State) (b : Boom) {f : Entry → Entry} (h : ∀ e, (f e).key = e.key) :
    s.KeepsTable (s.updateClaimed b f) := by
  refine ⟨⟨by simp, by simp, fun i => ?_⟩, ?_⟩
  · cases hc : s.claimedEntry b with
    | none => rw [State.updateClaimed_none hc]
    | some x =>
      obtain ⟨j, e⟩ := x
      obtain ⟨_, _, he⟩ := State.claimedEntry_eq_some.1 hc
      rw [State.updateClaimed_some hc, State.entry_setEntry]
      split
      · rename_i own
        rw [own, he]
        exact congrArg some (h e)
      · rfl
  · obtain ⟨_, frame⟩ := State.updateClaimed_frame s b f
    rw [frame]
    exact .of rfl rfl

theorem updateResult (s : State) (b : Boom) (f : Result → Result) : s.KeepsTable (s.updateResult b f) :=
  .updateClaimed s b (f := fun e => { e with result := e.result.map f }) fun _ => rfl

theorem writeDrilledDepth (s : State) (b : Boom) : s.KeepsTable (s.writeDrilledDepth b) := .updateResult s b _

theorem noteDepth (s : State) (b : Boom) (e : Entry) : s.KeepsTable (s.noteDepth b e) := by
  unfold State.noteDepth
  split
  · exact .writeDrilledDepth s b
  · exact .refl s

theorem releaseFlow (s : State) (b : Boom) : s.KeepsTable (s.releaseFlow b) := by
  obtain ⟨_, _, frame⟩ := State.releaseFlow_frame s b
  rw [frame]
  exact .of rfl rfl rfl rfl rfl

theorem servicePass (s : State) : s.KeepsTable s.servicePass := by
  obtain ⟨_, _, frame⟩ := State.servicePass_frame s
  rw [frame]
  exact .of rfl rfl rfl rfl rfl

theorem requestStage (s : State) (b : Boom) (x : FlowStage) : s.KeepsTable (s.requestStage b x) := by
  obtain ⟨_, _, frame⟩ := State.requestStage_frame s b x
  rw [frame]
  exact .of rfl rfl rfl rfl rfl

theorem leaveStage (s : State) (b : Boom) {c : CycleState} (idle : c ≠ .idle) (halted : c ≠ .halted) :
    s.KeepsTable (s.leaveStage b c) := .trans (.setCycle s b idle halted) (.releaseFlow _ b)

theorem grantLoader (s : State) (b : Boom) : s.KeepsTable (s.grantLoader b) :=
  .trans (.setLoader s _) (.setCycle _ b nofun nofun)

theorem serveLoader (s : State) : s.KeepsTable s.serveLoader := by
  unfold State.serveLoader
  split
  · exact .setLoader s _
  · exact .trans (.setLoader s _) (.grantLoader _ _)

theorem endGrant (s : State) : s.KeepsTable s.endGrant := .setLoader s _

theorem cancelLoader (s : State) (b : Boom) : s.KeepsTable (s.cancelLoader b) := by
  unfold State.cancelLoader
  simp only []
  split
  · split
    · exact .trans (.setLoader s _) (.setLoader _ _)
    · exact .trans (.setLoader s _) (.setLoader _ _)
    · exact .trans (.setLoader s _) (.trans (.endGrant _) (.serveLoader _))
  · exact .setLoader s _

theorem requestLoader (s : State) (b : Boom) : s.KeepsTable (s.requestLoader b) := by
  unfold State.requestLoader
  split
  · exact .grantLoader s b
  · exact .setLoader s _

theorem enterTorquing (s : State) (b : Boom) : s.KeepsTable (s.enterTorquing b) :=
  .trans (.setCycle s b (c := .torquing) nofun nofun) (.requestStage _ b _)

theorem spinComplete (s : State) (b : Boom) : s.KeepsTable (s.spinComplete b) := by
  have timed : s.KeepsTable ((s.leaveStage b .setting).modUnit b fun u => { u with setTimer := some 0 }) :=
    .trans (.leaveStage s b (c := .setting) nofun nofun) (.modUnit _ b rfl (fun _ => rfl) fun _ idle halted => ⟨idle, halted⟩)
  unfold State.spinComplete
  simp only []
  split
  · exact timed.trans (.enterTorquing _ b)
  · exact timed

theorem applyRun (s : State) (b : Boom) (d : DrillRun) : s.KeepsTable (s.applyRun b d) := by
  obtain ⟨p, h⟩ := State.offers_frame (.void b) d.voidChanges ((s.setEngine b d.engine).updateClaimed b fun e =>
    { e with lengthClass := d.lengthClass, result := some d.result })
  unfold State.applyRun
  simp only []
  rw [h]
  exact .trans (.trans (.setEngine s b _) (.updateClaimed _ b
    (f := fun e => { e with lengthClass := d.lengthClass, result := some d.result }) fun _ => rfl)) (.of rfl rfl rfl rfl rfl)

theorem laneMark (s : State) (b : Boom) : s.KeepsTable (s.laneMark b) := by
  unfold State.laneMark
  split
  · exact .setEngine s b _
  · exact .refl s

theorem watchFlush (s : State) (b : Boom) (x : Sample) : s.KeepsTable (s.watchFlush b x) := by
  unfold State.watchFlush
  split
  · exact .modUnit s b rfl (fun _ => rfl) fun _ idle halted => ⟨idle, halted⟩
  · exact .refl s

theorem countFaults (s : State) (b : Boom) (n : Nat) : s.KeepsTable (s.countFaults b n) := by
  unfold State.countFaults
  simp only []
  split
  · exact .trans (.setLane s b _) (.post _ _)
  · exact .setLane s b _

theorem discardFault (s : State) (b : Boom) : s.KeepsTable (s.discardFault b) := by
  unfold State.discardFault
  simp only []
  split
  · exact .trans (.countFaults s b 1) (.laneMark _ b)
  · exact .trans (.trans (.countFaults s b 1) (.setLane _ b _)) (.laneMark _ b)

theorem tearFrame (s : State) (b : Boom) : s.KeepsTable (s.tearFrame b) := .trans (.setLane s b _) (.discardFault _ b)

theorem transferCount (s : State) (b : Boom) : s.KeepsTable (s.transferCount b) := .trans (.setLane s b _) (.post _ _)

theorem loseLane (s : State) (b : Boom) : s.KeepsTable (s.loseLane b) :=
  .trans (.trans (.setLane s b _) (.countFaults _ b 1)) (.laneMark _ b)

theorem sync (s : State) : s.KeepsTable s.sync := by
  obtain ⟨u, e, frame⟩ := s.sync_frame
  refine ⟨.of (by rw [frame]) (by rw [frame]) (by rw [frame]), ?_⟩
  refine ⟨fun b => ?_, fun b _ => ?_, fun b _ idle halted => ?_, by rw [frame]⟩ <;> rw [State.sync_unit]
  · rfl
  · rfl
  · exact ⟨idle, halted⟩

theorem offersSince (s u : State) : s.KeepsTable (s.offersSince u) := by
  obtain ⟨p, h⟩ := State.offersSince_frame s u
  rw [h]
  exact .of rfl rfl rfl rfl rfl

end State.KeepsTable

/-! ### A boom's claim -/

/-- The entry that a boom has claimed names it. -/
theorem State.ClaimsSound.claimant {s : State} (h : s.ClaimsSound) {b : Boom} {i : Slot} {e : Entry}
    (hc : s.claimedEntry b = some (i, e)) : e.claimant = some b := by
  obtain ⟨held, slot, he⟩ := State.claimedEntry_eq_some.1 hc
  obtain ⟨_, _, j, c, slot', claim, own⟩ := h.working b held
  obtain rfl := Option.some.inj (slot.symm.trans slot')
  obtain ⟨f, hf, claimant, _⟩ := State.claimOf_eq_some.1 claim
  rw [← Option.some.inj (hf.symm.trans he), claimant, own]

/-- A boom without a claimed entry holds no claim. -/
theorem State.ClaimsSound.free {s : State} (h : s.ClaimsSound) {b : Boom} (hc : s.claimedEntry b = none) :
    (s.unit b).claimHeld = false := by
  refine Bool.eq_false_iff.2 fun held => ?_
  obtain ⟨_, _, i, c, slot, claim, _⟩ := h.working b held
  obtain ⟨e, he, _⟩ := State.claimOf_eq_some.1 claim
  exact absurd (hc.symm.trans (State.claimedEntry_eq_some.2 ⟨held, slot, he⟩)) nofun

/-- An IDLE or HALTED boom holds no claim. -/
theorem State.ClaimsSound.free_of_cycle {s : State} (h : s.ClaimsSound) {b : Boom}
    (k : (s.unit b).cycle = .idle ∨ (s.unit b).cycle = .halted) : (s.unit b).claimHeld = false :=
  Bool.eq_false_iff.2 fun held => by
    obtain ⟨idle, halted, _⟩ := h.working b held
    exact k.elim idle halted

theorem HoleState.not_final_of_claimed {x : HoleState} (h : x.isClaimed = true) : ¬ x.Final := by
  rintro (k | k) <;> rw [k] at h <;> exact absurd h nofun

/-- The claimed entry taken on to another claimed state. -/
theorem State.TableAgrees.advance {s : State} (h : s.TableAgrees) (b : Boom) {f : Entry → Entry}
    (row : ∀ e, (f e).row = e.row) (claim : ∀ e, (f e).claim = e.claim) (named : ∀ e, (f e).claimant = e.claimant)
    (state : ∀ e, (f e).holeState.isClaimed = true) : (s.updateClaimed b f).TableAgrees := by
  cases hc : s.claimedEntry b with
  | none =>
    rw [State.updateClaimed_none hc]
    exact h
  | some x =>
    obtain ⟨i, e⟩ := x
    obtain ⟨_, _, he⟩ := State.claimedEntry_eq_some.1 hc
    have claimant := h.claims.claimant hc
    have claimed : e.holeState.isClaimed = true := by
      rw [← h.table.named i e he, claimant]
      rfl
    rw [State.updateClaimed_some hc]
    have moved := h.table.restate he (row e) (HoleState.not_final_of_claimed claimed)
      (HoleState.not_final_of_claimed (state e)) (by rw [named, claimant, state]; rfl)
      (.inl (h.table.open_of_unsettled he (HoleState.unsettled_of_claimed claimed)))
    refine ⟨moved, h.claims.congr (fun j => ?_) (.of rfl rfl)⟩
    rw [State.claimOf_setEntry]
    split
    · rename_i own
      unfold State.claimOf
      rw [own, he]
      exact claim e
    · rfl

theorem Claim.Apart.symm {c d : Claim} {n : Nat} (h : c.Apart d n) : d.Apart c n :=
  fun row ld lc => (h row.symm lc ld).symm

/-- A boom without a claim takes one on a slot without one (R35). -/
theorem State.ClaimsSound.take {s t : State} {b : Boom} {i : Slot} {c : Claim} (h : s.ClaimsSound)
    (free : (s.unit b).claimHeld = false) (claims : ∀ j, t.claimOf j = if j = i then some c else s.claimOf j)
    (own : c.boom = b) (held : (t.unit b).claimHeld = true) (slot : (t.unit b).workSlot = some i)
    (idle : (t.unit b).cycle ≠ .idle) (halted : (t.unit b).cycle ≠ .halted) (vacant : s.claimOf i = none)
    (other : t.unit b.other = s.unit b.other) (separation : t.params = s.params)
    (apart : ∀ j d, s.claimOf j = some d → d.boom = b.other → c.Apart d s.params.settings.separation) : t.ClaimsSound := by
  have before : ∀ {j d}, s.claimOf j = some d → d.boom = b.other := fun {j d} hd => by
    rcases Boom.eq_or_eq_other b d.boom with same | same
    · have claimed := (h.held j d hd).1
      rw [same, free] at claimed
      exact absurd claimed nofun
    · exact same
  refine ⟨fun j d hd => ?_, fun x hx => ?_, fun j k d e hd he a b' => ?_⟩
  · rw [claims] at hd
    split at hd
    · rename_i same
      rw [← Option.some.inj hd, own, same]
      exact ⟨held, slot⟩
    · have old := h.held j d hd
      rw [before hd] at old ⊢
      rw [other]
      exact old
  · rcases Boom.eq_or_eq_other b x with rfl | rfl
    · exact ⟨idle, halted, i, c, slot, by rw [claims, if_pos rfl], own⟩
    · rw [other] at hx ⊢
      obtain ⟨idle, halted, j, d, slot', hd, same⟩ := h.working _ hx
      refine ⟨idle, halted, j, d, slot', ?_, same⟩
      rw [claims, if_neg fun eq : j = i => absurd (vacant.symm.trans (eq ▸ hd : s.claimOf i = some d)) nofun]
      exact hd
  · rw [separation]
    rw [claims] at hd he
    split at hd <;> split at he
    · rw [← Option.some.inj hd] at a
      rw [← Option.some.inj he, a] at b'
      exact absurd b' nofun
    · rw [← Option.some.inj hd]
      exact apart k e he (before he)
    · rw [← Option.some.inj he]
      exact (apart j d hd (before hd)).symm
    · exact h.apart j k d e hd he a b'

/-- Every claim is the other boom's, which keeps it. -/
structure State.ClaimsBeside (s : State) (b : Boom) : Prop where
  held : ∀ i c, s.claimOf i = some c →
    c.boom = b.other ∧ (s.unit b.other).claimHeld = true ∧ (s.unit b.other).workSlot = some i
  working : (s.unit b.other).claimHeld = true → (s.unit b.other).cycle ≠ .idle ∧ (s.unit b.other).cycle ≠ .halted ∧
    ∃ i c, (s.unit b.other).workSlot = some i ∧ s.claimOf i = some c

theorem State.ClaimsBeside.congr {s t : State} {b : Boom} (h : s.ClaimsBeside b) (claims : s.SameClaims t)
    (units : s.UnitsKeep t) : t.ClaimsBeside b where
  held i c hc := by
    obtain ⟨own, held, slot⟩ := h.held i c (claims i ▸ hc)
    exact ⟨own, (units.claimHeld _).trans held, (units.workSlot _ held).trans slot⟩
  working hb := by
    have held := (units.claimHeld _).symm.trans hb
    obtain ⟨idle, halted, i, c, slot, hc⟩ := h.working held
    obtain ⟨idle', halted'⟩ := units.busy _ held idle halted
    exact ⟨idle', halted', i, c, (units.workSlot _ held).trans slot, (claims i).trans hc⟩

/-- The claim of a boom ended on its slot. -/
theorem State.ClaimsSound.ended {s t : State} {b : Boom} {i : Slot} (h : s.ClaimsSound)
    (slot : (s.unit b).claimHeld = true → (s.unit b).workSlot = some i)
    (claims : ∀ j, t.claimOf j = if j = i then none else s.claimOf j) (mine : ∀ c, s.claimOf i = some c → c.boom = b)
    (units : t.units = s.units) : t.ClaimsBeside b := by
  have unit : ∀ c, t.unit c = s.unit c := fun c => by unfold State.unit; rw [units]
  refine ⟨fun j c hc => ?_, fun hb => ?_⟩
  · rw [claims] at hc
    split at hc
    · exact absurd hc nofun
    · rename_i away
      have old := h.held j c hc
      rcases Boom.eq_or_eq_other b c.boom with same | same
      · rw [same] at old
        exact absurd (Option.some.inj (old.2.symm.trans (slot old.1))) away
      · rw [same] at old
        rw [unit]
        exact ⟨same, old⟩
  · rw [unit] at hb ⊢
    obtain ⟨idle, halted, j, c, slot', hc, own⟩ := h.working _ hb
    refine ⟨idle, halted, j, c, slot', ?_⟩
    rw [claims, if_neg fun eq => ?_]
    · exact hc
    · exact Boom.other_ne b (own.symm.trans (mine c (eq ▸ hc)))

theorem State.ClaimsBeside.sound {s : State} {b : Boom} (h : s.ClaimsBeside b) (free : (s.unit b).claimHeld = false) :
    s.ClaimsSound where
  held i c hc := by
    obtain ⟨own, held⟩ := h.held i c hc
    rw [own]
    exact held
  working x hx := by
    rcases Boom.eq_or_eq_other b x with rfl | rfl
    · exact absurd (free.symm.trans hx) nofun
    · obtain ⟨idle, halted, i, c, slot, hc⟩ := h.working hx
      exact ⟨idle, halted, i, c, slot, hc, (h.held i c hc).1⟩
  apart i j c d hc hd a b' := by
    have first := (h.held i c hc).1
    have second := (h.held j d hd).1
    rw [a] at first
    rw [b', ← first] at second
    exact absurd second nofun

/-- The claim of a boom ended, in whatever way the table ends it. -/
theorem State.TableAgrees.endClaim {s t : State} {b : Boom} {i : Slot} {e : Entry} (h : s.TableAgrees)
    (hc : s.claimedEntry b = some (i, e)) (claims : ∀ j, t.claimOf j = if j = i then none else s.claimOf j)
    (units : t.units = s.units) : t.ClaimsBeside b := by
  obtain ⟨_, slot, he⟩ := State.claimedEntry_eq_some.1 hc
  refine h.claims.ended (fun _ => slot) claims (fun c claim => ?_) units
  obtain ⟨f, hf, claimant, _⟩ := State.claimOf_eq_some.1 claim
  rw [← Option.some.inj (he.symm.trans hf), h.claims.claimant hc] at claimant
  exact (Option.some.inj claimant).symm

theorem State.claimOf_returned {s : State} {i : Slot} {e : Entry} (he : s.entry i = some e) (j : Slot) :
    (s.returnEntry i).claimOf j = if j = i then none else s.claimOf j := by
  unfold State.returnEntry
  rw [he]
  simp only []
  rw [State.SameClaims.closingCheck _ _ j, State.claimOf_setEntry]
  rfl

theorem State.TableAgrees.returned {s : State} {b : Boom} {i : Slot} {e : Entry} (h : s.TableAgrees)
    (hc : s.claimedEntry b = some (i, e)) : (s.setEntry i (some e.returned)).TableSound := by
  obtain ⟨_, _, he⟩ := State.claimedEntry_eq_some.1 hc
  have claimed : e.holeState.isClaimed = true := by
    rw [← h.table.named i e he, h.claims.claimant hc]
    rfl
  exact h.table.restate he rfl (HoleState.not_final_of_claimed claimed) HoleState.not_final_planned rfl
    (.inl (h.table.open_of_unsettled he (HoleState.unsettled_of_claimed claimed)))

/-- A claimed entry returned to PLANNED (R42). -/
theorem State.TableAgrees.returnEntry {s : State} {b : Boom} {i : Slot} {e : Entry} (h : s.TableAgrees)
    (hc : s.claimedEntry b = some (i, e)) : (s.returnEntry i).TableSound ∧ (s.returnEntry i).ClaimsBeside b := by
  obtain ⟨_, _, he⟩ := State.claimedEntry_eq_some.1 hc
  refine ⟨?_, h.endClaim hc (State.claimOf_returned he) (by simp)⟩
  unfold State.returnEntry
  rw [he]
  exact (h.returned hc).closingCheck e.row

/-- A verdict of the table on a claimed entry. -/
theorem State.TableAgrees.tableVerdict {s : State} {b : Boom} {i : Slot} {e : Entry} (h : s.TableAgrees)
    (hc : s.claimedEntry b = some (i, e)) (v : VerdictReason) :
    (s.tableVerdict i v).TableSound ∧ (s.tableVerdict i v).ClaimsBeside b := by
  obtain ⟨_, _, he⟩ := State.claimedEntry_eq_some.1 hc
  refine ⟨h.table.tableVerdict he ?_ v, h.endClaim hc (State.claimOf_tableVerdict he v) (by simp)⟩
  rw [h.claims.claimant hc]
  rfl

theorem State.ClaimsBeside.modUnit {s : State} {b : Boom} (h : s.ClaimsBeside b) (f : BoomUnit → BoomUnit) :
    (s.modUnit b f).ClaimsBeside b := by
  have other : (s.modUnit b f).unit b.other = s.unit b.other := State.unit_setUnit_other _ _ _
  refine ⟨fun i c hc => ?_, fun hb => ?_⟩
  · rw [other]
    exact h.held i c hc
  · rw [other] at hb ⊢
    exact h.working hb

theorem State.ClaimsSound.beside {s : State} {b : Boom} (h : s.ClaimsSound) (free : (s.unit b).claimHeld = false) :
    s.ClaimsBeside b where
  held i c hc := by
    have held := h.held i c hc
    rcases Boom.eq_or_eq_other b c.boom with own | own
    · rw [own] at held
      exact absurd (free.symm.trans held.1) nofun
    · rw [own] at held
      exact ⟨own, held⟩
  working hb := by
    obtain ⟨idle, halted, i, c, slot, hc, _⟩ := h.working _ hb
    exact ⟨idle, halted, i, c, slot, hc⟩

/-- A verdict of the boom's hole, whole, which leaves the boom without a claim (R60). -/
theorem State.TableAgrees.boomVerdict_free {s : State} (h : s.TableAgrees) (b : Boom) (v : VerdictReason) (next : CycleState) :
    (s.boomVerdict b v next).TableAgrees ∧ ((s.boomVerdict b v next).unit b).claimHeld = false := by
  unfold State.boomVerdict
  split
  · rename_i i e hc
    obtain ⟨table, beside⟩ := h.tableVerdict hc v
    have unit : ((s.tableVerdict i v).modUnit b fun u => { u with claimHeld := false }).unit b =
        { (s.tableVerdict i v).unit b with claimHeld := false } := State.unit_setUnit_same _ _ _
    have free : (((s.tableVerdict i v).modUnit b fun u => { u with claimHeld := false }).unit b).claimHeld = false := by
      rw [unit]
    have ended : ((s.tableVerdict i v).modUnit b fun u => { u with claimHeld := false }).TableAgrees :=
      ⟨table.congr (.of rfl rfl rfl), (beside.modUnit _).sound free⟩
    have kept := State.KeepsTable.trans (.releaseFlow ((s.tableVerdict i v).modUnit b fun u => { u with claimHeld := false }) b)
      (.trans (.cancelLoader _ b) (.post _ (.verdict b)))
    have last := kept.trans (.setCycleFree _ b next ((kept.units.claimHeld b).trans free))
    exact ⟨last.agrees ended, (last.units.claimHeld b).trans free⟩
  · rename_i none
    exact ⟨h, h.claims.free none⟩

theorem State.TableAgrees.boomVerdict {s : State} (h : s.TableAgrees) (b : Boom) (v : VerdictReason) (next : CycleState) :
    (s.boomVerdict b v next).TableAgrees := (h.boomVerdict_free b v next).1

end Sys2Proof.Machine

/-! PROOFS. Every deed of the part, and RESTART, keep the table and its claims in agreement. -/

namespace Sys2Proof.Machine

/-! ### Claims -/

theorem offsetDistance_le {x y n : Nat} (h : n ≤ offsetDistance x y) : n ≤ x - y ∨ n ≤ y - x := by
  unfold offsetDistance at h
  omega

/-- An entry that passes the separation check is apart from the other boom's claim (R36). -/
theorem State.ClaimsSound.apart_of_separated {s : State} (h : s.ClaimsSound) {b : Boom} {e : Entry}
    (separated : s.separated b e = true) {j : Slot} {d : Claim} (hd : s.claimOf j = some d) (own : d.boom = b.other)
    {c : Claim} (row : c.row = e.row) (offset : c.offset = e.offset) : c.Apart d s.params.settings.separation := by
  obtain ⟨held, slot⟩ := h.held j d hd
  obtain ⟨o, ho, _, rowO, validityO, offsetO⟩ := State.claimOf_eq_some.1 hd
  rw [own] at held slot
  unfold State.separated at separated
  rw [State.claimedEntry_eq_some.2 ⟨held, slot, ho⟩] at separated
  intro same _ ld
  simp only [Bool.or_eq_true, bne_iff_ne, ne_eq, beq_iff_eq, decide_eq_true_eq] at separated
  rw [offset, ← offsetO]
  refine offsetDistance_le (separated.resolve_left ?_)
  rintro (rows | validity)
  · exact rows (rowO.trans (same.symm.trans row))
  · exact ld (validityO.symm.trans validity)

theorem State.claimed_frame (s : State) (b : Boom) (i : Slot) : (s.claimed b i).slots = (s.modEntry i fun e => e.claimedBy b).slots ∧
    (s.claimed b i).rows = s.rows ∧ (s.claimed b i).backlog = s.backlog ∧ (s.claimed b i).params = s.params ∧
    (s.claimed b i).unit b = { s.unit b with
      cycle := .claimed, workSlot := some i, claimHeld := true, activeSet := (s.unit b).pendingSet } ∧
    (s.claimed b i).unit b.other = s.unit b.other := by
  obtain ⟨x, frame⟩ := State.modEntry_frame s i fun e => e.claimedBy b
  have params : (s.modEntry i fun e => e.claimedBy b).params = s.params := by rw [frame]
  unfold State.claimed
  refine ⟨?_, ?_, ?_, ?_, ?_, ?_⟩ <;> simp [State.setCycle, State.modUnit, params]

theorem State.TableAgrees.takeClaim {s : State} (h : s.TableAgrees) {b : Boom} {i : Slot} {e : Entry}
    (he : s.entry i = some e) (idle : (s.unit b).cycle = .idle)
    (may : s.claimable b (claimValidity (s.unit b).dry) e = true)
    (apart : ((s.unit b).dry || s.separated b e) = true) : (s.claimed b i).TableAgrees := by
  obtain ⟨slots, rows, backlog, params, unit, other⟩ := s.claimed_frame b i
  obtain ⟨⟨⟨validity, planned⟩, opened⟩, _⟩ : ((e.validity = _ ∧ e.holeState = .planned) ∧ s.rowIs e.row .opened = true) ∧ _ := by
    simpa [State.claimable, Bool.and_eq_true] using may
  have marked : (s.modEntry i fun e => e.claimedBy b) = s.setEntry i (some (e.claimedBy b)) := by
    unfold State.modEntry
    rw [he]
  rw [marked] at slots
  have vacant : s.claimOf i = none := State.claimOf_eq_none he (h.table.unclaimed he (by rw [planned]; rfl))
  have stated : (s.setEntry i (some (e.claimedBy b))).TableSound :=
    h.table.restate he rfl (planned ▸ HoleState.not_final_planned) (fun k => k.elim nofun nofun) rfl
      (.inl (State.rowIs_opened.1 opened))
  refine ⟨stated.congr (.of slots rows backlog), ?_⟩
  refine h.claims.take (b := b) (i := i) (c := ⟨b, e.row, e.validity, e.offset⟩) (h.claims.free_of_cycle (.inl idle))
    (fun j => ?_) rfl (by rw [unit]) (by rw [unit]) (by rw [unit]; nofun) (by rw [unit]; nofun) vacant other params
    fun j d hd own => ?_
  · rw [State.SameClaims.of (s := s.setEntry i (some (e.claimedBy b))) slots j, State.claimOf_setEntry]
    rfl
  · rcases Bool.or_eq_true_iff.1 apart with dry | separated
    · rw [dry] at validity
      exact fun _ lc => absurd validity lc
    · exact h.claims.apart_of_separated separated hd own rfl rfl

/-! ### The cycle -/

theorem State.TableAgrees.endDrilling {s : State} (h : s.TableAgrees) (b : Boom) : (s.endDrilling b).TableAgrees := by
  have noted := (State.KeepsTable.trans (.writeDrilledDepth s b) (.setEngine _ b (s.engine b).dropRun)).agrees h
  have drilled := noted.advance b (f := fun e => { e with holeState := .drilled }) (fun _ => rfl) (fun _ => rfl)
    (fun _ => rfl) fun _ => rfl
  exact (State.KeepsTable.leaveStage _ b (c := .withdrawing) nofun nofun).agrees drilled

theorem State.TableAgrees.rejectDrilling {s : State} (h : s.TableAgrees) (b : Boom) (v : VerdictReason) :
    (s.rejectDrilling b v).TableAgrees := by
  unfold State.rejectDrilling
  split
  · exact h.endDrilling b
  · exact .boomVerdict ((State.KeepsTable.trans (.writeDrilledDepth s b) (.setEngine _ b _)).agrees h) b v _

theorem State.TableAgrees.startDrilling {s : State} (h : s.TableAgrees) (b : Boom) : (State.startDrilling b s).TableAgrees := by
  have drilling := h.advance b (f := fun e => { e with
      holeState := .drilling
      result := some (newResult (classLength e.lengthClass - (s.active b).collarAllowance)) })
    (fun _ => rfl) (fun _ => rfl) (fun _ => rfl) fun _ => rfl
  exact State.KeepsTable.agrees (.trans (.trans (.modUnit _ b rfl (fun _ => rfl) fun _ idle halted => ⟨idle, halted⟩)
    (.setCycle _ b (c := .drilling) nofun nofun)) (.requestStage _ b _)) drilling

theorem State.TableAgrees.startSpin {s : State} (h : s.TableAgrees) (b : Boom) : (State.startSpin b s).TableAgrees := by
  have bolted := h.advance b (f := fun e => { e with
      holeState := .bolted, result := e.result.map fun r => { r with spinRevs := some 0 } })
    (fun _ => rfl) (fun _ => rfl) (fun _ => rfl) fun _ => rfl
  exact State.KeepsTable.agrees (.trans (.setCycle _ b (c := .spinning) nofun nofun) (.requestStage _ b _)) bolted

theorem State.TableAgrees.endWithdrawal {s : State} (h : s.TableAgrees) (b : Boom) : (State.endWithdrawal b s).TableAgrees := by
  unfold State.endWithdrawal
  split
  · split
    · rename_i r _
      simp only []
      generalize cartridgeCount (s.active b) r = n
      split
      · unfold State.endDryRun
        simp only []
        split
        · exact .boomVerdict ((State.KeepsTable.updateResult s b _).agrees h) b _ _
        · exact h.boomVerdict b _ _
      · unfold State.beginResin
        split
        · exact State.KeepsTable.agrees (.trans (.trans (.updateResult s b _) (.setCycle _ b (c := .awaitResin) nofun nofun))
            (.requestLoader _ b)) h
        · exact h.boomVerdict b _ _
    · exact h
  · rename_i none
    exact (State.KeepsTable.setCycleFree s b .idle (h.claims.free none)).agrees h

theorem State.KeepsTable.suspendBoom (s : State) (b : Boom) (x : StoredState) : s.KeepsTable (State.suspendBoom b x s) := by
  have left : s.KeepsTable ((s.modUnit b fun u => { u with stored := some x, torqueTimer := u.torqueTimer.pause }).leaveStage b
      .suspended) :=
    .trans (.modUnit s b rfl (fun _ => rfl) fun _ idle halted => ⟨idle, halted⟩) (.leaveStage _ b (c := .suspended) nofun nofun)
  unfold State.suspendBoom
  cases x with
  | drilling => exact left
  | torquing => exact left.trans (.setEngine _ b _)

theorem State.KeepsTable.resumeBoom (s : State) (b : Boom) (x : StoredState) : s.KeepsTable (State.resumeBoom b x s) := by
  refine .trans (.trans (.modUnit s b rfl (fun _ => rfl) fun _ idle halted => ⟨idle, halted⟩) (.setCycle _ b ?_ ?_))
    (.requestStage _ b _) <;> cases x <;> nofun

/-- The table as ABORT leaves it, and the claims of the other boom. -/
theorem State.TableAgrees.disposeAbort {s : State} (h : s.TableAgrees) (b : Boom) :
    (s.disposeAbort b).TableSound ∧ (s.disposeAbort b).ClaimsBeside b := by
  have halted : ∀ {t : State}, t.TableSound → t.ClaimsBeside b →
      (((t.releaseFlow b).cancelLoader b).setCycle b .halted).TableSound ∧
        (((t.releaseFlow b).cancelLoader b).setCycle b .halted).ClaimsBeside b := by
    intro t table beside
    have kept := State.KeepsTable.trans (.releaseFlow t b) (.cancelLoader _ b)
    exact ⟨(table.congr kept.table).congr (.of rfl rfl rfl),
      (((beside.congr kept.table.sameClaims kept.units).modUnit fun u => { u with cycle := .halted, workSlot := none })).congr
        (.of rfl) (.of rfl rfl)⟩
  unfold State.disposeAbort
  split
  · rename_i i e hc
    split
    · obtain ⟨table, beside⟩ := h.returnEntry hc
      exact halted table beside
    · obtain ⟨judged, free⟩ := ((State.KeepsTable.noteDepth s b e).agrees h).boomVerdict_free b .aborted .halted
      exact ⟨judged.table, judged.claims.beside free⟩
  · rename_i none
    exact halted h.table (h.claims.beside (h.claims.free none))

theorem State.TableAgrees.abortBoom {s : State} (h : s.TableAgrees) (b : Boom) : (State.abortBoom b s).TableAgrees := by
  obtain ⟨table, beside⟩ := h.disposeAbort b
  have unit : ((s.disposeAbort b).modUnit b BoomUnit.cleared).unit b = ((s.disposeAbort b).unit b).cleared :=
    State.unit_setUnit_same _ _ _
  have cleared : ((s.disposeAbort b).modUnit b BoomUnit.cleared).TableAgrees :=
    ⟨table.congr (.of rfl rfl rfl), (beside.modUnit _).sound (by rw [unit]; rfl)⟩
  exact (State.KeepsTable.setEngine _ b _).agrees cleared

/-! ### Samples -/

theorem State.TableAgrees.drillSample {s : State} (h : s.TableAgrees) (b : Boom) (x : Sample) :
    (s.drillSample b x).TableAgrees := by
  unfold State.drillSample
  split
  · split
    · simp only []
      generalize DrillRun.sample _ _ _ = d
      have applied := (State.KeepsTable.applyRun s b d.1).agrees h
      cases d.2 with
      | goesOn => exact applied
      | extended => exact (State.KeepsTable.post _ _).agrees applied
      | reached => exact applied.endDrilling b
      | overVoid => exact applied.rejectDrilling b _
    · exact h
  · exact h

theorem State.TableAgrees.spinSample {s : State} (h : s.TableAgrees) (b : Boom) (x : Sample) :
    (s.spinSample b x).TableAgrees := by
  have counted : ∀ (e : Engine) (f : Result → Result), s.KeepsTable ((s.setEngine b e).updateResult b f) := fun e f =>
    .trans (.setEngine s b e) (.updateResult _ b f)
  unfold State.spinSample
  simp only []
  split
  · exact ((counted _ _).trans (.spinComplete _ b)).agrees h
  · exact (counted _ _).agrees h

theorem State.TableAgrees.torqueSample {s : State} (h : s.TableAgrees) (b : Boom) (x : Sample) :
    (s.torqueSample b x).TableAgrees := by
  have judged : s.KeepsTable (s.judge b x) := .trans (.setEngine s b _) (.updateResult _ b _)
  have replaced : ∀ e : Engine, s.KeepsTable ((s.judge b x).setEngine b e) := fun e => judged.trans (.setEngine _ b e)
  rw [State.torqueSample_eq]
  split
  · exact .boomVerdict ((judged.trans (.updateResult _ b _)).agrees h) b _ _
  · split
    · split
      · exact .boomVerdict (judged.agrees h) b _ _
      · simp only []
        split
        · exact .boomVerdict ((replaced _).agrees h) b _ _
        · exact (replaced _).agrees h
    · simp only []
      split
      · exact ((replaced _).trans (.updateResult _ b _)).agrees h
      · exact (replaced _).agrees h

theorem State.TableAgrees.engineSample {s : State} (h : s.TableAgrees) (b : Boom) (x : Sample) :
    (s.engineSample b x).TableAgrees := by
  unfold State.engineSample
  split
  · exact h.drillSample b x
  · exact h.spinSample b x
  · unfold State.setSample
    split
    · exact h.boomVerdict b _ _
    · exact h
  · unfold State.torquingSample
    split
    · exact h.torqueSample b x
    · exact h
  · exact h

theorem State.TableAgrees.admitSample {s : State} (h : s.TableAgrees) (b : Boom) (raw : RawSample) :
    (s.admitSample b raw).TableAgrees := by
  have sampled : ∀ {t : State}, s.KeepsTable t → ((t.engineSample b raw.clamp).watchFlush b raw.clamp).TableAgrees :=
    fun k => (State.KeepsTable.watchFlush _ b _).agrees ((k.agrees h).engineSample b raw.clamp)
  unfold State.admitSample
  simp only []
  refine (State.KeepsTable.setLane _ b _).agrees ?_
  split
  · exact sampled (.trans (.trans (.setLane s b _) (.countFaults _ b _)) (.laneMark _ b))
  · exact sampled (.trans (.setLane s b _) (.countFaults _ b _))

theorem State.TableAgrees.takeCharacter {s : State} (h : s.TableAgrees) (b : Boom) (c : Byte) (good : Bool) :
    (s.takeCharacter b c good).TableAgrees := by
  unfold State.takeCharacter
  split
  · exact h
  · split
    · split
      · exact (State.KeepsTable.setLane s b _).agrees h
      · exact h
    · split
      · exact (State.KeepsTable.tearFrame s b).agrees h
      · split
        · exact (State.KeepsTable.setLane s b _).agrees h
        · have hunting := (State.KeepsTable.setLane s b { s.lane b with framer := .hunting }).agrees h
          unfold State.completeFrame
          simp only []
          split
          · exact hunting.admitSample b _
          · exact (State.KeepsTable.discardFault _ b).agrees hunting

/-! ### The loader's events -/

theorem State.TableAgrees.deliver {s : State} (h : s.TableAgrees) (g : LoaderGrant) : (s.deliver g).TableAgrees := by
  have counted := (State.KeepsTable.updateResult s g.boom fun r => { r with cartDelivered := some (g.delivered + 1) }).agrees h
  unfold State.deliver
  simp only []
  split
  · have resined := counted.advance g.boom (f := fun e => { e with holeState := .resined }) (fun _ => rfl) (fun _ => rfl)
      (fun _ => rfl) fun _ => rfl
    exact State.KeepsTable.agrees (.trans (.trans (.endGrant _) (.setCycle _ g.boom (c := .awaitBolt) nofun nofun))
      (.serveLoader _)) resined
  · exact (State.KeepsTable.setLoader _ _).agrees counted

theorem State.TableAgrees.loaderDone {s : State} (h : s.TableAgrees) : s.loaderDone.TableAgrees := by
  have spent : s.KeepsTable s.spendCartridge := .setLoader s _
  unfold State.loaderDone
  split
  · split
    · exact (spent.trans (.trans (.endGrant _) (.serveLoader _))).agrees h
    · exact (spent.agrees h).deliver _
  · exact (spent.trans (.serveLoader _)).agrees h

theorem State.KeepsTable.loaderJam (s : State) : s.KeepsTable s.loaderJam := by
  unfold State.loaderJam
  simp only []
  split
  · split <;> exact .setLoader s _
  · exact .setLoader s _

theorem State.KeepsTable.fireLoader (s : State) : s.KeepsTable s.fireLoader := by
  unfold State.fireLoader
  split <;> exact .setLoader s _

theorem State.TableAgrees.clearLoader {s : State} (h : s.TableAgrees) : s.clearLoader.TableAgrees := by
  unfold State.clearLoader
  split
  · exact (State.KeepsTable.serveLoader s).agrees h
  · split
    · exact (State.KeepsTable.trans (.endGrant s) (.serveLoader _)).agrees h
    · split
      · exact (State.KeepsTable.serveLoader _).agrees (((State.KeepsTable.endGrant s).agrees h).boomVerdict _ _ _)
      · exact (State.KeepsTable.setLoader s _).agrees h

/-! ### Every deed -/

theorem State.TableAgrees.claimCancelled {s : State} (h : s.TableAgrees) {b : Boom} {i : Slot} {e : Entry}
    (hc : s.claimedEntry b = some (i, e)) : (s.claimCancelled b i).TableAgrees := by
  obtain ⟨table, beside⟩ := h.returnEntry hc
  have unit : ((s.returnEntry i).modUnit b fun u => { u with claimHeld := false }).unit b =
      { (s.returnEntry i).unit b with claimHeld := false } := State.unit_setUnit_same _ _ _
  have free : (((s.returnEntry i).modUnit b fun u => { u with claimHeld := false }).unit b).claimHeld = false := by rw [unit]
  exact (State.KeepsTable.setCycleFree _ b .idle free).agrees
    ⟨table.congr (.of rfl rfl rfl), (beside.modUnit _).sound free⟩

theorem State.KeepsTable.setArbiter (s : State) (a : Arbiter) : s.KeepsTable (s.setArbiter a) := .of rfl rfl rfl rfl rfl

theorem State.KeepsTable.refreshAtn (s : State) : s.KeepsTable s.refreshAtn := .of rfl rfl rfl rfl rfl

theorem State.Act.tableAgrees {s v : State} (act : s.Act v) (h : s.TableAgrees) : v.TableAgrees := by
  cases act with
  | nothing => exact h
  | claim he idle may apart => exact h.takeClaim he idle may apart
  | cancelClaim _ hc => exact h.claimCancelled hc
  | collared => exact h.startDrilling _
  | bitOut => exact h.endWithdrawal _
  | boltIn => exact h.startSpin _
  | suspend => exact (State.KeepsTable.suspendBoom s _ _).agrees h
  | resume => exact (State.KeepsTable.resumeBoom s _ _).agrees h
  | abort => exact h.abortBoom _
  | @clear b halted => exact (State.KeepsTable.setCycleFree s b .idle (h.claims.free_of_cycle (.inr halted))).agrees h
  | @dry b x _ =>
    exact (State.KeepsTable.trans (.modUnit s b rfl (fun _ => rfl) fun _ idle halted => ⟨idle, halted⟩) (.setLane _ b _)).agrees h
  | clearJam => exact h.clearLoader
  | derate => exact (State.KeepsTable.trans (.setArbiter s _) (.servicePass _)).agrees h
  | sample => exact h.admitSample _ _
  | character => exact h.takeCharacter _ _ _
  | gap => exact (State.KeepsTable.tearFrame s _).agrees h
  | loss => exact (State.KeepsTable.loseLane s _).agrees h
  | period => exact (State.KeepsTable.trans (.transferCount s _) (.setLane _ _ _)).agrees h
  | abandon => exact h.rejectDrilling _ _
  | spinMax => exact h.boomVerdict _ _ _
  | setTimer => exact (State.KeepsTable.enterTorquing s _).agrees h
  | torqueStage => exact h.boomVerdict _ _ _
  | fire => exact (State.KeepsTable.fireLoader s).agrees h
  | pulseEnd => exact (State.KeepsTable.setLoader s _).agrees h
  | done => exact h.loaderDone
  | jam => exact (State.KeepsTable.loaderJam s).agrees h

/-- With both booms IDLE there is no claim, so the settings can be any. -/
theorem State.TableAgrees.setSettings {s : State} (h : s.TableAgrees) (idle : ∀ b, (s.unit b).cycle = .idle) (x : Settings) :
    (s.setParams { s.params with settings := x }).TableAgrees := by
  have free : ∀ b, (s.unit b).claimHeld = false := fun b => h.claims.free_of_cycle (.inl (idle b))
  exact ⟨h.table.congr (.of rfl rfl rfl), h.claims.held, fun b hb => absurd ((free b).symm.trans hb) nofun,
    fun i j c d hc => absurd ((free c.boom).symm.trans (h.claims.held i c hc).1) nofun⟩

theorem State.KeepsTable.takeEffect (s : State) (p : Port) (x : ReadEffect) : s.KeepsTable (s.takeEffect p x) := by
  unfold State.takeEffect
  split
  · exact .refl s
  · simp only []
    split
    · refine ⟨.trans (t := s.setPort p _) (.of rfl rfl rfl) (.modEntry _ _ (f := Entry.drain) fun _ => rfl), ?_⟩
      obtain ⟨_, frame⟩ := State.modEntry_frame (s.setPort p { s.port p with cursor := _ }) _ Entry.drain
      rw [frame]
      exact .of rfl rfl
    · exact .of rfl rfl rfl rfl rfl
  · exact .of rfl rfl rfl rfl rfl

theorem State.KeepsTable.refillTo (n : Nat) (s : State) : s.KeepsTable (s.refillTo n) := by
  obtain ⟨_, frame⟩ := State.refillTo_frame n s
  rw [frame]
  exact .of rfl rfl rfl rfl rfl

theorem State.KeepsTable.acting {s t : State} (h : s.KeepsTable t) : s.KeepsTable (t.sync.offersSince s) :=
  h.trans (.trans (.sync t) (.offersSince _ s))

theorem State.Setting.tableAgrees {s u : State} (set : s.Setting u) (h : s.TableAgrees) : u.TableAgrees := by
  cases set with
  | configured | searched | setProtection => exact State.KeepsTable.agrees (s := s) (.of rfl rfl rfl rfl rfl) h
  | writeSet n v m =>
    have params : ∀ x, (s.params.put n x).settings = s.params.settings := fun x => by cases n <;> rfl
    exact ⟨h.table.congr (.of rfl rfl rfl), h.claims.congr (.of rfl)
      ⟨fun _ => rfl, fun _ _ => rfl, fun _ _ idle halted => ⟨idle, halted⟩, congrArg Settings.separation (params _)⟩⟩
  | writeBoth =>
    exact ⟨h.table.congr (.of rfl rfl rfl), h.claims.congr (.of rfl)
      ⟨fun _ => rfl, fun _ _ => rfl, fun _ _ idle halted => ⟨idle, halted⟩, rfl⟩⟩
  | effect p x => exact (State.KeepsTable.takeEffect s p x).agrees h
  | settings _ _ _ a b =>
    exact (State.KeepsTable.offersSince _ s).agrees (h.setSettings (fun c => by cases c <;> assumption) _)
  | refill => exact (State.KeepsTable.trans (.refillTo _ s) (.offersSince _ s)).agrees h
  | supplyLoss => exact (State.KeepsTable.acting (s := s) (t := { s with supplyUp := false }) (.of rfl rfl rfl rfl rfl)).agrees h
  | resetRelease =>
    exact (State.KeepsTable.trans (.acting (s := s) (t := { s with resetLow := false }) (.of rfl rfl rfl rfl rfl))
      (.refreshAtn _)).agrees h

theorem State.Deed.tableAgrees {s u : State} (deed : s.Deed u) (h : s.TableAgrees) : u.TableAgrees := by
  have selected : ∀ (t : State) b n, t.KeepsTable (t.modUnit b (BoomUnit.select n)) := fun t b n =>
    .modUnit t b rfl (fun _ => rfl) fun _ idle halted => ⟨idle, halted⟩
  cases deed with
  | nothing => exact h
  | act act => exact (State.KeepsTable.trans (.sync _) (.offersSince _ s)).agrees (act.tableAgrees h)
  | table deed => exact deed.agrees h
  | set set => exact set.tableAgrees h
  | selectBoth n => exact ((selected s .A n).trans (selected _ .B n)).agrees h
  | select b n => exact (selected s b n).agrees h
  | takeCount => exact (State.KeepsTable.transferCount s _).agrees h
  | reportMode => exact (State.KeepsTable.setLane s _ _).agrees h

theorem State.SameButFrames.keepsTable {s t : State} (h : s.SameButFrames t) : s.KeepsTable t := by
  rw [h.blocks]
  exact .of rfl rfl rfl rfl rfl

/-! ### RESTART -/

theorem State.disposeRestart_units (s : State) (b : Boom) : (s.disposeRestart b).units = s.units := by
  unfold State.disposeRestart
  split
  · split
    · rfl
    · unfold State.noteDepth
      split
      · simp [State.writeDrilledDepth]
      · simp
  · rfl

theorem State.claimedSlot_eq_some {s : State} {b : Boom} {i : Slot} {e : Entry} (h : s.claimedEntry b = some (i, e)) (j : Slot) :
    s.claimedSlot b = some j ↔ j = i := by
  unfold State.claimedSlot
  rw [h, Option.map_some, Option.some.injEq]
  exact eq_comm

/-- The hole of a boom disposed of at RESTART: its claim is gone, and every other stays (R24). -/
theorem State.TableSound.disposeRestart {s : State} (h : s.TableSound) {b : Boom}
    (claimant : ∀ i e, s.claimedEntry b = some (i, e) → e.claimant = some b) :
    (s.disposeRestart b).TableSound ∧
      ∀ j, (s.disposeRestart b).claimOf j = if s.claimedSlot b = some j then none else s.claimOf j := by
  unfold State.disposeRestart
  split
  · rename_i i e hc
    obtain ⟨_, _, he⟩ := State.claimedEntry_eq_some.1 hc
    have mine := claimant i e hc
    have claimed : e.holeState.isClaimed = true := by
      rw [← h.named i e he, mine]
      rfl
    split
    · refine ⟨h.restate he rfl (HoleState.not_final_of_claimed claimed) HoleState.not_final_planned rfl
        (.inl (h.open_of_unsettled he (HoleState.unsettled_of_claimed claimed))), fun j => ?_⟩
      rw [State.claimOf_setEntry]
      exact if_congr (State.claimedSlot_eq_some hc j).symm rfl rfl
    · have noted := (State.KeepsTable.noteDepth s b e).table
      obtain ⟨f, hf, _, _, same, _⟩ := noted.symm.entry he
      have judged := (h.congr noted).tableVerdict hf (by rw [← same, mine]; rfl) .restart
      refine ⟨judged.congr (.of rfl rfl rfl), fun j => ?_⟩
      refine (State.claimOf_tableVerdict hf .restart j).trans ?_
      rw [noted.sameClaims j]
      exact if_congr (State.claimedSlot_eq_some hc j).symm rfl rfl
  · rename_i none
    refine ⟨h, fun j => ?_⟩
    unfold State.claimedSlot
    rw [none]
    rfl

theorem State.claimedEntry_congr {s t : State} {b : Boom} (units : t.units = s.units) {i : Slot} {e : Entry}
    (h : t.claimedEntry b = some (i, e)) : (s.unit b).claimHeld = true ∧ (s.unit b).workSlot = some i := by
  obtain ⟨held, slot, _⟩ := State.claimedEntry_eq_some.1 h
  unfold State.unit at *
  rw [units] at held slot
  exact ⟨held, slot⟩

/-- After both dispositions of RESTART the table agrees and holds no claim. -/
theorem State.TableAgrees.disposed {s : State} (h : s.TableAgrees) :
    ((s.disposeRestart .A).disposeRestart .B).TableSound ∧ ∀ j, ((s.disposeRestart .A).disposeRestart .B).claimOf j = none := by
  obtain ⟨first, claimsA⟩ := h.table.disposeRestart (b := .A) fun i e hc => h.claims.claimant hc
  have units := s.disposeRestart_units .A
  have apart : ∀ {i c}, s.claimOf i = some c → c.boom = .B → s.claimedSlot .A ≠ some i := fun {i c} hc own slot => by
    obtain ⟨⟨j, e⟩, found, same⟩ := Option.map_eq_some_iff.1 slot
    obtain rfl : j = i := same
    obtain ⟨_, _, he⟩ := State.claimedEntry_eq_some.1 found
    obtain ⟨f, hf, claimant, _⟩ := State.claimOf_eq_some.1 hc
    rw [← Option.some.inj (he.symm.trans hf), h.claims.claimant found, own] at claimant
    exact absurd claimant nofun
  obtain ⟨second, claimsB⟩ := first.disposeRestart (b := .B) fun i e hc => by
    obtain ⟨held, slot⟩ := State.claimedEntry_congr units hc
    obtain ⟨_, _, j, c, slot', hj, own⟩ := h.claims.working .B held
    obtain rfl := Option.some.inj (slot.symm.trans slot')
    have still := claimsA i
    rw [if_neg (apart hj own), hj] at still
    obtain ⟨f, hf, claimant, _⟩ := State.claimOf_eq_some.1 still
    obtain ⟨_, _, he⟩ := State.claimedEntry_eq_some.1 hc
    rw [← Option.some.inj (hf.symm.trans he), claimant, own]
  refine ⟨second, fun j => ?_⟩
  rw [claimsB]
  split
  · rfl
  · rename_i away
    cases hj : (s.disposeRestart .A).claimOf j with
    | none => rfl
    | some c =>
      have before := claimsA j
      rw [hj] at before
      split at before
      · exact absurd before nofun
      · rename_i other
        obtain ⟨held, slot⟩ := h.claims.held j c before.symm
        cases own : c.boom with
        | A =>
          obtain ⟨e, he, _⟩ := State.claimOf_eq_some.1 before.symm
          rw [own] at held slot
          exact absurd ((State.claimedSlot_eq_some (State.claimedEntry_eq_some.2 ⟨held, slot, he⟩) j).2 rfl) other
        | B =>
          obtain ⟨e, he, _⟩ := State.claimOf_eq_some.1 hj
          have same : (s.disposeRestart .A).unit .B = s.unit .B := by
            unfold State.unit
            rw [units]
          rw [own, ← same] at held slot
          exact absurd ((State.claimedSlot_eq_some (State.claimedEntry_eq_some.2 ⟨held, slot, he⟩) j).2 rfl) away

theorem State.TableSound.closeDisposed {s : State} (h : s.TableSound) (before : State) (b : Boom) :
    (s.closeDisposed before b).TableSound ∧ s.SameClaims (s.closeDisposed before b) := by
  unfold State.closeDisposed
  split
  · exact ⟨h.closingCheck _, .closingCheck s _⟩
  · exact ⟨h, .refl s⟩

theorem State.SameTable.restartPosts (s before : State) (b : Boom) : s.SameTable (s.restartPosts before b) := by
  unfold State.restartPosts
  simp only []
  split <;> split <;> exact .of rfl rfl rfl

theorem State.TableAgrees.restartPart {s : State} (h : s.TableAgrees) : s.restartPart.TableAgrees := by
  have cleared : (s.mapPorts PortState.restartNotices).TableAgrees := State.KeepsTable.agrees (s := s) (.of rfl rfl rfl rfl rfl) h
  obtain ⟨disposed, none⟩ := cleared.disposed
  obtain ⟨closedA, sameA⟩ := disposed.closeDisposed s .A
  obtain ⟨closedB, sameB⟩ := closedA.closeDisposed s .B
  have posted := State.SameTable.trans (.restartPosts _ s .A) (.restartPosts
    (((((s.mapPorts PortState.restartNotices).disposeRestart .A).disposeRestart .B).closeDisposed s .A).closeDisposed s
      .B |>.restartPosts s .A) s .B)
  have last : s.restartDisposed.SameTable s.restartPart := by
    rw [State.restartPart_eq]
    exact .of rfl rfl rfl
  have claims : ∀ j, s.restartPart.claimOf j = Option.none := fun j =>
    (last.sameClaims j).trans ((posted.sameClaims j).trans ((sameB j).trans ((sameA j).trans (none j))))
  have free : ∀ b, (s.restartPart.unit b).claimHeld = false := fun b => by cases b <;> rfl
  exact ⟨(closedB.congr posted).congr last, fun i c hc => absurd ((claims i).symm.trans hc) nofun,
    fun b hb => absurd ((free b).symm.trans hb) nofun, fun i j c d hc => absurd ((claims i).symm.trans hc) nofun⟩

/-! ### Every step -/

theorem State.Blank.tableAgrees {t : State} (h : t.Blank) : t.TableAgrees := by
  obtain ⟨table, claims⟩ := (State.tableAgrees_iff t).1 ⟨h.rowsAgree, h.claimsAgree, h.claimsApart⟩
  exact ⟨table, claims⟩

theorem exec_tableAgrees {c : Instr} {s t : State} (ran : exec c s = .next t) (h : s.TableAgrees) : t.TableAgrees := by
  by_cases powerOn : c = .powerOn
  · subst powerOn
    exact (execPowerOn_blank ran).tableAgrees
  by_cases resetN : c = .resetN
  · subst resetN
    exact (execResetN_blank ran).tableAgrees
  by_cases restart : ∃ p, c = .restart p
  · obtain ⟨p, rfl⟩ := restart
    rcases execRestart_cases ran with same | ⟨_, _, rfl⟩
    · exact same.keepsTable.agrees h
    · exact ((State.SameButFrames.setFrame s .C .idle).keepsTable.agrees h).restartPart
  · obtain ⟨v, u, before, deed, after⟩ := exec_does ran powerOn resetN fun p k => restart ⟨p, k⟩
    exact after.keepsTable.agrees (deed.tableAgrees (before.keepsTable.agrees h))

theorem State.KeepsTable.tick (s : State) : s.KeepsTable s.tick := by
  unfold State.tick
  split
  · exact .refl s
  · refine ⟨.of rfl rfl rfl, fun b => ?_, fun b _ => ?_, fun b _ idle halted => ?_, rfl⟩ <;> cases b
    · rfl
    · rfl
    · rfl
    · rfl
    · exact ⟨idle, halted⟩
    · exact ⟨idle, halted⟩

/-- Settles O58: the three invariants are those of the table by itself and of its claims (`State.tableAgrees_iff`), and
every deed keeps both. -/
theorem stepKeepsTableAgreed : Obligations.StepKeepsTableAgreed := by
  unfold Obligations.StepKeepsTableAgreed
  intro s t rows claims apart ran
  obtain ⟨table, sound⟩ := (State.tableAgrees_iff s).1 ⟨rows, claims, apart⟩
  have agrees : s.TableAgrees := ⟨table, sound⟩
  have after : t.TableAgrees := by
    rcases step_cases s with ⟨_, ticks⟩ | ⟨i, rest, _, runs⟩
    · obtain rfl := Host.Outcome.next.inj (ticks.symm.trans ran)
      exact (State.KeepsTable.tick s).agrees agrees
    · have taken : ({ s with pending := rest } : State).TableAgrees :=
        State.KeepsTable.agrees (s := s) (.of rfl rfl rfl rfl rfl) agrees
      exact exec_tableAgrees (runs.symm.trans ran) taken
  exact (State.tableAgrees_iff t).2 ⟨after.table, after.claims⟩

end Sys2Proof.Machine

/-! ### Steps and ticks -/

namespace Sys2Proof.Machine

open Sys2Proof Sys2Proof.Machine

/-- Settles O1: `step` takes the command off the front of the queue and runs it. -/
theorem stepRunsFrontCommand : Obligations.StepRunsFrontCommand := fun _ _ _ => rfl

theorem mem_dueIf {x : Bool} {i j : Instr} : j ∈ dueIf x i ↔ x = true ∧ j = i := by
  cases x <;> simp [dueIf]

theorem dueIf_sublist (x : Bool) (i : Instr) : (dueIf x i).Sublist [i] := by
  cases x <;> simp [dueIf]

theorem Lane.due_sublist (l : Lane) (b : Boom) :
    (l.due b).Sublist [.gapTimerExpiry b, .lossTimerExpiry b, .reportPeriodExpiry b] :=
  ((dueIf_sublist _ _).append (dueIf_sublist _ _)).append (dueIf_sublist _ _)

theorem BoomUnit.due_sublist (u : BoomUnit) (q : ParamSet) (b : Boom) :
    (u.due q b).Sublist [.laneAbandonExpiry b, .spinMaxExpiry b, .setTimerExpiry b, .torqueStageExpiry b] :=
  (((dueIf_sublist _ _).append (dueIf_sublist _ _)).append (dueIf_sublist _ _)).append (dueIf_sublist _ _)

theorem Loader.due_sublist (l : Loader) :
    l.due.Sublist [.settleExpiry, .doneTimeoutExpiry, .loaderGapExpiry, .firePulseEnd] := by
  refine List.Sublist.append (l₂ := [.settleExpiry, .doneTimeoutExpiry, .loaderGapExpiry]) ?_ (dueIf_sublist _ _)
  split
  · exact (dueIf_sublist _ _).trans (by decide)
  · exact (dueIf_sublist _ _).trans (by decide)
  · exact (dueIf_sublist _ _).trans (by decide)
  · exact List.nil_sublist _

/-- No expiry comes twice: the expiries of a tick are some of those that there are, in their order. -/
theorem State.due_nodup (s : State) : s.due.Nodup :=
  List.Sublist.nodup
    (((((Lane.due_sublist _ _).append (Lane.due_sublist _ _)).append (BoomUnit.due_sublist _ _ _)).append
      (BoomUnit.due_sublist _ _ _)).append (Loader.due_sublist _)) (by decide)

/-- The order that Config leaves free is an order of the same expiries. -/
theorem anyOrder_perm (tick : Nat) (l : List Instr) : (anyOrder tick l).Perm l := by
  have place : ∀ (l acc : List Instr), (l.foldl (fun acc i =>
      match acc with
      | [] => [i]
      | _ :: _ => acc.insertIdx (Config.expiryPlace tick acc.length % (acc.length + 1)) i) acc).Perm (acc ++ l) := by
    intro l
    induction l with
    | nil => simp
    | cons i rest ih =>
      intro acc
      refine (ih _).trans ?_
      cases acc with
      | nil => simp
      | cons x xs =>
        have h := List.perm_insertIdx i (x :: xs)
          (Nat.lt_succ_iff.1 (Nat.mod_lt (Config.expiryPlace tick (x :: xs).length) (Nat.succ_pos (x :: xs).length)))
        exact (h.append_right rest).trans List.perm_middle.symm
  exact place l []

theorem tickTimer_expired {d : Nat} {t : Option Nat} :
    expired d (tickTimer t) = true ↔ ∃ n, t = some n ∧ d ≤ n + 1 := by
  cases t <;> simp [tickTimer, expired]

theorem Framer.tick_gap_expired {f : Framer} :
    expired gapTime f.tick.gap = true ↔ ∃ held n, f = .inFrame held n := by
  cases f <;> simp [Framer.tick, Framer.gap, expired, gapTime]

theorem TorqueTimer.tick_expired {d : Nat} {x : TorqueTimer} :
    expired d x.tick.elapsed = true ↔ ∃ n, x = .running n ∧ d ≤ n + 1 := by
  cases x <;> simp [TorqueTimer.tick, TorqueTimer.elapsed, expired]

/-- A lane's expiries after a tick name the lane and one of its three timers that has run its time. -/
theorem Lane.mem_due_tick {l : Lane} {b : Boom} {i : Instr} :
    i ∈ l.tick.due b ↔ (i = .gapTimerExpiry b ∧ ∃ held n, l.framer = .inFrame held n) ∨
      (i = .lossTimerExpiry b ∧ ∃ n, l.lossTimer = some n ∧ 50 ≤ n + 1) ∨
      (i = .reportPeriodExpiry b ∧ ∃ n, l.reportTimer = some n ∧ 1000 ≤ n + 1) := by
  simp only [Lane.due, Lane.tick, List.mem_append, mem_dueIf, Framer.tick_gap_expired, tickTimer_expired, lossTime,
    reportPeriod, or_assoc, and_comm (b := i = _)]

theorem BoomUnit.mem_due_tick {u : BoomUnit} {q : ParamSet} {b : Boom} {i : Instr} :
    i ∈ u.tick.due q b ↔ (i = .laneAbandonExpiry b ∧ ∃ n, u.abandonTimer = some n ∧ q.laneAbandon ≤ n + 1) ∨
      (i = .spinMaxExpiry b ∧ ∃ n, u.spinTimer = some n ∧ q.spinMax ≤ n + 1) ∨
      (i = .setTimerExpiry b ∧ ∃ n, u.setTimer = some n ∧ q.setTime ≤ n + 1) ∨
      (i = .torqueStageExpiry b ∧ ∃ n, u.torqueTimer = .running n ∧ q.torqueStage ≤ n + 1) := by
  simp only [BoomUnit.due, BoomUnit.tick, List.mem_append, mem_dueIf, tickTimer_expired, TorqueTimer.tick_expired,
    or_assoc, and_comm (b := i = _)]

/-- The loader's stage timer brings the expiry that the loader's state gives it. -/
theorem Loader.mem_due_tick {l : Loader} {i : Instr} :
    i ∈ l.tick.due ↔
      (i = .settleExpiry ∧ l.state = .diverting ∧ ∃ n, l.stageTimer = some n ∧ 300 ≤ n + 1) ∨
      (i = .doneTimeoutExpiry ∧ l.state = .firing ∧ ∃ n, l.stageTimer = some n ∧ 3000 ≤ n + 1) ∨
      (i = .loaderGapExpiry ∧ l.state = .gap ∧ ∃ n, l.stageTimer = some n ∧ 200 ≤ n + 1) ∨
      (i = .firePulseEnd ∧ ∃ n, l.pulseTimer = some n ∧ 20 ≤ n + 1) := by
  rcases l with ⟨state, grant, queue, magazine, stage, divert, fire, pulse⟩
  cases state <;>
    simp only [Loader.due, Loader.tick, List.mem_append, mem_dueIf, tickTimer_expired, settleTime, doneTimeout,
      loaderGapTime, firePulse, List.not_mem_nil, reduceCtorEq, false_and, and_false, true_and, false_or,
      and_comm (b := i = _)]

/-- The expiries that a tick brings. -/
theorem State.mem_due_advance {s : State} {i : Instr} :
    i ∈ s.advance.due ↔ (∃ b, i ∈ (s.lane b).tick.due b) ∨ (∃ b, i ∈ (s.unit b).tick.due (s.active b) b) ∨
      i ∈ s.loader.tick.due := by
  have split : i ∈ s.advance.due ↔ ((((i ∈ (s.lane .A).tick.due .A ∨ i ∈ (s.lane .B).tick.due .B) ∨
      i ∈ (s.unit .A).tick.due (s.active .A) .A) ∨ i ∈ (s.unit .B).tick.due (s.active .B) .B) ∨
      i ∈ s.loader.tick.due) := by
    simp only [State.due, List.mem_append]
    rfl
  rw [split]
  constructor
  · rintro ((((h | h) | h) | h) | h)
    · exact .inl ⟨.A, h⟩
    · exact .inl ⟨.B, h⟩
    · exact .inr (.inl ⟨.A, h⟩)
    · exact .inr (.inl ⟨.B, h⟩)
    · exact .inr (.inr h)
  · rintro (⟨b, h⟩ | ⟨b, h⟩ | h)
    · cases b
      · exact .inl (.inl (.inl (.inl h)))
      · exact .inl (.inl (.inl (.inr h)))
    · cases b
      · exact .inl (.inl (.inr h))
      · exact .inl (.inr h)
    · exact .inr h

theorem State.advance_unit (s : State) (b : Boom) : s.advance.unit b = (s.unit b).tick := by
  cases b <;> rfl

theorem State.advance_lane (s : State) (b : Boom) : s.advance.lane b = (s.lane b).tick := by
  cases b <;> rfl

/-- Settles O2: a tick is `State.advance`, and its expiries are the members of `due`, in any order. -/
theorem idleStepTicksTimers : Obligations.IdleStepTicksTimers := by
  intro s idle
  have ticks : step s = .next s.tick := by
    unfold step
    rw [idle]
  refine ⟨fun held => ?_, fun running => ⟨s.tick, ticks, ?_⟩⟩
  · rw [ticks]
    unfold State.tick
    rw [if_pos held]
  · have eq : s.tick = { s.advance with pending := anyOrder s.tickCount s.advance.due } := by
      unfold State.tick
      rw [if_neg (Bool.eq_false_iff.1 running), show s.advance.pending = [] from idle, List.nil_append]
    rw [eq]
    have mem : ∀ i, i ∈ anyOrder s.tickCount s.advance.due ↔ (∃ b, i ∈ (s.lane b).tick.due b) ∨
        (∃ b, i ∈ (s.unit b).tick.due (s.active b) b) ∨ i ∈ s.loader.tick.due :=
      fun i => (anyOrder_perm _ _).mem_iff.trans State.mem_due_advance
    refine ⟨fun b => ?_, rfl, rfl, rfl, rfl, (anyOrder_perm _ _).nodup_iff.2 (State.due_nodup _), fun b => ?_, ?_, ?_,
      ?_, ?_, ⟨rfl, rfl, rfl, rfl⟩, rfl, rfl, rfl, rfl⟩
    · change (s.advance.unit b).abandonTimer = _ ∧ (s.advance.unit b).spinTimer = _ ∧
        (s.advance.unit b).setTimer = _ ∧ (∀ n, _ → (s.advance.unit b).torqueTimer = _) ∧
        (_ → (s.advance.unit b).torqueTimer = _) ∧ (s.advance.lane b).lossTimer = _ ∧
        (s.advance.lane b).reportTimer = _ ∧ (_ → (s.advance.lane b).framer = _) ∧
        (∀ held n, _ → (s.advance.lane b).framer = _) ∧
        s.advance.unit b = { s.unit b with
          abandonTimer := (s.advance.unit b).abandonTimer, spinTimer := (s.advance.unit b).spinTimer
          setTimer := (s.advance.unit b).setTimer, torqueTimer := (s.advance.unit b).torqueTimer } ∧
        s.advance.lane b = { s.lane b with
          framer := (s.advance.lane b).framer, lossTimer := (s.advance.lane b).lossTimer
          reportTimer := (s.advance.lane b).reportTimer }
      rw [s.advance_unit, s.advance_lane]
      refine ⟨rfl, rfl, rfl, fun n h => ?_, fun h => ?_, rfl, rfl, fun h => ?_, fun held n h => ?_, rfl, rfl⟩
      · simp only [BoomUnit.tick, h, TorqueTimer.tick]
      · cases k : (s.unit b).torqueTimer with
        | running n => exact absurd k (h n)
        | notStarted | paused => simp only [BoomUnit.tick, k, TorqueTimer.tick]
      · simp only [Lane.tick, h, Framer.tick]
      · simp only [Lane.tick, h, Framer.tick]
    all_goals
      simp only [mem, Lane.mem_due_tick, BoomUnit.mem_due_tick, Loader.mem_due_tick, reduceCtorEq,
        Instr.gapTimerExpiry.injEq, Instr.lossTimerExpiry.injEq, Instr.reportPeriodExpiry.injEq, Instr.laneAbandonExpiry.injEq, Instr.spinMaxExpiry.injEq,
        Instr.setTimerExpiry.injEq, Instr.torqueStageExpiry.injEq, false_and, false_or, or_false, exists_false,
        exists_eq_left', true_and, and_self]

end Sys2Proof.Machine

/-! ### Frames and reads of a port -/

namespace Sys2Proof.Machine

open Sys2Proof Sys2Proof.Machine

/-- A read that is taken leaves what `State.replied` says. -/
theorem State.read_replied {s : State} {p : Port} (h : s.Takes p) (n : CommandName) (k : Nat) (a : Answer) :
    s.read p n k a = s.replied p n k a.code a.bytes a.effect := by
  rw [State.read_taken h]
  simp only [State.settleRead, State.setFrame, State.setLast, State.setPort, State.port, Triple.get_set_same,
    Triple.set_set, State.replied]

theorem State.port_replied (s : State) (p : Port) (n : CommandName) (k : Nat) (c : Code) (bytes : List Byte)
    (effect : ReadEffect) : (s.replied p n k c bytes effect).port p = { s.port p with
      frame := .reply (s.port p).frameStatus k bytes effect, last := ⟨some n.code, c, none⟩ } :=
  Triple.get_set_same _ _ _

theorem State.frame_replied (s : State) (p : Port) (n : CommandName) (k : Nat) (c : Code) (bytes : List Byte)
    (effect : ReadEffect) :
    ((s.replied p n k c bytes effect).port p).frame = .reply (s.port p).frameStatus k bytes effect :=
  congrArg PortState.frame (s.port_replied p n k c bytes effect)

theorem State.pending_replied (s : State) (p : Port) (n : CommandName) (k : Nat) (c : Code) (bytes : List Byte)
    (effect : ReadEffect) : ((s.replied p n k c bytes effect).port p).pending = (s.port p).pending :=
  (congrArg PortState.pending (s.port_replied p n k c bytes effect)).trans rfl

theorem State.frame_post (s : State) (n : NoticePair) (p : Port) :
    ((s.post n).port p).frame = (s.port p).frame.repost n :=
  congrArg PortState.frame (s.port_post n p)

theorem State.Takes.not_held {s : State} {p : Port} (h : s.Takes p) : s.isHeld = false :=
  (Bool.or_eq_false_iff.1 h).1

theorem State.takes_of {s : State} {p : Port} (held : s.isHeld = false) (frame : (s.port p).frame ≠ .dropped) :
    s.Takes p := by
  unfold State.Takes State.frameLost
  rw [held, Bool.false_or]
  exact beq_eq_false_iff_ne.2 frame

theorem State.modEntry_some {s : State} {i : Slot} {e : Entry} (h : s.entry i = some e) (f : Entry → Entry) :
    s.modEntry i f = s.setEntry i (some (f e)) := by
  unfold State.modEntry
  rw [h]

theorem State.Takes.replied {s : State} {p : Port} (h : s.Takes p) (n : CommandName) (k : Nat) (c : Code)
    (bytes : List Byte) (effect : ReadEffect) : (s.replied p n k c bytes effect).Takes p :=
  State.takes_of (s := s.replied p n k c bytes effect) h.not_held (by rw [State.frame_replied]; nofun)

/-- The rise of chip select after a reply: the frame ends, and the effect is taken of a whole reply. -/
theorem execReadEffects_reply {s : State} {p : Port} {clocked k : Nat} {st : StatusLatch} {bytes : List Byte}
    {effect : ReadEffect} (takes : s.Takes p) (frame : (s.port p).frame = .reply st k bytes effect) :
    exec (.readEffects p clocked) s = .next (if bytes.length ≤ clocked then
      (s.setFrame p .idle).takeEffect p effect else s.setFrame p .idle) := by
  show Host.Outcome.next (s.riseAfterReply p clocked) = _
  unfold State.riseAfterReply
  rw [if_neg (Bool.eq_false_iff.1 takes), frame]

/-- The state after a NOTICES reply: what was pending and not reported, or recorded again meanwhile. -/
theorem mem_cleared {reported reposted pending : List NoticePair} {n : NoticePair} :
    n ∈ pending.filter (fun n => !(reported.contains n) || reposted.contains n) ↔
      n ∈ pending ∧ (n ∈ reported → n ∈ reposted) := by
  simp only [List.mem_filter, Bool.or_eq_true, Bool.not_eq_true', List.contains_eq_mem, decide_eq_true_eq,
    decide_eq_false_iff_not, imp_iff_not_or]

/-- Settles O9: both sides of `execReadEffects_reply`, for each effect that a reply can hold back. -/
theorem readsTakeEffectWhole : Obligations.ReadsTakeEffectWhole := by
  intro p clocked k s st bytes effect takes frame
  rw [execReadEffects_reply takes frame]
  refine ⟨?_, fun whole => ?_⟩
  · rintro (cut | rfl)
    · rw [if_neg (Nat.not_le.2 cut)]
      rfl
    · rw [State.takeEffect, ite_self]
      rfl
  · rw [if_pos whole]
    refine ⟨?_, ?_, ?_⟩
    · rintro target rfl
      simp only [State.takeEffect, State.setFrame, State.setPort, State.port, Triple.get_set_same, Triple.set_set]
    · rintro target i e rfl here
      simp only [State.takeEffect, State.setFrame, State.setPort, State.port, Triple.get_set_same, Triple.set_set]
      exact congrArg Host.Outcome.next (State.modEntry_some (s := s.setPort p _) here Entry.drain)
    · rintro reported reposted rfl
      simp only [State.takeEffect, State.setFrame, State.setPort, State.port, Triple.get_set_same, Triple.set_set]
      refine ⟨_, rfl, rfl, fun n => mem_cleared, ?_⟩
      refine (PortState.withAtn_atn_iff _ _).trans ?_
      rw [show s.resetLow = false from (Bool.or_eq_false_iff.1 takes.not_held).1]
      exact ⟨fun h => h.2, fun h => ⟨rfl, h⟩⟩

/-- Settles O12: READ MATCHES holds nothing back, so the rise of chip select only ends its frame. -/
theorem readMatchesReturnsContext : Obligations.ReadMatchesReturnsContext := by
  intro p clocked s takes
  have reply : exec (.readMatches p) s = .next (s.replied p .readMatches 0 .done
      (matchesReply (s.port p).context) .nothing) := by
    show Host.Outcome.next (s.read p _ _ _) = _
    rw [State.read_replied takes]
    rfl
  refine ⟨_, reply, ?_, ?_⟩
  · unfold matchesReply slotByte
    rfl
  · rw [execReadEffects_reply (takes.replied _ _ _ _ _) (State.frame_replied _ _ _ _ _ _ _), State.takeEffect, ite_self]
    rfl

/-! ### NOTICES -/

/-- A pair recorded while a NOTICES reply is clocked out is marked in the effect held back, if the reply had it. -/
theorem Frame.repost_clear (n : NoticePair) (st : StatusLatch) (k : Nat) (bytes : List Byte)
    (reported reposted : List NoticePair) : ∃ again, (n ∈ reported → n ∈ again) ∧
      Frame.repost n (.reply st k bytes (.clear reported reposted)) = .reply st k bytes (.clear reported again) := by
  by_cases here : n ∈ reported
  · exact ⟨_, fun _ => (mem_insertPair n n reposted).2 (.inl rfl), if_pos here⟩
  · exact ⟨_, fun h => absurd h here, if_neg here⟩

theorem noticesReply_length (l : List NoticePair) : (noticesReply l).length = 1 + 2 * l.length := by
  have pairs : (l.flatMap NoticePair.bytes).length = 2 * l.length := by
    induction l with
    | nil => rfl
    | cons n rest ih =>
      simp only [List.flatMap_cons, List.length_append, ih, NoticePair.bytes, List.length_cons, List.length_nil]
      omega
  rw [noticesReply, List.length_cons, pairs]
  omega

/-- The rise of chip select after a NOTICES reply, cut or whole, leaves a pair that was recorded meanwhile pending. -/
theorem State.pending_riseAfterNotices {s : State} {p : Port} {clocked k : Nat} {st : StatusLatch} {bytes : List Byte}
    {reported reposted : List NoticePair} {n : NoticePair} (takes : s.Takes p)
    (frame : (s.port p).frame = .reply st k bytes (.clear reported reposted)) (pending : n ∈ (s.port p).pending)
    (again : n ∈ reported → n ∈ reposted) :
    ∃ u, exec (.readEffects p clocked) s = .next u ∧ n ∈ (u.port p).pending := by
  refine ⟨_, execReadEffects_reply takes frame, ?_⟩
  split
  · simp only [State.takeEffect, State.setFrame, State.port_setPort_same, PortState.withAtn_pending]
    exact mem_cleared.2 ⟨pending, again⟩
  · rw [State.setFrame, State.port_setPort_same]
    exact pending

/-- Settles O16: the reply reports the pending set, and a pair recorded meanwhile is pending and marked. -/
theorem noticesReportAndClear : Obligations.NoticesReportAndClear := by
  intro p s takes
  have reply : exec (.notices p) s = .next (s.replied p .notices 0 .done (noticesReply (s.port p).pending)
      (.clear (s.port p).pending [])) := by
    show Host.Outcome.next (s.read p _ _ _) = _
    rw [State.read_replied takes]
  refine ⟨_, reply, ?_, fun clocked whole => ⟨_, execReadEffects_reply (takes.replied _ _ _ _ _)
    (State.frame_replied _ _ _ _ _ _ _), ?_⟩, fun n clocked => ?_⟩
  · have pair : ∀ n : NoticePair, n.bytes = [BitVec.ofNat 8 n.kind,
        (match n.subject with | some .A => 0x00 | some .B => 0x01 | none => 0xFF)] := by
      rintro (b | b | b | b | b | b | b | b | b | _ | _ | _ | _)
      iterate 9 cases b <;> rfl
      all_goals rfl
    rw [noticesReply, funext pair]
    rfl
  · rw [if_pos (by rw [noticesReply_length]; exact whole)]
    simp only [State.takeEffect, State.setFrame, State.port_setPort_same, PortState.withAtn,
      PortState.unmaskedPending, State.pending_replied]
    have none_left : (s.port p).pending.filter (fun n => !((s.port p).pending.contains n) || [].contains n) = [] :=
      List.eq_nil_iff_forall_not_mem.2 fun n h => List.not_mem_nil ((mem_cleared.1 h).2 (mem_cleared.1 h).1)
    rw [none_left, List.any_nil, Bool.and_false]
    exact ⟨rfl, rfl⟩
  · obtain ⟨again, marked, eq⟩ := Frame.repost_clear n (s.port p).frameStatus 0 (noticesReply (s.port p).pending)
      (s.port p).pending []
    have frame := (State.frame_post _ n p).trans ((congrArg (Frame.repost n) (s.frame_replied p .notices 0 .done
      (noticesReply (s.port p).pending) (.clear (s.port p).pending []))).trans eq)
    refine State.pending_riseAfterNotices (State.takes_of (s := State.post (s.replied p .notices 0 .done _ _) n)
      takes.not_held (by rw [frame]; nofun)) frame ?_ marked
    rw [State.port_post, PortState.record_pending]
    exact (mem_insertPair _ _ _).2 (.inl rfl)

end Sys2Proof.Machine

/-! ### Lost frames, plain reads and notices -/

namespace Sys2Proof.Machine

open Sys2Proof Sys2Proof.Machine

/-! ### The port of a frame that has ended -/

@[simp] theorem State.port_setFrame_same (s : State) (p : Port) (f : Frame) :
    (s.setFrame p f).port p = { s.port p with frame := f } :=
  State.port_setPort_same _ _ _

@[simp] theorem State.setPort_setPort (s : State) (p : Port) (q r : PortState) :
    (s.setPort p q).setPort p r = s.setPort p r := by
  simp only [State.setPort, Triple.set_set]

theorem State.setFrame_setPort (s : State) (p : Port) (f : Frame) (q : PortState) :
    (s.setFrame p f).setPort p q = s.setPort p q :=
  s.setPort_setPort p _ q

theorem State.setPort_setFrame (s : State) (p : Port) (f : Frame) (q : PortState) :
    (s.setPort p q).setFrame p f = s.setPort p { q with frame := f } := by
  rw [State.setFrame, State.port_setPort_same, State.setPort_setPort]

/-! ### Lost frames -/

theorem CommandJudged.lost {f : State → Host.Outcome State Fault Refusal} {p : Port} {n : CommandName}
    (h : CommandJudged f p n) {s : State} (lost : s.frameLost p = true) :
    f s = .next (s.setPort p { s.port p with frame := .idle }) := by
  obtain ⟨run, runs, _⟩ := h
  rw [runs, State.command_lost lost]
  rfl

theorem State.read_lost {s : State} {p : Port} (h : s.frameLost p = true) (n : CommandName) (k : Nat) (a : Answer) :
    s.read p n k a = s := if_pos h

/-- Settles O8: the frame of FRAME_START by its three kinds, and the lost frame of each command by how it settles. -/
theorem frameStartLatchesStatus : Obligations.FrameStartLatchesStatus := by
  intro p s
  refine ⟨fun running => ⟨.active (s.port p).latch, ?_, rfl, rfl, fun _ => rfl⟩,
    fun held => ⟨.dropped, ?_, fun _ => rfl⟩, fun dropped => ⟨?_, fun k => by rw [dropped]; rfl⟩,
    fun lost => ⟨?_, ?_⟩⟩
  · show Host.Outcome.next (s.setFrame p _) = _
    rw [if_neg (Bool.eq_false_iff.1 running)]
    rfl
  · show Host.Outcome.next (s.setFrame p _) = _
    rw [if_pos held]
    rfl
  · unfold State.frameLost
    rw [dropped, beq_self_eq_true, Bool.or_true]
  · rintro c (⟨n, canopy⟩ | ⟨boom, n, named⟩ | rfl | ⟨_, _, _, _, _, _, _, _, rfl⟩ | ⟨_, _, _, _, _, _, rfl⟩ |
      ⟨bytes, rfl⟩ | ⟨x, rfl⟩ | ⟨clocked, rfl⟩)
    · by_cases restart : c = .restart p
      · subst restart
        exact congrArg Host.Outcome.next (if_pos lost)
      · exact (canopyCommand_judged canopy restart).lost lost
    · exact (boomCommand_judged named).lost lost
    · exact (execClaimNext_judged p).lost lost
    · exact congrArg Host.Outcome.next (State.command_lost lost _ _)
    · exact congrArg Host.Outcome.next (State.command_lost lost _ _)
    · exact congrArg Host.Outcome.next (if_pos lost)
    · exact congrArg Host.Outcome.next (if_pos lost)
    · exact congrArg Host.Outcome.next (if_pos lost)
  · rintro c (rfl | rfl | rfl | rfl | rfl | ⟨_, _, rfl⟩ | rfl | ⟨x, rfl⟩)
    · exact congrArg Host.Outcome.next (if_pos lost)
    all_goals exact congrArg Host.Outcome.next (State.read_lost lost _ _ _)

/-! ### Plain reads -/

theorem getLsbD_partByte (s : State) (k : Nat) (mask value : Byte) (i : Nat) (h : mask.getLsbD i = true) :
    (s.partByte k mask value).getLsbD i = value.getLsbD i := by
  simp [State.partByte, h]

theorem joinBytes_hi_lo (w : Word16) : joinBytes w.hi w.lo = w := by
  refine BitVec.eq_of_getLsbD_eq fun i hi => ?_
  rw [BitVec.getLsbD_append, BitVec.getLsbD_extractLsb', BitVec.getLsbD_extractLsb']
  by_cases low : i < 8
  · simp [low]
  · simp [low, show i - 8 < 8 by omega, show 8 + (i - 8) = i by omega]

theorem wordAt_bytesOf_zero (n : Nat) (rest : List Byte) : wordAt (bytesOf n ++ rest) 0 = BitVec.ofNat 16 n :=
  joinBytes_hi_lo _

theorem wordAt_bytesOf_succ (n k : Nat) (rest : List Byte) : wordAt (bytesOf n ++ rest) (k + 2) = wordAt rest k := rfl

/-- The values of a list that is sent high byte first are read back at their places. -/
theorem wordAt_flatMap {l : List Nat} {k : Nat} {x : Nat} (h : l[k]? = some x) (small : x ≤ 65535) :
    (wordAt (l.flatMap bytesOf) (2 * k)).toNat = x := by
  induction l generalizing k with
  | nil => exact absurd h nofun
  | cons y rest ih =>
    cases k with
    | zero =>
      obtain rfl := Option.some.inj h
      rw [List.flatMap_cons, Nat.mul_zero, wordAt_bytesOf_zero, BitVec.toNat_ofNat]
      omega
    | succ k =>
      rw [List.flatMap_cons, Nat.mul_succ, wordAt_bytesOf_succ]
      exact ih h

/-- The void mode as the figure that a reply carries (R179). -/
def VoidMode.figure : VoidMode → Nat
  | .one => 0
  | .two => 1

/-- The values of a parameter set in the order of their reply (R179). -/
def ParamSet.values (x : ParamSet) : List Nat :=
  [x.productShift, x.tVoid, x.tMedium, x.tHard, x.voidMode.figure, x.voidLimit, x.zone,
    x.competent, x.maxExtensions, x.collarAllowance, x.freeLength, x.cartridgeColumn, x.maxCartridges, x.spinRevs,
    x.spinMax, x.setTime, x.seatTorque, x.targetTorque, x.maxTorque, x.maxTurn, x.torqueStage, x.incompleteLimit,
    x.laneAbandon]

theorem paramBytes_eq (x : ParamSet) : paramBytes x = x.values.flatMap bytesOf := by
  have mode : wordBytes x.voidMode.word = bytesOf x.voidMode.figure := by
    cases x.voidMode <;> rfl
  unfold paramBytes
  simp only [mode, ParamSet.values, List.flatMap_cons, List.flatMap_nil, List.append_assoc, List.append_nil]

theorem length_flatMap_bytesOf (l : List Nat) : (l.flatMap bytesOf).length = 2 * l.length := by
  induction l with
  | nil => rfl
  | cons x rest ih =>
    rw [List.flatMap_cons, List.length_append, ih, List.length_cons, show (bytesOf x).length = 2 from rfl]
    omega

theorem ParamSet.Sound.values_le {x : ParamSet} (h : x.Sound) : ∀ y ∈ x.values, y ≤ 65535 := by
  obtain ⟨shift, thresholds, voidLimit, zone, competent, extensions, allowance, freeLength, column, cartridges, spin,
    set, torque, torqueOrder, turn, stage, incomplete, abandon⟩ := h
  have mode : x.voidMode.figure ≤ 65535 := by cases x.voidMode <;> decide
  simp only [ParamSet.values, List.forall_mem_cons]
  refine ⟨?_, ?_, ?_, ?_, mode, ?_, ?_, ?_, ?_, ?_, ?_, ?_, ?_, ?_, ?_, ?_, ?_, ?_, ?_, ?_, ?_, ?_, ?_, nofun⟩
  all_goals omega

/-- The settings of READ NOTICE SETTINGS: the 13 masks in their two bytes. -/
theorem getLsbD_settingsReply (s : State) (q : PortState) (k : Fin 13) :
    (joinBytes (argAt (s.settingsReply q) 0) (argAt (s.settingsReply q) 1)).getLsbD k.val = q.masks.getLsbD k.val := by
  obtain ⟨k, hk⟩ := k
  show (joinBytes (s.partByte 0 0x1F (Word16.hi (q.masks.setWidth 16))) (Word16.lo (q.masks.setWidth 16))).getLsbD k = _
  rw [BitVec.getLsbD_append]
  by_cases low : k < 8
  · simp [low, show k < 16 by omega]
  · have mask : (0x1F : Byte).getLsbD (k - 8) = true := by
      have cases : k = 8 ∨ k = 9 ∨ k = 10 ∨ k = 11 ∨ k = 12 := by omega
      rcases cases with rfl | rfl | rfl | rfl | rfl <;> rfl
    rw [if_neg low, getLsbD_partByte _ _ _ _ _ mask]
    simp [show k - 8 < 8 by omega, show 8 + (k - 8) = k by omega, show k < 16 by omega]

/-- A reply is a list of bytes that the command's number of arguments sets behind the status bytes. -/
theorem execReadParameters_replied {s : State} {p : Port} (takes : s.Takes p) (x : Byte) {a : Answer}
    (h : (if x = 0x00 then answerDone (paramBytes s.params.set0)
      else if x = 0x01 then answerDone (paramBytes s.params.set1)
      else if x = 0x02 then answerDone (settingsBytes s.params.settings)
      else ⟨.state, [], .nothing⟩) = a) :
    exec (.readParameters p x) s = .next (s.replied p .readParameters 1 a.code a.bytes a.effect) := by
  show Host.Outcome.next (s.read p _ _ _) = _
  rw [h, State.read_replied takes]

/-- Settles O13: the reply of each plain read, its figures read back by `wordAt_flatMap`. -/
theorem plainReadsReply : Obligations.PlainReadsReply := by
  intro p s takes
  refine ⟨?_, ⟨s.settingsReply (s.port p), ?_, rfl, getLsbD_settingsReply s _, rfl⟩, fun n => ?_,
    ⟨settingsBytes s.params.settings, execReadParameters_replied takes 0x02 rfl, rfl, fun sound => ?_⟩,
    fun x large => ⟨_, [], execReadParameters_replied takes x (a := ⟨.state, [], .nothing⟩) ?_, rfl, fun k reply => ?_⟩⟩
  · show Host.Outcome.next (if s.frameLost p then s else _) = _
    rw [if_neg (Bool.eq_false_iff.1 takes)]
    unfold State.settleRead answerDone lastResultReply slotByte
    rfl
  · show Host.Outcome.next (s.read p _ _ _) = _
    rw [State.read_replied takes]
    rfl
  · refine ⟨paramBytes (s.params.get n), ?_, ?_, fun sound k => ?_⟩
    · cases n
      · exact execReadParameters_replied takes 0x00 rfl
      · exact execReadParameters_replied takes 0x01 rfl
    · rw [paramBytes_eq, length_flatMap_bytesOf]
      rfl
    · have stored : (s.params.get n).Sound := by
        cases n
        · exact sound.set0
        · exact sound.set1
      have here : (s.params.get n).values[k.val]? = some (s.params.get n).values[k.val] := List.getElem?_eq_getElem _
      rw [paramBytes_eq, wordAt_flatMap here (stored.values_le _ (List.getElem_mem _))]
      exact here.symm
  · obtain ⟨_, _, separation, shift, lowMark⟩ := sound
    have bytes : settingsBytes s.params.settings =
        [s.params.settings.separation, s.params.settings.shift, s.params.settings.lowMark].flatMap bytesOf := by
      simp only [settingsBytes, List.flatMap_cons, List.flatMap_nil, List.append_assoc, List.append_nil]
    rw [bytes]
    exact ⟨wordAt_flatMap (k := 0) rfl (by omega), wordAt_flatMap (k := 1) rfl (by omega),
      wordAt_flatMap (k := 2) rfl (by omega)⟩
  · rw [if_neg, if_neg, if_neg] <;> rintro rfl <;> exact absurd large (by decide)
  · rw [State.frame_replied]
    show some _ = _
    rw [if_neg (by omega), if_neg (by omega), List.getD_nil, ite_self]
    rfl

end Sys2Proof.Machine

/-! ### The other blocks' operations leave an ended frame ended -/

namespace Sys2Proof.Machine

/-! ### Updates and readers beside a frame -/

section
variable (s : State) (p : Port) (f : Frame)

@[simp] theorem State.setUnit_setFrame (b : Boom) (u : BoomUnit) :
    (s.setFrame p f).setUnit b u = (s.setUnit b u).setFrame p f := rfl

@[simp] theorem State.setLane_setFrame (b : Boom) (l : Lane) :
    (s.setFrame p f).setLane b l = (s.setLane b l).setFrame p f := rfl

@[simp] theorem State.setEngine_setFrame (b : Boom) (e : Engine) :
    (s.setFrame p f).setEngine b e = (s.setEngine b e).setFrame p f := rfl

@[simp] theorem State.setLoader_setFrame (l : Loader) :
    (s.setFrame p f).setLoader l = (s.setLoader l).setFrame p f := rfl

@[simp] theorem State.setArbiter_setFrame (a : Arbiter) :
    (s.setFrame p f).setArbiter a = (s.setArbiter a).setFrame p f := rfl

@[simp] theorem State.setParams_setFrame (x : ParamStore) :
    (s.setFrame p f).setParams x = (s.setParams x).setFrame p f := rfl

@[simp] theorem State.setProtectionMode_setFrame (m : Protection) :
    (s.setFrame p f).setProtectionMode m = (s.setProtectionMode m).setFrame p f := rfl

@[simp] theorem State.modUnit_setFrame (b : Boom) (g : BoomUnit → BoomUnit) :
    (s.setFrame p f).modUnit b g = (s.modUnit b g).setFrame p f := rfl

@[simp] theorem State.claimedEntry_setFrame (b : Boom) : (s.setFrame p f).claimedEntry b = s.claimedEntry b := rfl

@[simp] theorem State.active_setFrame (b : Boom) : (s.setFrame p f).active b = s.active b := rfl

@[simp] theorem State.plannedFor_setFrame (b : Boom) : (s.setFrame p f).plannedFor b = s.plannedFor b := rfl

@[simp] theorem State.isHeld_setFrame : (s.setFrame p f).isHeld = s.isHeld := rfl

@[simp] theorem State.holdConditions_setFrame (b : Boom) :
    (s.setFrame p f).holdConditions b = s.holdConditions b := rfl

@[simp] theorem State.feedLine_setFrame (b : Boom) : (s.setFrame p f).feedLine b = s.feedLine b := rfl

@[simp] theorem State.laneInStep_setFrame (b : Boom) : (s.setFrame p f).laneInStep b = s.laneInStep b := rfl

@[simp] theorem State.loaderStatus_setFrame : (s.setFrame p f).loaderStatus = s.loaderStatus := rfl

@[simp] theorem State.magazineLow_setFrame : (s.setFrame p f).magazineLow = s.magazineLow := rfl

end

section
variable (s : State) (p : Port)

@[simp] theorem State.offer_setFrame_idle (n : NoticePair) (x : Bool) :
    (s.setFrame p .idle).offer n x = (s.offer n x).setFrame p .idle :=
  State.mapPorts_setFrame_idle (g := fun q => if x || q.edges.mode n == .any then q.record s.resetLow n else q)
    (fun q => by dsimp only; split <;> rfl) s p

@[simp] theorem State.offerChange_setFrame_idle (n : NoticePair) (x y : Bool) :
    (s.setFrame p .idle).offerChange n x y = (s.offerChange n x y).setFrame p .idle := by
  unfold State.offerChange
  rw [State.offer_setFrame_idle]
  split <;> rfl

@[simp] theorem State.setCycle_setFrame_idle (b : Boom) (c : CycleState) :
    (s.setFrame p .idle).setCycle b c = (s.setCycle b c).setFrame p .idle := by
  unfold State.setCycle
  rw [State.modUnit_setFrame, State.post_setFrame_idle]

@[simp] theorem State.updateClaimed_setFrame (f : Frame) (b : Boom) (g : Entry → Entry) :
    (s.setFrame p f).updateClaimed b g = (s.updateClaimed b g).setFrame p f := by
  unfold State.updateClaimed
  rw [State.claimedEntry_setFrame]
  split <;> rfl

@[simp] theorem State.updateResult_setFrame (f : Frame) (b : Boom) (g : Result → Result) :
    (s.setFrame p f).updateResult b g = (s.updateResult b g).setFrame p f :=
  s.updateClaimed_setFrame p f b _

/-! ### Flow -/

@[simp] theorem State.giveFlow_setFrame_idle (r : FlowRequest) (x : Nat) :
    (s.setFrame p .idle).giveFlow r x = (s.giveFlow r x).setFrame p .idle := by
  unfold State.giveFlow
  rw [State.setFrame_arbiter, State.setArbiter_setFrame, State.post_setFrame_idle]

@[simp] theorem State.judgeRequest_setFrame_idle (r : FlowRequest) :
    (s.setFrame p .idle).judgeRequest r = (s.judgeRequest r).map fun t => t.setFrame p .idle := by
  unfold State.judgeRequest
  simp only [State.setFrame_arbiter, State.giveFlow_setFrame_idle, State.setArbiter_setFrame, State.post_setFrame_idle]
  split
  · rfl
  · split
    · rfl
    · split <;> rfl

@[simp] theorem State.requestFlow_setFrame_idle (r : FlowRequest) :
    (s.setFrame p .idle).requestFlow r = (s.requestFlow r).setFrame p .idle := by
  unfold State.requestFlow
  simp only [State.setFrame_arbiter, State.judgeRequest_setFrame_idle, State.setArbiter_setFrame]
  split
  · cases s.judgeRequest r <;> rfl
  · rfl

theorem State.serveFlowQueue_setFrame_idle (n : Nat) (s : State) :
    (s.setFrame p .idle).serveFlowQueue n = (s.serveFlowQueue n).setFrame p .idle := by
  induction n generalizing s with
  | zero => rfl
  | succ n ih =>
    unfold State.serveFlowQueue
    simp only [State.setFrame_arbiter, State.judgeRequest_setFrame_idle]
    split
    · rfl
    · cases s.judgeRequest _ with
      | none => rfl
      | some t => exact ih (t.setArbiter { t.arbiter with queue := _ })

@[simp] theorem State.topUp_setFrame_idle (b : Boom) :
    (s.setFrame p .idle).topUp b = (s.topUp b).setFrame p .idle := by
  unfold State.topUp
  simp only [State.setFrame_arbiter, State.setArbiter_setFrame, State.post_setFrame_idle]
  split
  · split <;> rfl
  · rfl

@[simp] theorem State.cutDown_setFrame_idle (b : Boom) :
    (s.setFrame p .idle).cutDown b = (s.cutDown b).setFrame p .idle := by
  unfold State.cutDown
  simp only [State.setFrame_arbiter, State.setArbiter_setFrame, State.post_setFrame_idle]
  split
  · split <;> rfl
  · rfl

/-- A fold of operations that go past an ended frame goes past it. -/
theorem State.foldl_setFrame_idle {α : Type} {f : State → α → State} {p : Port}
    (h : ∀ s x, f (s.setFrame p .idle) x = (f s x).setFrame p .idle) (l : List α) (s : State) :
    l.foldl f (s.setFrame p .idle) = (l.foldl f s).setFrame p .idle := by
  induction l generalizing s with
  | nil => rfl
  | cons x rest ih => rw [List.foldl_cons, h, ih, List.foldl_cons]

@[simp] theorem State.servicePass_setFrame_idle :
    (s.setFrame p .idle).servicePass = s.servicePass.setFrame p .idle := by
  unfold State.servicePass
  simp only [State.setFrame_arbiter, State.serveFlowQueue_setFrame_idle,
    State.foldl_setFrame_idle (f := State.topUp) (fun s b => s.topUp_setFrame_idle p b),
    State.foldl_setFrame_idle (f := State.cutDown) (fun s b => s.cutDown_setFrame_idle p b)]

@[simp] theorem State.releaseFlow_setFrame_idle (b : Boom) :
    (s.setFrame p .idle).releaseFlow b = (s.releaseFlow b).setFrame p .idle := by
  unfold State.releaseFlow
  simp only [State.setFrame_arbiter, State.setArbiter_setFrame, State.post_setFrame_idle,
    State.servicePass_setFrame_idle]
  split
  · rfl
  · split <;> rfl

@[simp] theorem State.requestStage_setFrame_idle (b : Boom) (x : FlowStage) :
    (s.setFrame p .idle).requestStage b x = (s.requestStage b x).setFrame p .idle := by
  unfold State.requestStage
  rw [State.requestFlow_setFrame_idle, State.unit_setFrame]
  split <;> rfl

@[simp] theorem State.leaveStage_setFrame_idle (b : Boom) (c : CycleState) :
    (s.setFrame p .idle).leaveStage b c = (s.leaveStage b c).setFrame p .idle := by
  unfold State.leaveStage
  rw [State.setCycle_setFrame_idle, State.releaseFlow_setFrame_idle]

/-! ### The loader -/

@[simp] theorem State.grantLoader_setFrame_idle (b : Boom) :
    (s.setFrame p .idle).grantLoader b = (s.grantLoader b).setFrame p .idle := by
  unfold State.grantLoader
  rw [State.setFrame_loader, State.plannedFor_setFrame, State.setLoader_setFrame, State.setCycle_setFrame_idle]

@[simp] theorem State.serveLoader_setFrame_idle :
    (s.setFrame p .idle).serveLoader = s.serveLoader.setFrame p .idle := by
  unfold State.serveLoader
  simp only [State.setFrame_loader, State.setLoader_setFrame, State.grantLoader_setFrame_idle]
  split <;> rfl

@[simp] theorem State.requestLoader_setFrame_idle (b : Boom) :
    (s.setFrame p .idle).requestLoader b = (s.requestLoader b).setFrame p .idle := by
  unfold State.requestLoader
  simp only [State.setFrame_loader, State.setLoader_setFrame, State.grantLoader_setFrame_idle]
  split <;> rfl

@[simp] theorem State.endGrant_setFrame (f : Frame) : (s.setFrame p f).endGrant = s.endGrant.setFrame p f := rfl

@[simp] theorem State.cancelLoader_setFrame_idle (b : Boom) :
    (s.setFrame p .idle).cancelLoader b = (s.cancelLoader b).setFrame p .idle := by
  unfold State.cancelLoader
  simp only [State.setFrame_loader, State.setLoader_setFrame, State.endGrant_setFrame,
    State.serveLoader_setFrame_idle]
  split
  · split <;> rfl
  · rfl

/-! ### Verdicts -/

@[simp] theorem State.handleSupplement_setFrame_idle (i : Slot) :
    (s.setFrame p .idle).handleSupplement i = (s.handleSupplement i).setFrame p .idle := by
  unfold State.handleSupplement
  simp only [State.entry_setFrame, State.modEntry_setFrame, State.post_setFrame_idle, State.tableFull_setFrame,
    State.setFrame_backlog, State.setBacklog_setFrame, State.writeSupplement_setFrame_idle]
  split
  · split
    · rfl
    · split
      · split <;> rfl
      · rfl
  · rfl

@[simp] theorem State.tableVerdict_setFrame_idle (i : Slot) (v : VerdictReason) :
    (s.setFrame p .idle).tableVerdict i v = (s.tableVerdict i v).setFrame p .idle := by
  unfold State.tableVerdict
  simp only [State.entry_setFrame, State.setEntry_setFrame, State.modRow_setFrame,
    State.handleSupplement_setFrame_idle]
  split
  · split
    · exact State.closingCheck_setFrame_idle _ _ _
    · exact State.closingCheck_setFrame_idle _ _ _
  · rfl

@[simp] theorem State.returnEntry_setFrame_idle (i : Slot) :
    (s.setFrame p .idle).returnEntry i = (s.returnEntry i).setFrame p .idle := by
  unfold State.returnEntry
  simp only [State.entry_setFrame, State.setEntry_setFrame, State.closingCheck_setFrame_idle]
  split <;> rfl

@[simp] theorem State.boomVerdict_setFrame_idle (b : Boom) (v : VerdictReason) (next : CycleState) :
    (s.setFrame p .idle).boomVerdict b v next = (s.boomVerdict b v next).setFrame p .idle := by
  unfold State.boomVerdict
  simp only [State.claimedEntry_setFrame, State.tableVerdict_setFrame_idle, State.modUnit_setFrame,
    State.releaseFlow_setFrame_idle, State.cancelLoader_setFrame_idle, State.post_setFrame_idle,
    State.setCycle_setFrame_idle]
  split <;> rfl

@[simp] theorem State.enterTorquing_setFrame_idle (b : Boom) :
    (s.setFrame p .idle).enterTorquing b = (s.enterTorquing b).setFrame p .idle := by
  unfold State.enterTorquing
  rw [State.setCycle_setFrame_idle, State.requestStage_setFrame_idle]

@[simp] theorem State.spinComplete_setFrame_idle (b : Boom) :
    (s.setFrame p .idle).spinComplete b = (s.spinComplete b).setFrame p .idle := by
  unfold State.spinComplete
  simp only [State.leaveStage_setFrame_idle, State.modUnit_setFrame, State.enterTorquing_setFrame_idle,
    State.active_setFrame]
  split <;> rfl

@[simp] theorem State.writeDrilledDepth_setFrame (f : Frame) (b : Boom) :
    (s.setFrame p f).writeDrilledDepth b = (s.writeDrilledDepth b).setFrame p f :=
  s.updateResult_setFrame p f b _

@[simp] theorem State.endDrilling_setFrame_idle (b : Boom) :
    (s.setFrame p .idle).endDrilling b = (s.endDrilling b).setFrame p .idle := by
  unfold State.endDrilling
  rw [State.writeDrilledDepth_setFrame, State.engine_setFrame, State.setEngine_setFrame,
    State.updateClaimed_setFrame, State.leaveStage_setFrame_idle]

@[simp] theorem State.rejectDrilling_setFrame_idle (b : Boom) (v : VerdictReason) :
    (s.setFrame p .idle).rejectDrilling b v = (s.rejectDrilling b v).setFrame p .idle := by
  unfold State.rejectDrilling
  rw [State.endDrilling_setFrame_idle, State.writeDrilledDepth_setFrame, State.engine_setFrame,
    State.setEngine_setFrame, State.boomVerdict_setFrame_idle, State.unit_setFrame]
  split <;> rfl

/-! ### Samples -/

@[simp] theorem State.applyRun_setFrame_idle (b : Boom) (d : DrillRun) :
    (s.setFrame p .idle).applyRun b d = (s.applyRun b d).setFrame p .idle := by
  unfold State.applyRun
  simp only [State.setEngine_setFrame, State.updateClaimed_setFrame]
  exact State.foldl_setFrame_idle (fun s x => s.offer_setFrame_idle p _ x) _ _

@[simp] theorem State.afterRun_setFrame_idle (b : Boom) (o : DrillOutcome) :
    (s.setFrame p .idle).afterRun b o = (s.afterRun b o).setFrame p .idle := by
  cases o with
  | goesOn => rfl
  | extended => exact s.post_setFrame_idle p _
  | reached => exact s.endDrilling_setFrame_idle p b
  | overVoid => exact s.rejectDrilling_setFrame_idle p b .void

@[simp] theorem State.drillSample_setFrame_idle (b : Boom) (x : Sample) :
    (s.setFrame p .idle).drillSample b x = (s.drillSample b x).setFrame p .idle := by
  unfold State.drillSample
  simp only [State.claimedEntry_setFrame, State.engine_setFrame, State.active_setFrame, State.applyRun_setFrame_idle,
    State.afterRun_setFrame_idle]
  split
  · split <;> rfl
  · rfl

@[simp] theorem State.watchFlush_setFrame (f : Frame) (b : Boom) (x : Sample) :
    (s.setFrame p f).watchFlush b x = (s.watchFlush b x).setFrame p f := by
  unfold State.watchFlush
  rw [State.unit_setFrame, State.modUnit_setFrame]
  split <;> rfl

@[simp] theorem State.spinSample_setFrame_idle (b : Boom) (x : Sample) :
    (s.setFrame p .idle).spinSample b x = (s.spinSample b x).setFrame p .idle := by
  unfold State.spinSample
  simp only [State.engine_setFrame, State.setEngine_setFrame, State.updateResult_setFrame, State.active_setFrame,
    State.spinComplete_setFrame_idle]
  split <;> rfl

@[simp] theorem State.setSample_setFrame_idle (b : Boom) (x : Sample) :
    (s.setFrame p .idle).setSample b x = (s.setSample b x).setFrame p .idle := by
  unfold State.setSample
  rw [State.boomVerdict_setFrame_idle]
  split <;> rfl

theorem State.judge_setFrame (f : Frame) (b : Boom) (x : Sample) :
    (s.setFrame p f).judge b x = (s.judge b x).setFrame p f :=
  (s.setEngine b ((s.engine b).judge x)).updateResult_setFrame p f b _

@[simp] theorem State.torqueSample_setFrame_idle (b : Boom) (x : Sample) :
    (s.setFrame p .idle).torqueSample b x = (s.torqueSample b x).setFrame p .idle := by
  rw [State.torqueSample_eq, State.torqueSample_eq]
  simp only [State.judge_setFrame, State.engine_setFrame, State.setEngine_setFrame, State.updateResult_setFrame,
    State.active_setFrame, State.boomVerdict_setFrame_idle, apply_ite (fun t : State => t.setFrame p .idle)]

@[simp] theorem State.engineSample_setFrame_idle (b : Boom) (x : Sample) :
    (s.setFrame p .idle).engineSample b x = (s.engineSample b x).setFrame p .idle := by
  unfold State.engineSample State.torquingSample
  rw [State.unit_setFrame, State.drillSample_setFrame_idle, State.spinSample_setFrame_idle,
    State.setSample_setFrame_idle, State.torqueSample_setFrame_idle]
  split
  · rfl
  · rfl
  · rfl
  · split <;> rfl
  · rfl

/-! ### Lanes -/

@[simp] theorem State.countFaults_setFrame_idle (b : Boom) (n : Nat) :
    (s.setFrame p .idle).countFaults b n = (s.countFaults b n).setFrame p .idle := by
  unfold State.countFaults
  simp only [State.lane_setFrame, State.setLane_setFrame, State.post_setFrame_idle]
  split <;> rfl

@[simp] theorem State.laneMark_setFrame (f : Frame) (b : Boom) :
    (s.setFrame p f).laneMark b = (s.laneMark b).setFrame p f := by
  unfold State.laneMark
  rw [State.unit_setFrame, State.engine_setFrame, State.setEngine_setFrame]
  split <;> rfl

@[simp] theorem State.admitSample_setFrame_idle (b : Boom) (raw : RawSample) :
    (s.setFrame p .idle).admitSample b raw = (s.admitSample b raw).setFrame p .idle := by
  unfold State.admitSample
  simp only [State.lane_setFrame, State.unit_setFrame, State.setLane_setFrame, State.countFaults_setFrame_idle,
    State.laneMark_setFrame, ← apply_ite (fun t : State => t.setFrame p .idle), State.engineSample_setFrame_idle,
    State.watchFlush_setFrame] <;> rfl

@[simp] theorem State.transferCount_setFrame_idle (b : Boom) :
    (s.setFrame p .idle).transferCount b = (s.transferCount b).setFrame p .idle := by
  unfold State.transferCount
  simp only [State.lane_setFrame, State.setLane_setFrame, State.post_setFrame_idle]

/-! ### Whole actions -/

@[simp] theorem State.syncBoom_setFrame (f : Frame) (b : Boom) :
    (s.setFrame p f).syncBoom b = (s.syncBoom b).setFrame p f := by
  unfold State.syncBoom
  simp only [State.unit_setFrame, State.holdConditions_setFrame, State.isHeld_setFrame, State.setUnit_setFrame,
    State.engine_setFrame, State.setEngine_setFrame]
  exact (apply_ite (fun t : State => t.setFrame p f) _ _ _).symm

@[simp] theorem State.sync_setFrame (f : Frame) : (s.setFrame p f).sync = s.sync.setFrame p f := by
  unfold State.sync
  rw [State.syncBoom_setFrame, State.syncBoom_setFrame]

@[simp] theorem State.offersSince_setFrame_idle (u : State) :
    (s.setFrame p .idle).offersSince (u.setFrame p .idle) = (s.offersSince u).setFrame p .idle := by
  unfold State.offersSince
  simp only [State.feedLine_setFrame, State.laneInStep_setFrame, State.loaderStatus_setFrame,
    State.magazineLow_setFrame, State.offerChange_setFrame_idle]

/-- An action whose own effects go past an ended frame goes past it. -/
theorem State.acting_setFrame_idle {f : State → State} {p : Port} {s : State}
    (h : f (s.setFrame p .idle) = (f s).setFrame p .idle) :
    (s.setFrame p .idle).acting f = (s.acting f).setFrame p .idle := by
  unfold State.acting
  rw [h, State.sync_setFrame, State.offersSince_setFrame_idle]

theorem State.announcing_setFrame_idle {f : State → State} {p : Port} {s : State}
    (h : f (s.setFrame p .idle) = (f s).setFrame p .idle) :
    (s.setFrame p .idle).announcing f = (s.announcing f).setFrame p .idle := by
  unfold State.announcing
  rw [h, State.offersSince_setFrame_idle]

end

end Sys2Proof.Machine

/-! ### Notices, SEARCH, protection and the resets -/

namespace Sys2Proof.Machine

open Sys2Proof Sys2Proof.Machine

/-! ### Recording -/

theorem State.post_move (s : State) (n : NoticePair) : s.PortsMove ⟨[n], false, false⟩ (s.post n) :=
  .post (List.mem_singleton.2 rfl) s

theorem State.offer_move (s : State) (n : NoticePair) (x : Bool) : s.PortsMove ⟨[n], false, false⟩ (s.offer n x) :=
  .offer (List.mem_singleton.2 rfl) s x

theorem State.port_offer (s : State) (n : NoticePair) (x : Bool) (p : Port) : (s.offer n x).port p =
    if x || (s.port p).edges.mode n == .any then (s.port p).record s.resetLow n else s.port p := by
  simp only [State.offer, State.port_mapPorts]

/-- Settles O18: a posting and an offer are moves of the ports that record the one pair. -/
theorem noticesRecorded : Obligations.NoticesRecorded := by
  intro s n p sound
  refine ⟨fun m => ?_, (s.post_move n).noticesSound sound, fun x => (s.offer_move n x).noticesSound sound,
    (s.post_move n).kept rfl rfl, rfl, fun x => ⟨fun concerned m => ?_, fun fall rise => ?_,
      (s.offer_move n x).kept rfl rfl, rfl⟩⟩
  · rw [State.port_post, PortState.record_pending, mem_insertPair]
  · rw [State.port_offer, if_pos, PortState.record_pending, mem_insertPair]
    rcases concerned with rfl | any
    · rfl
    · rw [any, beq_self_eq_true, Bool.or_true]
  · rw [State.port_offer, if_neg]
    rw [fall, rise]
    decide

/-! ### Commands that change their own port -/

/-- A command that replaces its port, and answers. -/
theorem State.command_setPort {s : State} {p : Port} (takes : s.Takes p) (n : CommandName) {q : PortState} {c : Code}
    {slot : Option Slot} {run : State → Taken}
    (h : run (s.setFrame p .idle) = ⟨(s.setFrame p .idle).setPort p { q with frame := .idle }, c, slot⟩) :
    s.command p n run = (s.setPort p q).answered p n c slot :=
  State.command_answered takes n (by rw [h, State.setFrame_setPort, State.setPort_setFrame])

theorem NoticePair.kind_lt (n : NoticePair) : n.kind < 13 := by
  cases n <;> simp [NoticePair.kind]

theorem edgeModeOf_byte (m : EdgeMode) : edgeModeOf m.byte = some m := by
  cases m <;> rfl

theorem edgeModeOf_eq_none {x : Byte} (h : 1 < x.toNat) : edgeModeOf x = none := by
  unfold edgeModeOf
  rw [if_neg, if_neg] <;> rintro rfl <;> exact absurd h (by decide)

theorem edgeModesOf_bytes (m : EdgeModes) :
    edgeModesOf m.permit.byte m.void.byte m.lane.byte m.loader.byte m.magazineLow.byte = some m := by
  unfold edgeModesOf
  simp only [edgeModeOf_byte]

/-- One value that is neither RISE nor ANY refuses all five. -/
theorem edgeModesOf_eq_none {a b c d e : Byte}
    (h : 1 < a.toNat ∨ 1 < b.toNat ∨ 1 < c.toNat ∨ 1 < d.toNat ∨ 1 < e.toNat) : edgeModesOf a b c d e = none := by
  unfold edgeModesOf
  split
  · rename_i ha hb hc hd he
    rcases h with h | h | h | h | h
    · exact absurd ha (by rw [edgeModeOf_eq_none h]; nofun)
    · exact absurd hb (by rw [edgeModeOf_eq_none h]; nofun)
    · exact absurd hc (by rw [edgeModeOf_eq_none h]; nofun)
    · exact absurd hd (by rw [edgeModeOf_eq_none h]; nofun)
    · exact absurd he (by rw [edgeModeOf_eq_none h]; nofun)
  · rfl

/-- Settles O17: the masks and edge modes are those of the arguments, or one argument names no edge mode. -/
theorem noticesConfigured : Obligations.NoticesConfigured := by
  intro p mask e1 e2 e3 e4 e5 s takes
  refine ⟨?_, fun bad => ?_⟩
  · rintro m rfl rfl rfl rfl rfl
    refine ⟨({ s.port p with masks := mask.setWidth 13, edges := m } : PortState).withAtn s.resetLow, ?_, rfl,
      fun k => ?_, ?_⟩
    · refine congrArg Host.Outcome.next (State.command_setPort takes _ ?_)
      rw [edgeModesOf_bytes]
      simp only [taken, State.port_setFrame_same]
      rfl
    · rw [show PortState.masks _ = mask.setWidth 13 from rfl, BitVec.getLsbD_setWidth, decide_eq_true k.isLt,
        Bool.true_and]
    · refine (PortState.withAtn_atn_iff _ _).trans ?_
      simp only [show s.resetLow = false from (Bool.or_eq_false_iff.1 takes.not_held).1, true_and,
        PortState.withAtn_pending, BitVec.getLsbD_setWidth, NoticePair.kind_lt, decide_true, Bool.true_and]
  · refine State.command_refused takes ?_
    rw [edgeModesOf_eq_none bad]

/-! ### SEARCH -/

/-- A key field whose flag asks for a value in its list selects exactly the entries of which `P` holds. -/
theorem keyField_matches {α : Type} [DecidableEq α] {flag : Bool} {v : Option α} {P : α → Prop}
    (h : flag = true → ∃ a, v = some a ∧ ∀ y, P y ↔ y = a) :
    ∃ k, keyField flag v = some k ∧ ∀ y, fieldMatches k y = true ↔ (flag = true → P y) := by
  cases flag with
  | false => exact ⟨none, rfl, fun y => ⟨fun _ => nofun, fun _ => rfl⟩⟩
  | true =>
    obtain ⟨a, rfl, same⟩ := h rfl
    refine ⟨some a, rfl, fun y => ?_⟩
    rw [same, fieldMatches, beq_iff_eq]
    exact ⟨fun e _ => e.symm, fun e => (e rfl).symm⟩

/-- The same for a field that is told by its code. -/
theorem keyField_matches_code {α : Type} [DecidableEq α] {f : Byte → Option α} {code : α → Byte}
    (back : ∀ a, f (code a) = some a) {flag : Bool} {x : Byte} (legal : flag = true → ∃ a, code a = x) :
    ∃ k, keyField flag (f x) = some k ∧ ∀ y, fieldMatches k y = true ↔ (flag = true → code y = x) := by
  refine keyField_matches fun asked => ?_
  obtain ⟨a, rfl⟩ := legal asked
  exact ⟨a, back a, fun y => ⟨fun e => Option.some.inj ((back y).symm.trans ((congrArg f e).trans (back a))),
    fun e => congrArg code e⟩⟩

theorem keyField_eq_none {α : Type} {flag : Bool} {v : Option α} (asked : flag = true) (h : v = none) :
    keyField flag v = none := by
  rw [asked, h]
  rfl

theorem exists_reach {x : Byte} (h : x.toNat ≤ 2) : ∃ r, Reach.byte r = x := by
  interval_cases n : x.toNat
  · exact ⟨.a, BitVec.eq_of_toNat_eq n.symm⟩
  · exact ⟨.b, BitVec.eq_of_toNat_eq n.symm⟩
  · exact ⟨.either, BitVec.eq_of_toNat_eq n.symm⟩

theorem exists_origin {x : Byte} (h : x.toNat ≤ 1) : ∃ o, Origin.byte o = x := by
  interval_cases n : x.toNat
  · exact ⟨.plan, BitVec.eq_of_toNat_eq n.symm⟩
  · exact ⟨.supplement, BitVec.eq_of_toNat_eq n.symm⟩

theorem exists_holeState {x : Byte} (h : x.toNat ≤ 8) : ∃ y, HoleState.byte y = x := by
  interval_cases n : x.toNat
  · exact ⟨.planned, BitVec.eq_of_toNat_eq n.symm⟩
  · exact ⟨.claimed, BitVec.eq_of_toNat_eq n.symm⟩
  · exact ⟨.drilling, BitVec.eq_of_toNat_eq n.symm⟩
  · exact ⟨.drilled, BitVec.eq_of_toNat_eq n.symm⟩
  · exact ⟨.resined, BitVec.eq_of_toNat_eq n.symm⟩
  · exact ⟨.bolted, BitVec.eq_of_toNat_eq n.symm⟩
  · exact ⟨.accepted, BitVec.eq_of_toNat_eq n.symm⟩
  · exact ⟨.rejected, BitVec.eq_of_toNat_eq n.symm⟩
  · exact ⟨.tested, BitVec.eq_of_toNat_eq n.symm⟩

/-- The code of a claimant key (R26). -/
def claimantKey : Option Boom → Byte
  | some .A => 0x00
  | some .B => 0x01
  | none => 0x02

theorem exists_claimantKey {x : Byte} (h : x.toNat ≤ 2) : ∃ c, claimantKey c = x := by
  interval_cases n : x.toNat
  · exact ⟨some .A, BitVec.eq_of_toNat_eq n.symm⟩
  · exact ⟨some .B, BitVec.eq_of_toNat_eq n.symm⟩
  · exact ⟨none, BitVec.eq_of_toNat_eq n.symm⟩

theorem reachOf_byte (r : Reach) : reachOf r.byte = some r := by cases r <;> rfl
theorem originOf_byte (o : Origin) : originOf o.byte = some o := by cases o <;> rfl
theorem holeStateOf_byte (x : HoleState) : holeStateOf x.byte = some x := by cases x <;> rfl
theorem claimantKeyOf_key (c : Option Boom) : claimantKeyOf (claimantKey c) = some c := by
  rcases c with _ | _ | _ <;> rfl

theorem reachOf_eq_none {x : Byte} (h : 3 ≤ x.toNat) : reachOf x = none := by
  unfold reachOf
  rw [if_neg, if_neg, if_neg] <;> rintro rfl <;> exact absurd h (by decide)

theorem originOf_eq_none {x : Byte} (h : 2 ≤ x.toNat) : originOf x = none := by
  unfold originOf
  rw [if_neg, if_neg] <;> rintro rfl <;> exact absurd h (by decide)

theorem claimantKeyOf_eq_none {x : Byte} (h : 3 ≤ x.toNat) : claimantKeyOf x = none := by
  unfold claimantKeyOf
  rw [if_neg, if_neg, if_neg] <;> rintro rfl <;> exact absurd h (by decide)

theorem holeStateOf_eq_none {x : Byte} (h : 9 ≤ x.toNat) : holeStateOf x = none := List.getElem?_eq_none h

theorem scopeOf_eq_none {x : Byte} (h : 4 ≤ x.toNat) : scopeOf x = none := List.getElem?_eq_none h

/-- What the selected fields of a key ask of an entry (R26, R27). -/
def Entry.Selected (row position reach holeState origin claimant mask : Byte) (e : Entry) : Prop :=
  (mask.getLsbD 0 = true → e.row = row) ∧ (mask.getLsbD 1 = true → e.position = position.toNat) ∧
    (mask.getLsbD 2 = true → e.reach.byte = reach) ∧ (mask.getLsbD 3 = true → e.holeState.byte = holeState) ∧
    (mask.getLsbD 4 = true → e.origin.byte = origin) ∧ (mask.getLsbD 5 = true → claimantKey e.claimant = claimant)

/-- A key whose selected fields are in their lists is taken, and matches what those fields ask. -/
theorem searchKeyOf_matches {row position reach holeState origin claimant mask : Byte}
    (p : mask.getLsbD 1 = true → position.toNat ≤ 7) (r : mask.getLsbD 2 = true → reach.toNat ≤ 2)
    (h : mask.getLsbD 3 = true → holeState.toNat ≤ 8) (o : mask.getLsbD 4 = true → origin.toNat ≤ 1)
    (c : mask.getLsbD 5 = true → claimant.toNat ≤ 2) :
    ∃ k, searchKeyOf row position reach holeState origin claimant mask = some k ∧
      ∀ e, k.matchesEntry e = true ↔ e.Selected row position reach holeState origin claimant mask := by
  obtain ⟨kp, p, hp⟩ := keyField_matches (flag := mask.getLsbD 1) (v := positionOf position)
    (P := fun y => y = position.toNat) fun asked => ⟨position.toNat, if_pos (p asked), fun _ => Iff.rfl⟩
  obtain ⟨kr, r, hr⟩ := keyField_matches_code (flag := mask.getLsbD 2) reachOf_byte fun a => exists_reach (r a)
  obtain ⟨kh, h, hh⟩ := keyField_matches_code (flag := mask.getLsbD 3) holeStateOf_byte fun a => exists_holeState (h a)
  obtain ⟨ko, o, ho⟩ := keyField_matches_code (flag := mask.getLsbD 4) originOf_byte fun a => exists_origin (o a)
  obtain ⟨kc, c, hc⟩ := keyField_matches_code (flag := mask.getLsbD 5) claimantKeyOf_key fun a => exists_claimantKey (c a)
  refine ⟨⟨if mask.getLsbD 0 then some row else none, kp, kr, kh, ko, kc⟩, ?_, fun e => ?_⟩
  · unfold searchKeyOf
    rw [p, r, h, o, c]
  · have hrow : fieldMatches (if mask.getLsbD 0 = true then some row else none) e.row = true ↔
        (mask.getLsbD 0 = true → e.row = row) := by
      cases mask.getLsbD 0 with
      | false => simp [fieldMatches]
      | true => simp only [if_true, fieldMatches, beq_iff_eq, eq_comm (a := row), true_implies]
    simp only [SearchKey.matchesEntry, Bool.and_eq_true, hrow, hp, hr, hh, ho, hc, Entry.Selected, and_assoc]

/-- A selected field outside its list refuses the key. -/
theorem searchKeyOf_eq_none {row position reach holeState origin claimant mask : Byte}
    (bad : (mask.getLsbD 1 = true ∧ 8 ≤ position.toNat) ∨ (mask.getLsbD 2 = true ∧ 3 ≤ reach.toNat) ∨
      (mask.getLsbD 3 = true ∧ 9 ≤ holeState.toNat) ∨ (mask.getLsbD 4 = true ∧ 2 ≤ origin.toNat) ∨
      (mask.getLsbD 5 = true ∧ 3 ≤ claimant.toNat)) :
    searchKeyOf row position reach holeState origin claimant mask = none := by
  unfold searchKeyOf
  split
  · rename_i hp hr hh ho hc
    rcases bad with ⟨a, h⟩ | ⟨a, h⟩ | ⟨a, h⟩ | ⟨a, h⟩ | ⟨a, h⟩
    · exact absurd hp (by rw [keyField_eq_none a (v := positionOf position) (if_neg (by omega))]; nofun)
    · exact absurd hr (by rw [keyField_eq_none a (reachOf_eq_none h)]; nofun)
    · exact absurd hh (by rw [keyField_eq_none a (holeStateOf_eq_none h)]; nofun)
    · exact absurd ho (by rw [keyField_eq_none a (originOf_eq_none h)]; nofun)
    · exact absurd hc (by rw [keyField_eq_none a (claimantKeyOf_eq_none h)]; nofun)
  · rfl

theorem State.mem_findSlots {s : State} {v : Validity} {k : SearchKey} {i : Slot} :
    i ∈ s.findSlots v k ↔ ∃ e, s.entry i = some e ∧ e.validity = v ∧ k.matchesEntry e = true := by
  unfold State.findSlots
  rw [List.mem_filter]
  cases s.entry i with
  | none => simp
  | some e => simp [mem_allSlots]

theorem State.bestOf_eq_none {s : State} {l : List Slot} (sorted : l.Pairwise (· < ·)) :
    s.bestOf l = none ↔ l = [] := by
  constructor
  · intro none
    by_contra full
    obtain ⟨i, some⟩ := s.bestOf_isSome sorted full
    exact absurd (none.symm.trans some) nofun
  · rintro rfl
    rfl

/-- A SEARCH that finds a context takes it as the port's own. -/
theorem exec_search {p : Port} {scope row position reach holeState origin claimant mask : Byte} {s : State}
    {c : MatchContext} (takes : s.Takes p)
    (h : s.searchContext scope row position reach holeState origin claimant mask = some c) :
    exec (.search p scope row position reach holeState origin claimant mask) s =
      .next ((s.setPort p { s.port p with context := c }).answered p .search
        (if c.members = [] then .noMatch else .done) c.best) := by
  refine congrArg Host.Outcome.next (State.command_setPort takes _ ?_)
  rw [show (s.setFrame p .idle).searchContext scope row position reach holeState origin claimant mask = some c from h]
  simp only [State.port_setFrame_same, List.isEmpty_iff]

theorem scopeOf_validity (v : Validity) : ∃ sc, scopeOf (v.byte - 1) = some sc ∧ sc.validity = some v ∧
    sc.byte = v.byte - 1 := by
  cases v
  · exact ⟨.live, rfl, rfl, rfl⟩
  · exact ⟨.skip, rfl, rfl, rfl⟩
  · exact ⟨.held, rfl, rfl, rfl⟩

theorem exists_validity {x : Byte} (h : x.toNat ≤ 2) : ∃ v, Validity.byte v - 1 = x := by
  interval_cases n : x.toNat
  · exact ⟨.live, BitVec.eq_of_toNat_eq n.symm⟩
  · exact ⟨.skip, BitVec.eq_of_toNat_eq n.symm⟩
  · exact ⟨.held, BitVec.eq_of_toNat_eq n.symm⟩

/-- Settles O19: the context is that of `State.searchContext`, its members those that the key selects. -/
theorem searchReplacesContext : Obligations.SearchReplacesContext := by
  intro p scope row position reach holeState origin claimant mask s takes
  refine ⟨?_, ?_, fun bad => ?_⟩
  · rintro v rfl hp hr hh ho hc
    obtain ⟨k, key, selects⟩ := searchKeyOf_matches (row := row) hp hr hh ho hc
    obtain ⟨sc, named, validity, code⟩ := scopeOf_validity v
    have sorted := s.findSlots_sorted v k
    refine ⟨⟨sc, s.findSlots v k, s.bestOf (s.findSlots v k)⟩, exec_search takes ?_, code, sorted, fun i => ?_,
      State.bestOf_eq_none sorted, fun i best => State.bestOf_eq_some sorted best⟩
    · simp only [State.searchContext, named, validity, key]
    · refine State.mem_findSlots.trans (exists_congr fun e => and_congr_right fun _ => and_congr_right fun _ => ?_)
      rw [selects]
      unfold Entry.Selected claimantKey
      rfl
  · rintro rfl
    have context : s.searchContext 0x03 row position reach holeState origin claimant mask =
        some ⟨.empty, s.nextFree.toList, s.nextFree⟩ := rfl
    rw [exec_search takes context]
    cases s.nextFree <;> rfl
  · refine State.command_refused takes ?_
    have none : (s.setFrame p .idle).searchContext scope row position reach holeState origin claimant mask = none := by
      unfold State.searchContext
      rcases bad with outside | ⟨listed, bad⟩
      · rw [scopeOf_eq_none outside]
      · obtain ⟨v, rfl⟩ := exists_validity listed
        obtain ⟨sc, named, validity, _⟩ := scopeOf_validity v
        simp only [named, validity, searchKeyOf_eq_none bad]
    rw [none]

end Sys2Proof.Machine

/-! ### Protection, the resets and the supply -/

namespace Sys2Proof.Machine

open Sys2Proof Sys2Proof.Machine

/-! ### SET PROTECTION -/

theorem protectionOf_byte (m : Protection) : protectionOf m.byte = some m := by cases m <;> rfl

theorem protectionOf_eq_none {x : Byte} (h : 2 < x.toNat) : protectionOf x = none := by
  unfold protectionOf
  rw [if_neg, if_neg, if_neg] <;> rintro rfl <;> exact absurd h (by decide)

/-- The mode may go to `m`: it is not lowered, or it is lowered from GUARDED with GUARD asserted (R17). -/
theorem Protection.rank_le_iff (x m : Protection) :
    x.rank ≤ m.rank ↔ x = .opened ∨ x = m ∨ (x = .guarded ∧ m = .shift) := by
  cases x <;> cases m <;> decide

/-- Settles O27: the three answers of the command, by the order of the modes. -/
theorem protectionSet : Obligations.ProtectionSet := by
  intro m x s takes
  have run : ∀ y, exec (.setProtection .C y) s = .next (s.command .C .setProtection fun s => canopyOnly .C s (
      match protectionOf y with
      | none => refuse s .state
      | some m =>
        if s.protection.rank ≤ m.rank then taken (s.setProtectionMode m) .done
        else if s.protection = .guarded ∧ s.guardPin = true then taken (s.setProtectionMode m) .done
        else refuse s .isProtected)) := fun _ => rfl
  refine ⟨fun large => ?_, fun may => ?_, fun mayNot => ?_⟩
  · refine (run x).trans (State.command_refused takes ?_)
    rw [canopyOnly_portC, protectionOf_eq_none large]
  · refine (run _).trans (congrArg _ (State.command_answered (t := s.setProtectionMode m) takes _ ?_))
    rw [canopyOnly_portC, protectionOf_byte]
    by_cases raised : s.protection.rank ≤ m.rank
    · exact if_pos raised
    · refine (if_neg raised).trans (if_pos ?_)
      rw [Protection.rank_le_iff] at raised
      show s.protection = .guarded ∧ s.guardPin = true
      tauto
  · refine (run _).trans (State.command_refused takes ?_)
    rw [canopyOnly_portC, protectionOf_byte]
    rcases mayNot with ⟨shift, other⟩ | ⟨guarded, rfl, unasserted⟩
    · refine (if_neg ?_).trans (if_neg ?_)
      · rw [State.setFrame_protection, Protection.rank_le_iff, shift]
        rintro (h | h | h)
        · exact absurd h nofun
        · exact other h.symm
        · exact absurd h.1 nofun
      · rw [State.setFrame_protection, shift]
        nofun
    · refine (if_neg ?_).trans (if_neg ?_)
      · rw [State.setFrame_protection, guarded]
        decide
      · rw [State.setFrame_guardPin, unasserted]
        nofun

/-! ### A boom that follows, held and let go -/

/-- The lines are all of a unit that follows from whether the part is held. -/
theorem BoomUnit.follow_held {u : BoomUnit} {h : Holds} {held : Bool} (k : u.follow h held = u) (held' : Bool) :
    u.follow h held' = { u with feed := (u.follow h held').feed, turn := (u.follow h held').turn } := by
  conv_rhs => rw [← k]
  rfl

theorem BoomUnit.follow_true_lines (u : BoomUnit) (h : Holds) :
    (u.follow h true).feed = false ∧ (u.follow h true).turn = false :=
  ⟨Bool.and_false _, Bool.and_false _⟩

theorem Engine.dropTorqueRun_eq {e : Engine} (seat : e.seatRun = 0) (engaged : e.engaged = false)
    (slip : e.slipRun = 0) : e.dropTorqueRun = e := by
  cases e
  obtain rfl := seat
  obtain rfl := engaged
  obtain rfl := slip
  rfl

/-- A boom that is held in TORQUING has no runs to drop (R137). -/
theorem State.BoomFollows.dropTorqueRun_eq {s : State} {b : Boom} (h : s.BoomFollows b)
    (torquing : (s.unit b).cycle = .torquing) (held : (s.holdConditions b).present = true) :
    (s.engine b).dropTorqueRun = s.engine b := by
  obtain ⟨seat, engaged, slip⟩ := h.runs torquing (h.holds_eq ▸ held)
  exact Engine.dropTorqueRun_eq seat engaged slip

theorem Pair.ext_get {α : Type} {x y : Pair α} (h : ∀ b, x.get b = y.get b) : x = y := by
  obtain ⟨a, b⟩ := x
  obtain ⟨c, d⟩ := y
  obtain rfl : a = c := h .A
  obtain rfl : b = d := h .B
  rfl

/-- An action on a part in step keeps the engines, where it leaves the units, the queue, the lanes and the engines. -/
theorem State.Followed.acting_engines {s : State} (h : s.Followed) {f : State → State} (hu : (f s).units = s.units)
    (he : (f s).engines = s.engines) (hq : (f s).arbiter = s.arbiter) (hl : (f s).lanes = s.lanes) :
    (s.acting f).engines = s.engines := by
  refine Pair.ext_get fun b => ?_
  have unit : (f s).unit b = s.unit b := congrArg (Pair.get · b) hu
  have engine : (f s).engine b = s.engine b := congrArg (Pair.get · b) he
  have lane : (f s).laneInStep b = s.laneInStep b := by unfold State.laneInStep State.lane; rw [hl]
  have holds : (f s).holdConditions b = s.holdConditions b :=
    State.holdConditions_congr (by rw [unit]) (fun _ => by rw [unit]) (by rw [hq]) lane
  refine (State.acting_engine s f b).trans ?_
  rw [unit, engine, holds]
  split
  · rename_i held
    exact (h b).dropTorqueRun_eq held.1 held.2
  · rfl

/-! ### Power-on, RESET_N and the supply -/

theorem Frame.drop_eq (f : Frame) : f.drop = if f = .idle then .idle else .dropped := by
  cases f <;> rfl

theorem State.port_hardReset (s : State) (p : Port) : s.hardReset.port p = { PortState.initial with
    frame := if (s.port p).frame = .idle then .idle else .dropped } := by
  rw [← Frame.drop_eq]
  cases p <;> rfl

/-- An action that only lets the supply or RESET_N change, on a part in step, changes the permit lines, and offers no
more than those changes. -/
theorem State.Followed.acting_pins {s : State} (h : s.Followed) {f : State → State} {up low : Bool}
    (hf : f s = { s with supplyUp := up, resetLow := low }) :
    (∀ b, (s.acting f).unit b = { s.unit b with
      feed := ((s.acting f).unit b).feed, turn := ((s.acting f).unit b).turn }) ∧
    s.acting f = { s with
      supplyUp := up, resetLow := low, units := (s.acting f).units, ports := (s.acting f).ports } := by
  have engines : (s.acting f).engines = s.engines := h.acting_engines (by rw [hf]) (by rw [hf]) (by rw [hf]) (by rw [hf])
  constructor
  · intro b
    rw [State.acting_unit]
    have unit : (f s).unit b = s.unit b := by rw [hf]; rfl
    have holds : (f s).holdConditions b = s.holdConditions b := by rw [hf]; rfl
    rw [unit, holds]
    exact BoomUnit.follow_held (h b).follow_eq _
  · obtain ⟨u, e, p, eq⟩ := State.acting_frame s f
    rw [eq] at engines ⊢
    rw [show e = s.engines from engines, hf]

theorem State.refreshAtn_pins {s t : State} {up low : Bool}
    (h : t = { s with supplyUp := up, resetLow := low, units := t.units, ports := t.ports }) :
    t.refreshAtn = { s with
      supplyUp := up, resetLow := low, units := t.refreshAtn.units, ports := t.refreshAtn.ports } :=
  (State.refreshAtn_frame t).trans (congrArg (fun v : State => { v with ports := t.refreshAtn.ports }) h)

theorem State.Followed.refreshAtn {s : State} (h : s.Followed) : s.refreshAtn.Followed :=
  fun b => (h b).congr rfl rfl rfl rfl fun _ => rfl

/-- The rights of a change of the permit lines. -/
def PortRights.permits : PortRights := ⟨[.permit .A, .permit .B], false, false⟩

theorem PortRights.permit_mem (b : Boom) : NoticePair.permit b ∈ PortRights.permits.notices := by
  cases b <;> simp [PortRights.permits]

/-- Settles O6: the reset states are written out, and the supply and RESET_N move the lines of booms in step. -/
theorem resetsAndSupply : Obligations.ResetsAndSupply := by
  intro s
  refine ⟨⟨{ s.hardReset with supplyUp := true }, rfl, rfl, rfl, rfl, s.port_hardReset, rfl⟩,
    ⟨{ s.hardReset with resetLow := true, protection := if s.protection = .shift then .shift else .opened }, rfl,
      s.port_hardReset, rfl⟩, fun h => ?_, fun h => ?_⟩
  · obtain ⟨lines, frame⟩ := h.acting_pins (f := fun s => { s with supplyUp := false }) rfl
    have moves : s.PortsMove .permits (s.acting fun s => { s with supplyUp := false }) :=
      .acting (.of_ports rfl rfl) (fun b _ => PortRights.permit_mem b) (fun _ k => absurd rfl k)
        (fun k => absurd rfl k) (fun k => absurd rfl k)
    refine ⟨_, rfl, fun b => ?_, moves.kept rfl rfl, moves.within, frame⟩
    have unit := State.acting_unit s (fun s => { s with supplyUp := false }) b
    have held : State.isHeld { s with supplyUp := false } = true := Bool.or_true _
    rw [held] at unit
    obtain ⟨feed, turn⟩ := BoomUnit.follow_true_lines (State.unit { s with supplyUp := false } b)
      (State.holdConditions { s with supplyUp := false } b)
    rw [← unit] at feed turn
    rw [lines b, feed, turn]
  · obtain ⟨lines, frame⟩ := h.acting_pins (f := fun s => { s with resetLow := false }) rfl
    obtain ⟨u, e, sync⟩ := State.sync_frame { s with resetLow := false }
    have moves : State.PortsMove .permits { s with resetLow := false } (s.acting fun s => { s with resetLow := false }) :=
      .trans (.sync _) (.offersSince (fun b _ => PortRights.permit_mem b) (by rw [sync]; exact fun _ k => absurd rfl k)
        (by rw [sync]; exact fun k => absurd rfl k) (by rw [sync]; exact fun k => absurd rfl k))
    have port : ∀ p, ((s.acting fun s => { s with resetLow := false }).refreshAtn).port p =
        ((s.acting fun s => { s with resetLow := false }).port p).withAtn false := fun p => by
      rw [State.refreshAtn, State.port_mapPorts, State.acting_resetLow]
    refine ⟨_, rfl, (State.acting_followed s _).refreshAtn, lines, fun p => ?_,
      fun p => ?_, fun p => ?_, ?_⟩
    · rw [port]
      exact (PortState.withAtn_atn_iff _ _).trans (and_iff_right rfl)
    · rw [port]
      exact moves.kept rfl rfl p
    · rw [port]
      exact moves.within p
    · exact State.refreshAtn_pins frame

end Sys2Proof.Machine

/-! ### Slots, rows and the backlog -/

namespace Sys2Proof.Machine

open Sys2Proof Sys2Proof.Machine

/-! ### Written and emptied slots -/

theorem State.nextFree_eq_none {s : State} : s.nextFree = none ↔ ∀ i, s.entry i ≠ none := by
  unfold State.nextFree
  rw [List.find?_eq_none]
  exact ⟨fun h i e => h i (mem_allSlots i) (by rw [e]; rfl), fun h i _ e => h i (Option.isNone_iff_eq_none.1 e)⟩

theorem State.tableFull_iff {s : State} : s.tableFull = true ↔ ∀ i, s.entry i ≠ none :=
  Option.isNone_iff_eq_none.trans State.nextFree_eq_none

/-- A write before its TABLE notice: the entry, the row's count, and the slot gone from the contexts of scope EMPTY
(R1, R7, R29). -/
def State.written (s : State) (i : Slot) (e : Entry) : State :=
  ((s.setEntry i (some e)).modRow e.row fun r => { r with entries := r.entries + 1 }).mapPorts (PortState.slotWritten i)

theorem State.entry_written (s : State) (i j : Slot) (e : Entry) :
    (s.written i e).entry j = if j = i then some e else s.entry j :=
  State.entry_setEntry s i j (some e)

/-- The write that takes the last EMPTY slot posts TABLE. -/
theorem State.writeSlot_cases (s : State) (i : Slot) (e : Entry) :
    ((∀ j, j ≠ i → s.entry j ≠ none) ∧ s.writeSlot i e = (s.written i e).post .table) ∨
    ((∃ j, j ≠ i ∧ s.entry j = none) ∧ s.writeSlot i e = s.written i e) := by
  have full : (s.written i e).tableFull = true ↔ ∀ j, j ≠ i → s.entry j ≠ none := by
    rw [State.tableFull_iff]
    refine forall_congr' fun j => ?_
    rw [State.entry_written]
    split
    · rename_i own
      exact ⟨fun _ k => absurd own k, fun _ => nofun⟩
    · rename_i other
      exact ⟨fun h _ => h, fun h => h other⟩
  by_cases h : (s.written i e).tableFull = true
  · exact .inl ⟨full.1 h, if_pos h⟩
  · refine .inr ⟨?_, if_neg h⟩
    simpa only [not_forall, not_not, exists_prop] using mt full.2 h

theorem PortState.slotWritten_pending (i : Slot) (q : PortState) : (q.slotWritten i).pending = q.pending := by
  unfold PortState.slotWritten
  split <;> rfl

theorem PortState.slotWritten_context (i : Slot) (q : PortState) : (q.slotWritten i).context =
    if q.context.scope = .empty then q.context.drop i else q.context := by
  unfold PortState.slotWritten
  split <;> rfl

theorem State.context_writeSlot (s : State) (i : Slot) (e : Entry) (p : Port) :
    ((s.writeSlot i e).port p).context =
      if (s.port p).context.scope = .empty then (s.port p).context.drop i else (s.port p).context := by
  have written : ((s.written i e).port p).context = ((s.port p).slotWritten i).context :=
    congrArg PortState.context (State.port_mapPorts _ _ p)
  rw [← PortState.slotWritten_context, ← written]
  rcases s.writeSlot_cases i e with ⟨_, h⟩ | ⟨_, h⟩
  · rw [h, State.port_post, PortState.record_context]
  · rw [h]

theorem State.rows_writeSlot (s : State) (i : Slot) (e : Entry) : (s.writeSlot i e).rows =
    s.rows.map fun r => if r.id = e.row then { r with entries := r.entries + 1 } else r := by
  rcases s.writeSlot_cases i e with ⟨_, h⟩ | ⟨_, h⟩
  · rw [h]; rfl
  · rw [h]; rfl

/-- An emptied slot that held an entry. -/
theorem State.emptySlot_some {s : State} {i : Slot} {e : Entry} (h : s.entry i = some e) :
    s.emptySlot i = ((s.setEntry i none).modRow e.row fun r => r.without e).mapPorts (PortState.slotEmptied i) := by
  unfold State.emptySlot
  rw [h]

theorem State.port_emptySlot {s : State} {i : Slot} {e : Entry} (h : s.entry i = some e) (p : Port) :
    (s.emptySlot i).port p = (s.port p).slotEmptied i := by
  rw [State.emptySlot_some h, State.port_mapPorts]
  rfl

/-- A frame that holds no cursor back is left alone by a slot that becomes EMPTY. -/
theorem Frame.slotEmptied_other {f : Frame} (i : Slot)
    (h : ∀ st k bytes j n drain, f ≠ .reply st k bytes (.cursor (some (j, n)) drain)) : f.slotEmptied i = f := by
  unfold Frame.slotEmptied
  split
  · rename_i st k bytes j n drain
    exact absurd rfl (h st k bytes j n drain)
  · rfl

/-- Settles O22: the equations of a written and of an emptied slot, for the table and for each port. -/
theorem slotsWrittenAndEmptied : Obligations.SlotsWrittenAndEmptied := by
  intro s i e p
  refine ⟨⟨?_, fun j other => ?_, s.rows_writeSlot i e, fun full => ?_, ?_, fun scope => ?_, fun scope => ?_, ?_⟩,
    fun held => ⟨?_, fun j other => ?_, ?_, fun scope => ?_, fun scope => ?_, fun j n at_j => ?_,
      fun st k bytes j n drain frame => ?_, fun none => ?_, ?_⟩⟩
  · rw [State.entry_writeSlot, State.entry_setEntry_same]
  · rw [State.entry_writeSlot, State.entry_setEntry_ne _ other]
  · rcases s.writeSlot_cases i e with ⟨_, h⟩ | ⟨⟨j, other, free⟩, _⟩
    · intro q
      rw [h, State.port_post, PortState.record_pending]
      exact (mem_insertPair _ _ _).2 (.inl rfl)
    · exact absurd free (full j other)
  · rintro ⟨j, other, free⟩
    rcases s.writeSlot_cases i e with ⟨full, _⟩ | ⟨_, h⟩
    · exact absurd free (full j other)
    · rw [h]
      exact (congrArg PortState.pending (State.port_mapPorts _ _ p)).trans (PortState.slotWritten_pending i _)
  · rw [State.context_writeSlot, if_neg scope]
  · rw [State.context_writeSlot, if_pos scope]
    exact ⟨rfl, rfl⟩
  · obtain ⟨_, _, _, h⟩ := s.writeSlot_frame i e
    rw [h]
  · rw [State.entry_emptySlot, if_pos rfl]
  · rw [State.entry_emptySlot, if_neg other]
  · rw [State.emptySlot_some held]
    rfl
  · rw [State.port_emptySlot held]
    exact if_pos scope
  · rw [State.port_emptySlot held, PortState.slotEmptied, if_neg scope]
    exact ⟨rfl, rfl⟩
  · rw [State.port_emptySlot held, PortState.slotEmptied, at_j]
  · rw [State.port_emptySlot held, PortState.slotEmptied, frame]
    rfl
  · rw [State.port_emptySlot held]
    exact Frame.slotEmptied_other i none
  · rw [State.emptySlot_some held]
    rfl

/-! ### The backlog -/

theorem State.drainBacklog_nil {s : State} (h : s.backlog = []) : s.drainBacklog = s := by
  unfold State.drainBacklog
  rw [h]
  rfl

theorem State.drain_full {s : State} (h : s.nextFree = none) (n : Nat) : s.drain n = s := by
  cases n with
  | zero => rfl
  | succ n =>
    unfold State.drain
    split
    · rfl
    · exact if_pos (Option.isNone_iff_eq_none.2 h)

theorem State.backlog_writeSupplement (s : State) (i : Slot) : (s.writeSupplement i).backlog = s.backlog := by
  obtain ⟨_, _, _, h⟩ := s.writeSupplement_frame i
  rw [h]

theorem State.backlog_closingCheck (s : State) (id : Byte) : (s.closingCheck id).backlog = s.backlog := by
  rw [State.closingCheck_frame]

/-- Draining takes parents off the front, until the backlog is empty or the table full. -/
theorem State.drain_spec (n : Nat) (s : State) (h : s.backlog.length ≤ n) :
    ((s.drain n).backlog = [] ∨ (s.drain n).nextFree = none) ∧ ∃ k, (s.drain n).backlog = s.backlog.drop k := by
  induction n generalizing s with
  | zero =>
    have nil : s.backlog = [] := List.length_eq_zero_iff.1 (Nat.le_zero.1 h)
    exact ⟨.inl nil, 0, rfl⟩
  | succ n ih =>
    unfold State.drain
    split
    · rename_i nil
      exact ⟨.inl nil, 0, by rw [List.drop_zero]⟩
    · rename_i i rest backlog
      rw [backlog, List.length_cons] at h
      split
      · rename_i full
        exact ⟨.inr (Option.isNone_iff_eq_none.1 full), 0, by rw [backlog]; rfl⟩
      · split
        · rename_i e _
          have shorter : (((s.setBacklog rest).writeSupplement i).closingCheck e.row).backlog = rest := by
            rw [State.backlog_closingCheck, State.backlog_writeSupplement]
            rfl
          obtain ⟨ended, k, suffix⟩ := ih (((s.setBacklog rest).writeSupplement i).closingCheck e.row)
            (by rw [shorter]; omega)
          exact ⟨ended, k + 1, by rw [suffix, shorter, backlog, List.drop_succ_cons]⟩
        · obtain ⟨ended, k, suffix⟩ := ih (s.setBacklog rest) (show rest.length ≤ n by omega)
          exact ⟨ended, k + 1, by rw [suffix, backlog, List.drop_succ_cons]; rfl⟩

/-- The oldest parent drained, where a slot is free. -/
theorem State.drainBacklog_cons {s : State} {i j : Slot} {rest : List Slot} {e : Entry} (backlog : s.backlog = i :: rest)
    (free : s.nextFree = some j) (here : s.entry i = some e) : s.drainBacklog =
      (((s.setBacklog rest).writeSlot j (e.supplement i s.params.settings.shift)).closingCheck e.row).drainBacklog := by
  have room : s.tableFull = false := by
    rw [State.tableFull, free]
    rfl
  have written : (s.setBacklog rest).writeSupplement i =
      (s.setBacklog rest).writeSlot j (e.supplement i s.params.settings.shift) := by
    unfold State.writeSupplement
    rw [show (s.setBacklog rest).nextFree = some j from free, show (s.setBacklog rest).entry i = some e from here]
    rfl
  have length : (((s.setBacklog rest).writeSupplement i).closingCheck e.row).backlog.length = rest.length := by
    rw [State.backlog_closingCheck, State.backlog_writeSupplement]
    rfl
  rw [← written, State.drainBacklog, State.drainBacklog, length, backlog, List.length_cons, State.drain, backlog]
  simp only [room, here]
  rfl

/-- Settles O26: `drain` by its steps, and what it leaves by induction on the backlog's length. -/
theorem backlogDrains : Obligations.BacklogDrains := by
  intro s
  obtain ⟨ended, suffix⟩ := s.drain_spec s.backlog.length (le_refl _)
  refine ⟨?_, fun i rest j e backlog free here => ?_, ended, suffix⟩
  · rintro (nil | full)
    · exact State.drainBacklog_nil nil
    · exact State.drain_full full _
  · exact State.drainBacklog_cons backlog free here

end Sys2Proof.Machine

/-! ### Planning a row, freezing it and releasing it -/

namespace Sys2Proof.Machine

open Sys2Proof Sys2Proof.Machine

/-! ### PLAN HOLE -/

theorem State.planned_iff {s : State} {row : Byte} {n : Nat} : s.planned row n = true ↔
    ∃ i e, s.entry i = some e ∧ e.origin = .plan ∧ e.row = row ∧ e.position = n := by
  unfold State.planned
  rw [List.any_eq_true]
  refine exists_congr fun i => ?_
  rw [and_iff_right (mem_allSlots i)]
  cases s.entry i with
  | none => simp
  | some e => simp [and_assoc]

/-- What PLAN HOLE comes to on a state whose frame has ended. -/
theorem exec_planHole (row position reach : Byte) (offset : Word16) (lengthClass priority : Byte) (s : State) :
    exec (.planHole .C row position reach offset lengthClass priority) s = .next (s.command .C .planHole fun s =>
      match s.nextFree with
      | none => refuse s .full
      | some i =>
        match s.row row with
        | none => refuse s .noRow
        | some r =>
          if r.state ≠ .opened ∨ r.planEnded = true then refuse s .state
          else
            match positionOf position, reachOf reach with
            | some pos, some rc =>
              if s.planned row pos then refuse s .state
              else
                ⟨s.writeSlot i (plannedEntry row pos rc offset.toNat lengthClass.toNat priority.toNat),
                  doneOr (planClamped offset.toNat lengthClass.toNat priority.toNat), some i⟩
            | _, _ => refuse s .state) := rfl

theorem doneOr_eq {x : Bool} {p : Prop} [Decidable p] (h : x = true ↔ p) :
    doneOr x = if p then .clamped else .done := by
  unfold doneOr
  by_cases k : p
  · rw [if_pos k, if_pos (h.2 k)]
  · rw [if_neg k, if_neg (mt h.1 k)]

theorem planClamped_iff {offset lengthClass priority : Nat} : planClamped offset lengthClass priority = true ↔
    maxOffset < offset ∨ 4 < lengthClass ∨ 15 < priority := by
  simp only [planClamped, Bool.or_eq_true, decide_eq_true_eq, or_assoc]

/-- Settles O21: the command's checks in their order, and then the write. -/
theorem planHoleWritesEntry : Obligations.PlanHoleWritesEntry := by
  intro row position reach offset lengthClass priority s takes
  unfold Answers
  rw [exec_planHole]
  refine ⟨fun full => ?_, fun room absent => ?_, fun r room here bad => ?_,
    fun i r x free here opened unended position_le reach_eq fresh => ?_⟩
  · refine State.command_refused takes ?_
    simp only [State.nextFree_setFrame, full]
  · obtain ⟨i, free⟩ := Option.ne_none_iff_exists'.1 room
    refine State.command_refused takes ?_
    simp only [State.nextFree_setFrame, State.row_setFrame, free, absent]
  · obtain ⟨i, free⟩ := Option.ne_none_iff_exists'.1 room
    refine State.command_refused takes ?_
    simp only [State.nextFree_setFrame, State.row_setFrame, free, here]
    by_cases shut : r.state ≠ .opened ∨ r.planEnded = true
    · rw [if_pos shut]
    · rw [if_neg shut]
      cases hp : positionOf position with
      | none => rfl
      | some pos =>
        cases hr : reachOf reach with
        | none => rfl
        | some rc =>
          have at_pos : position.toNat ≤ 7 ∧ pos = position.toNat := by
            unfold positionOf at hp
            split at hp
            · rename_i le
              exact ⟨le, (Option.some.inj hp).symm⟩
            · exact absurd hp nofun
          refine if_pos (show s.planned row pos = true from State.planned_iff.2 ?_)
          rcases bad with h | h | h | h | ⟨j, e, held, plan, own, same⟩
          · exact absurd (.inl h) shut
          · exact absurd (.inr h) shut
          · exact absurd at_pos.1 (Nat.not_le.2 h)
          · exact absurd hr (by rw [reachOf_eq_none h]; nofun)
          · exact ⟨j, e, held, plan, own, same.trans at_pos.2.symm⟩
  · have unplanned : ¬ (s.setFrame .C .idle).planned row position.toNat = true := fun k => by
      obtain ⟨j, e, held, plan, own, same⟩ := State.planned_iff.1 k
      exact fresh j e held plan own same
    have code : doneOr (planClamped offset.toNat lengthClass.toNat priority.toNat) =
        if 7000 < offset.toNat ∨ 4 < lengthClass.toNat ∨ 15 < priority.toNat then .clamped else .done :=
      doneOr_eq planClamped_iff
    refine congrArg Host.Outcome.next (State.command_answered takes _ ?_)
    simp only [State.nextFree_setFrame, State.row_setFrame, free, here, opened, unended, ne_eq, not_true_eq_false,
      false_or, Bool.false_eq_true, if_false, ← reach_eq, reachOf_byte, positionOf, if_pos position_le]
    rw [if_neg unplanned, State.writeSlot_setFrame_idle, code]
    rfl

/-! ### END PLAN -/

/-- What END PLAN comes to on a state whose frame has ended. -/
theorem exec_endPlan (row : Byte) (s : State) : exec (.endPlan .C row) s =
    .next (s.command .C .endPlan fun s =>
      match s.row row with
      | none => refuse s .noRow
      | some r =>
        if r.state ≠ .opened then refuse s .state
        else if r.planEnded then taken s .done
        else taken ((s.modRow row fun r => { r with planEnded := true }).closingCheck row) .done) := rfl

theorem State.setFrame_idle_answered_done (s : State) (p : Port) (n : CommandName) {run : State → Taken}
    (takes : s.Takes p) (h : run (s.setFrame p .idle) = taken (s.setFrame p .idle) .done) :
    Host.Outcome.next (s.command p n run) =
      (.next (s.answered p n .done none) : Host.Outcome State Fault Refusal) :=
  congrArg _ (State.command_answered takes n h)

/-- The closing check of one row looks at that row alone. -/
theorem State.row_closingCheck_other (s : State) {id x : Byte} (h : x ≠ id) : (s.closingCheck id).row x = s.row x := by
  rcases s.closingCheck_cases id with ⟨r, _, _, _, _, _, closed⟩ | same
  · rw [closed]
    refine (State.row_modRow s id x (f := fun r => { r with state := .closed }) fun _ => rfl).trans ?_
    simp only [if_neg h, Option.map_id']
  · rw [same]

/-- The closing check closes a row that meets its conditions. -/
theorem State.closingCheck_closes {s : State} {id : Byte} {r : RowRecord} (here : s.row id = some r)
    (opened : r.state = .opened) (ended : r.planEnded = true)
    (settled : ∀ i e, s.entry i = some e → e.row = id → e.settled = true)
    (parents : ∀ i ∈ s.backlog, ∀ e, s.entry i = some e → e.row ≠ id) :
    s.closingCheck id = (s.modRow id fun r => { r with state := .closed }).post .row := by
  have none_waits : s.backlogHas id = false := Bool.eq_false_iff.2 fun h => by
    obtain ⟨i, hi, e, he, row⟩ := State.backlogHas_iff.1 h
    exact parents i hi e he row
  unfold State.closingCheck
  simp only [here]
  exact if_pos ⟨opened, ended, State.rowSettled_iff.2 settled, none_waits⟩

/-- The closing check leaves a row with an unsettled entry, or a parent in the backlog. -/
theorem State.closingCheck_waits {s : State} {id : Byte}
    (h : (∃ i e, s.entry i = some e ∧ e.row = id ∧ e.settled = false) ∨
      (∃ i ∈ s.backlog, ∃ e, s.entry i = some e ∧ e.row = id)) : s.closingCheck id = s := by
  rcases s.closingCheck_cases id with ⟨r, _, _, _, settled, parents, _⟩ | same
  · rcases h with ⟨i, e, he, row, un⟩ | waiting
    · exact absurd (State.rowSettled_iff.1 settled i e he row) (by rw [un]; nofun)
    · exact absurd (State.backlogHas_iff.2 waiting) (by rw [parents]; nofun)
  · exact same

theorem State.closingCheck_move (s : State) (id : Byte) : s.PortsMove ⟨[.row], false, false⟩ (s.closingCheck id) :=
  .closingCheck (List.mem_singleton.2 rfl) s id

/-- The flag set and the closing check made. -/
def State.planEndedAt (s : State) (row : Byte) : State := s.modRow row fun r => { r with planEnded := true }

theorem State.row_planEndedAt {s : State} {row : Byte} {r : RowRecord} (here : s.row row = some r) :
    (s.planEndedAt row).row row = some { r with planEnded := true } := by
  refine (State.row_modRow s row row (f := fun r => { r with planEnded := true }) fun _ => rfl).trans ?_
  rw [here, Option.map_some, if_pos rfl]

/-- Settles O23: END PLAN's checks, and the two outcomes of the closing check. -/
theorem endPlanAndClosing : Obligations.EndPlanAndClosing := by
  intro row s takes
  unfold Answers
  rw [exec_endPlan]
  refine ⟨fun absent => ?_, fun r here => ⟨fun shut => ?_, fun opened ended => ?_, fun opened unended =>
    ⟨(s.planEndedAt row).closingCheck row, ?_, ?_, ?_, ?_, fun settled parents => ?_, fun waits => ?_, fun x other => ?_⟩⟩⟩
  · refine State.command_refused takes ?_
    simp only [State.row_setFrame, absent]
  · refine State.command_refused takes ?_
    simp only [State.row_setFrame, here]
    exact if_pos shut
  · refine State.setFrame_idle_answered_done s .C _ takes ?_
    simp only [State.row_setFrame, here, opened, ended, ne_eq, not_true_eq_false, if_false, if_true]
  · refine congrArg _ (State.command_answered takes _ ?_)
    simp only [State.row_setFrame, here, opened, unended, ne_eq, not_true_eq_false, if_false, Bool.false_eq_true,
      State.modRow_setFrame, State.closingCheck_setFrame_idle]
    rfl
  · rw [State.closingCheck_frame]
    rfl
  · exact ((s.planEndedAt row).closingCheck_move row).kept rfl rfl
  · exact ((s.planEndedAt row).closingCheck_move row).within
  · rw [State.closingCheck_closes (s.row_planEndedAt here) opened rfl settled parents]
    refine ⟨?_, fun q => ?_⟩
    · refine (State.row_modRow (s.planEndedAt row) row row (f := fun r => { r with state := .closed })
        fun _ => rfl).trans ?_
      rw [State.row_planEndedAt here, Option.map_some, if_pos rfl]
    · rw [State.port_post, PortState.record_pending]
      exact (mem_insertPair _ _ _).2 (.inl rfl)
  · rw [State.closingCheck_waits (s := s.planEndedAt row) waits]
    exact ⟨s.row_planEndedAt here, rfl⟩
  · rw [State.row_closingCheck_other _ other]
    refine (State.row_modRow s row x (f := fun r => { r with planEnded := true }) fun _ => rfl).trans ?_
    simp only [if_neg other, Option.map_id']

end Sys2Proof.Machine

/-! ### FREEZE ROW, THAW ROW and RELEASE ROW -/

namespace Sys2Proof.Machine

open Sys2Proof Sys2Proof.Machine

/-! ### Drained marks -/

@[simp] theorem State.clearDrained_setFrame (s : State) (p : Port) (f : Frame) (row : Byte) :
    (s.setFrame p f).clearDrained row = (s.clearDrained row).setFrame p f :=
  State.foldl_modEntry_setFrame (s.slotsOfRow row) _ s p f

theorem State.clearDrained_frame (s : State) (row : Byte) : ∃ x, s.clearDrained row = { s with slots := x } :=
  State.foldl_modEntry_frame _ _ _

theorem State.entry_clearDrained (s : State) (row : Byte) (i : Slot) : (s.clearDrained row).entry i =
    (s.entry i).map fun e => if e.row = row then { e with drained := false } else e := by
  unfold State.clearDrained
  rw [State.entry_foldl_modEntry (f := fun e => { e with drained := false }) fun _ => rfl]
  cases held : s.entry i with
  | none => simp
  | some e =>
    by_cases own : e.row = row
    · rw [if_pos (State.mem_slotsOfRow.2 ⟨e, held, own⟩), Option.map_some, Option.map_some, if_pos own]
    · rw [if_neg, Option.map_some, if_neg own]
      intro mem
      obtain ⟨f, hf, row⟩ := State.mem_slotsOfRow.1 mem
      obtain rfl := Option.some.inj (held.symm.trans hf)
      exact own row

/-- A row's state set with every drained mark of the row clear (R12, R15). -/
def State.unmarked (s : State) (row : Byte) (x : RowState) : State :=
  (s.clearDrained row).modRow row fun r => { r with state := x }

theorem State.unmarked_spec {s : State} {row : Byte} {r : RowRecord} (here : s.row row = some r) (x : RowState) :
    (s.unmarked row x).row row = some { r with state := x } ∧
    (∀ y, y ≠ row → (s.unmarked row x).row y = s.row y) ∧
    (∀ i, (s.unmarked row x).entry i =
      (s.entry i).map fun e => if e.row = row then { e with drained := false } else e) ∧
    s.unmarked row x = { s with slots := (s.unmarked row x).slots, rows := (s.unmarked row x).rows } := by
  obtain ⟨slots, frame⟩ := s.clearDrained_frame row
  have rows : (s.clearDrained row).rows = s.rows := by rw [frame]
  have record := fun y => State.row_modRow (s.clearDrained row) row y (f := fun r => { r with state := x }) fun _ => rfl
  refine ⟨?_, fun y other => ?_, s.entry_clearDrained row, ?_⟩
  · refine (record row).trans ?_
    rw [State.row_congr rows, here, Option.map_some, if_pos rfl]
  · refine (record y).trans ?_
    simp only [State.row_congr rows, if_neg other, Option.map_id']
  · unfold State.unmarked
    rw [frame]
    rfl

/-! ### FREEZE ROW and THAW ROW -/

/-- What FREEZE ROW comes to on a state whose frame has ended. -/
theorem exec_freezeRow (row : Byte) (s : State) : exec (.freezeRow .C row) s =
    .next (s.command .C .freezeRow fun s =>
      match s.row row with
      | none => refuse s .noRow
      | some r => if r.state ≠ .closed then refuse s .state else taken (s.unmarked row .frozen) .done) := rfl

/-- What THAW ROW comes to on a state whose frame has ended. -/
theorem exec_thawRow (row : Byte) (s : State) : exec (.thawRow .C row) s =
    .next (s.command .C .thawRow fun s =>
      match s.row row with
      | none => refuse s .noRow
      | some r =>
        if r.state ≠ .frozen then refuse s .state
        else if s.mayThaw then taken (s.unmarked row .closed) .done
        else refuse s .isProtected) := rfl

@[simp] theorem State.unmarked_setFrame (s : State) (p : Port) (f : Frame) (row : Byte) (x : RowState) :
    (s.setFrame p f).unmarked row x = (s.unmarked row x).setFrame p f := by
  unfold State.unmarked
  rw [State.clearDrained_setFrame, State.modRow_setFrame]

/-- Settles O24: the commands' checks, and `State.unmarked_spec` for what they do. -/
theorem rowsFrozenAndThawed : Obligations.RowsFrozenAndThawed := by
  intro row s takes
  unfold Answers
  rw [exec_freezeRow, exec_thawRow]
  refine ⟨fun absent => ⟨?_, ?_⟩, fun r here => ⟨fun shut => ?_, fun shut => ?_, fun frozen mayNot => ?_,
    fun closed => ⟨_, ?_, s.unmarked_spec here .frozen⟩, fun frozen may => ⟨_, ?_, s.unmarked_spec here .closed⟩⟩⟩
  · refine State.command_refused takes ?_
    simp only [State.row_setFrame, absent]
  · refine State.command_refused takes ?_
    simp only [State.row_setFrame, absent]
  · refine State.command_refused takes ?_
    simp only [State.row_setFrame, here]
    exact if_pos shut
  · refine State.command_refused takes ?_
    simp only [State.row_setFrame, here]
    exact if_pos shut
  · refine State.command_refused takes ?_
    have barred : ¬ (s.setFrame .C .idle).mayThaw = true := by
      unfold State.mayThaw
      rw [State.setFrame_protection, State.setFrame_guardPin]
      rcases mayNot with shift | ⟨guarded, unasserted⟩
      · rw [shift]; nofun
      · rw [guarded, unasserted]; nofun
    simp only [State.row_setFrame, here, frozen, ne_eq, not_true_eq_false, if_false, barred]
    rfl
  · refine congrArg _ (State.command_answered takes _ ?_)
    simp only [State.row_setFrame, here, closed, ne_eq, not_true_eq_false, if_false, State.unmarked_setFrame]
    rfl
  · refine congrArg _ (State.command_answered takes _ ?_)
    have allowed : (s.setFrame .C .idle).mayThaw = true := by
      unfold State.mayThaw
      rw [State.setFrame_protection, State.setFrame_guardPin]
      rcases may with opened | ⟨guarded, asserted⟩
      · rw [opened]
      · rw [guarded, asserted]
    simp only [State.row_setFrame, here, frozen, ne_eq, not_true_eq_false, if_false, allowed, if_true,
      State.unmarked_setFrame]
    rfl

/-! ### Slots emptied together -/

/-- The match context without the slots of a list (R29). -/
def MatchContext.dropAll (c : MatchContext) (l : List Slot) : MatchContext :=
  { c with members := c.members.filter fun j => decide (j ∉ l), best := c.best.filter fun j => decide (j ∉ l) }

/-- What a held-back cursor becomes when the slots of a list become EMPTY (R34). -/
def Frame.slotsEmptied (l : List Slot) : Frame → Frame
  | .reply st k bytes (.cursor (some (j, n)) drain) =>
    if j ∈ l then .reply st k bytes (.cursor none none) else .reply st k bytes (.cursor (some (j, n)) drain)
  | f => f

/-- What a port becomes when the slots of a list become EMPTY (R29, R33, R34). -/
def PortState.slotsEmptied (l : List Slot) (q : PortState) : PortState :=
  { q with
    context := if q.context.scope = .empty then q.context else q.context.dropAll l
    cursor := q.cursor.filter fun c => decide (c.1 ∉ l)
    frame := q.frame.slotsEmptied l }

theorem MatchContext.drop_dropAll (c : MatchContext) (i : Slot) (l : List Slot) :
    (c.drop i).dropAll l = c.dropAll (i :: l) := by
  obtain ⟨scope, members, best⟩ := c
  have best_eq : (if best = some i then none else best).filter (fun j => decide (j ∉ l)) =
      best.filter fun j => decide (j ∉ i :: l) := by
    cases best with
    | none => rfl
    | some j => by_cases own : j = i <;> simp [own, Option.filter]
  have members_eq : (members.filter fun j => j != i).filter (fun j => decide (j ∉ l)) =
      members.filter fun j => decide (j ∉ i :: l) := by
    rw [List.filter_filter]
    refine List.filter_congr fun j _ => ?_
    by_cases own : j = i <;> simp [own]
  simp only [MatchContext.drop, MatchContext.dropAll, best_eq, members_eq]

theorem Frame.slotEmptied_slotsEmptied (f : Frame) (i : Slot) (l : List Slot) :
    (f.slotEmptied i).slotsEmptied l = f.slotsEmptied (i :: l) := by
  rcases f with _ | _ | ⟨st, k, bytes, _ | ⟨_ | ⟨j, n⟩, drain⟩ | _⟩ | _
  case reply.cursor.some =>
    by_cases own : j = i
    · simp [Frame.slotEmptied, Frame.slotsEmptied, own]
    · simp [Frame.slotEmptied, Frame.slotsEmptied, own]
  all_goals rfl

theorem PortState.slotEmptied_slotsEmptied (q : PortState) (i : Slot) (l : List Slot) :
    (q.slotEmptied i).slotsEmptied l = q.slotsEmptied (i :: l) := by
  have cursor : (q.slotEmptied i).cursor.filter (fun c => decide (c.1 ∉ l)) =
      q.cursor.filter fun c => decide (c.1 ∉ i :: l) := by
    unfold PortState.slotEmptied
    rcases q.cursor with _ | ⟨j, n⟩
    · rfl
    · by_cases own : j = i <;> simp [own, Option.filter]
  have context : (if (q.slotEmptied i).context.scope = .empty then (q.slotEmptied i).context
      else (q.slotEmptied i).context.dropAll l) =
      if q.context.scope = .empty then q.context else q.context.dropAll (i :: l) := by
    unfold PortState.slotEmptied
    by_cases scope : q.context.scope = .empty
    · simp only [if_pos scope]
    · simp only [if_neg scope, MatchContext.drop_dropAll]
      exact if_neg scope
  unfold PortState.slotsEmptied
  rw [cursor, context, show (q.slotEmptied i).frame.slotsEmptied l = _ from q.frame.slotEmptied_slotsEmptied i l]
  rfl

theorem PortState.slotsEmptied_nil (q : PortState) : q.slotsEmptied [] = q := by
  obtain ⟨last, context, cursor, pending, masks, edges, atn, frame⟩ := q
  have h1 : (if context.scope = .empty then context else context.dropAll []) = context := by
    split
    · rfl
    · cases context with
      | mk scope members best => cases best <;> simp [MatchContext.dropAll]
  have h2 : cursor.filter (fun c => decide (c.1 ∉ ([] : List Slot))) = cursor := by cases cursor <;> simp
  have h3 : frame.slotsEmptied [] = frame := by
    unfold Frame.slotsEmptied
    split
    · exact if_neg List.not_mem_nil
    · rfl
  simp only [PortState.slotsEmptied, h1, h2, h3]

/-- The ports after the slots of a list without repeats, each of which held an entry, have become EMPTY. -/
theorem State.port_emptySlots {l : List Slot} (nodup : l.Nodup) {s : State} (held : ∀ i ∈ l, s.entry i ≠ none)
    (p : Port) : (l.foldl State.emptySlot s).port p = (s.port p).slotsEmptied l := by
  induction l generalizing s with
  | nil => exact (PortState.slotsEmptied_nil _).symm
  | cons i rest ih =>
    obtain ⟨fresh, tail⟩ := List.nodup_cons.1 nodup
    obtain ⟨e, he⟩ := Option.ne_none_iff_exists'.1 (held i List.mem_cons_self)
    rw [List.foldl_cons, ih tail, State.port_emptySlot he, PortState.slotEmptied_slotsEmptied]
    intro j hj
    rw [State.entry_emptySlot, if_neg (by rintro rfl; exact fresh hj)]
    exact held j (List.mem_cons_of_mem i hj)

theorem State.emptySlots_frame (l : List Slot) (s : State) : l.foldl State.emptySlot s = { s with
    slots := (l.foldl State.emptySlot s).slots, rows := (l.foldl State.emptySlot s).rows
    ports := (l.foldl State.emptySlot s).ports } := by
  induction l generalizing s with
  | nil => rfl
  | cons i rest ih =>
    obtain ⟨_, _, _, frame⟩ := s.emptySlot_frame i
    rw [List.foldl_cons]
    refine (ih (s.emptySlot i)).trans ?_
    generalize rest.foldl State.emptySlot (s.emptySlot i) = t
    rw [frame]

/-- The records of the other rows are as they were when a row's slots become EMPTY. -/
theorem State.rows_emptySlots {l : List Slot} {row : Byte} {s : State}
    (own : ∀ i ∈ l, ∀ e, s.entry i = some e → e.row = row) :
    (l.foldl State.emptySlot s).rows.filter (fun r => r.id != row) = s.rows.filter fun r => r.id != row := by
  induction l generalizing s with
  | nil => rfl
  | cons i rest ih =>
    rw [List.foldl_cons, ih]
    · cases he : s.entry i with
      | none =>
        unfold State.emptySlot
        rw [he]
      | some e =>
        rw [State.emptySlot_some he, own i List.mem_cons_self e he]
        show (s.rows.map fun r => if r.id = row then r.without e else r).filter _ = _
        induction s.rows with
        | nil => rfl
        | cons r tail ih =>
          rw [List.map_cons, List.filter_cons, List.filter_cons, ih]
          by_cases same : r.id = row
          · rw [if_pos same, show (r.without e).id = r.id from rfl, same, bne_self_eq_false]
            rfl
          · rw [if_neg same]
    · intro j hj e he
      rw [State.entry_emptySlot] at he
      split at he
      · exact absurd he nofun
      · exact own j (List.mem_cons_of_mem i hj) e he

theorem Frame.slotsEmptied_other {l : List Slot} {f : Frame}
    (h : ∀ st k bytes j n drain, f = .reply st k bytes (.cursor (some (j, n)) drain) → j ∉ l) :
    f.slotsEmptied l = f := by
  unfold Frame.slotsEmptied
  split
  · rename_i st k bytes j n drain
    exact if_neg (h st k bytes j n drain rfl)
  · rfl

/-! ### RELEASE ROW -/

/-- The row's slots emptied and its record removed (R16). -/
def State.rowReleased (s : State) (row : Byte) : State :=
  let t := (s.slotsOfRow row).foldl State.emptySlot s
  t.setRows (t.rows.filter fun x => x.id != row)

/-- What RELEASE ROW comes to on a state whose frame has ended. -/
theorem exec_releaseRow (row : Byte) (s : State) : exec (.releaseRow .C row) s =
    .next (s.command .C .releaseRow fun s =>
      match s.row row with
      | none => refuse s .noRow
      | some r =>
        if r.state ≠ .frozen then refuse s .state
        else if s.rowDrained row then taken (s.rowReleased row).drainBacklog .done
        else refuse s .state) := rfl

theorem State.rowDrained_iff {s : State} {row : Byte} :
    s.rowDrained row = true ↔ ∀ i e, s.entry i = some e → e.row = row → e.drained = true := by
  unfold State.rowDrained
  rw [List.all_eq_true]
  constructor
  · intro h i e he own
    have drained := h i (State.mem_slotsOfRow.2 ⟨e, he, own⟩)
    rw [he] at drained
    exact drained
  · intro h i hi
    obtain ⟨e, he, own⟩ := State.mem_slotsOfRow.1 hi
    rw [he]
    exact h i e he own

theorem State.slotsOfRow_own {s : State} {row : Byte} {i : Slot} (mem : i ∈ s.slotsOfRow row) {e : Entry}
    (he : s.entry i = some e) : e.row = row := by
  obtain ⟨f, hf, own⟩ := State.mem_slotsOfRow.1 mem
  obtain rfl := Option.some.inj (he.symm.trans hf)
  exact own

@[simp] theorem State.rowReleased_setFrame_idle (s : State) (p : Port) (row : Byte) :
    (s.setFrame p .idle).rowReleased row = (s.rowReleased row).setFrame p .idle := by
  have emptied : ((s.setFrame p .idle).slotsOfRow row).foldl State.emptySlot (s.setFrame p .idle) =
      ((s.slotsOfRow row).foldl State.emptySlot s).setFrame p .idle :=
    State.foldl_setFrame_idle (fun s i => s.emptySlot_setFrame_idle p i) _ s
  unfold State.rowReleased
  simp only [emptied]
  rfl

theorem State.entry_rowReleased (s : State) (row : Byte) (i : Slot) :
    (s.rowReleased row).entry i = if i ∈ s.slotsOfRow row then none else s.entry i :=
  State.entry_emptySlots (s.slotsOfRow row) s i

theorem State.port_rowReleased (s : State) (row : Byte) (p : Port) :
    (s.rowReleased row).port p = (s.port p).slotsEmptied (s.slotsOfRow row) := by
  refine State.port_emptySlots ((s.slotsOfRow_sorted row).imp fun h => ne_of_lt h) (fun i mem => ?_) p
  obtain ⟨e, he, _⟩ := State.mem_slotsOfRow.1 mem
  rw [he]
  nofun

theorem State.rowReleased_rows (s : State) (row : Byte) :
    (s.rowReleased row).rows = s.rows.filter fun x => x.id != row :=
  State.rows_emptySlots fun _ mem _ he => State.slotsOfRow_own mem he

/-- Every port loses the row's slots, and nothing else (R29, R33, R34). -/
theorem State.ports_rowReleased (s : State) (row : Byte) (p : Port) : ∃ q, (s.rowReleased row).port p = q ∧
    q.pending = (s.port p).pending ∧ q.context.scope = (s.port p).context.scope ∧ q.masks = (s.port p).masks ∧
    q.edges = (s.port p).edges ∧ q.atn = (s.port p).atn ∧ q.last = (s.port p).last ∧
    ((s.port p).context.scope = .empty → q.context = (s.port p).context) ∧
    ((s.port p).context.scope ≠ .empty → q.context = (s.port p).context.dropAll (s.slotsOfRow row)) ∧
    q.cursor = (s.port p).cursor.filter (fun c => decide (c.1 ∉ s.slotsOfRow row)) ∧
    q.frame = (s.port p).frame.slotsEmptied (s.slotsOfRow row) := by
  refine ⟨_, s.port_rowReleased row p, rfl, ?_, rfl, rfl, rfl, rfl, fun scope => if_pos scope,
    fun scope => if_neg scope, rfl, rfl⟩
  show (if (s.port p).context.scope = .empty then (s.port p).context else _).scope = _
  split <;> rfl

/-- Settles O25: RELEASE ROW's checks, and the ports after its slots have become EMPTY together. -/
theorem releaseRowFreesSlots : Obligations.ReleaseRowFreesSlots := by
  intro row s takes
  unfold Answers
  rw [exec_releaseRow]
  refine ⟨fun absent => ?_, fun r here => ⟨fun bad => ?_, fun frozen drained => ⟨s.rowReleased row, ?_, fun i e he => ?_,
    fun i none => ?_, s.rowReleased_rows row, fun p i e he own => ?_, fun p => ?_, ?_⟩⟩⟩
  · refine State.command_refused takes ?_
    simp only [State.row_setFrame, absent]
  · refine State.command_refused takes ?_
    simp only [State.row_setFrame, here]
    by_cases shut : r.state ≠ .frozen
    · exact if_pos shut
    · refine (if_neg shut).trans (if_neg fun k => ?_)
      rcases bad with h | ⟨i, e, he, own, un⟩
      · exact shut h
      · exact absurd (State.rowDrained_iff.1 (show s.rowDrained row = true from k) i e he own) (by rw [un]; nofun)
  · refine congrArg _ (State.command_answered takes _ ?_)
    have all : (s.setFrame .C .idle).rowDrained row = true := State.rowDrained_iff.2 drained
    simp only [State.row_setFrame, here, frozen, ne_eq, not_true_eq_false, if_false, all, if_true,
      State.rowReleased_setFrame_idle, State.drainBacklog_setFrame_idle]
    rfl
  · rw [State.entry_rowReleased, he]
    refine if_congr ?_ rfl rfl
    exact ⟨fun mem => State.slotsOfRow_own mem he, fun own => State.mem_slotsOfRow.2 ⟨e, he, own⟩⟩
  · rw [State.entry_rowReleased, none, ite_self]
  · have mem : i ∈ s.slotsOfRow row := State.mem_slotsOfRow.2 ⟨e, he, own⟩
    obtain ⟨q, port, _, scope, _, _, _, _, _, others, cursor, _⟩ := s.ports_rowReleased row p
    rw [port]
    refine ⟨fun k => ?_, fun n => ?_⟩
    · rw [others (scope ▸ k)]
      refine ⟨fun k => ?_, fun k => ?_⟩
      · exact of_decide_eq_true (List.mem_filter.1 k).2 mem
      · exact of_decide_eq_true (Option.filter_eq_some_iff.1 k).2 mem
    · rw [cursor]
      intro k
      exact of_decide_eq_true (Option.filter_eq_some_iff.1 k).2 mem
  · obtain ⟨q, port, pending, scope, masks, edges, atn, last, own, others, cursor, frame⟩ := s.ports_rowReleased row p
    rw [port]
    have away : ∀ i, (∀ e, s.entry i = some e → e.row ≠ row) → i ∉ s.slotsOfRow row := fun i h mem => by
      obtain ⟨e, he, row⟩ := State.mem_slotsOfRow.1 mem
      exact h e he row
    refine ⟨pending, scope, masks, edges, atn, last, own, fun k => ?_, fun h => ?_, fun i n e at_i he own => ?_,
      fun h => ?_, fun st k bytes i n drain e at_i he own => ?_⟩
    · rw [others k]
      refine ⟨List.filter_congr fun i _ => ?_, fun h => ?_, fun i e best he own => ?_⟩
      · rw [Bool.eq_iff_iff, decide_eq_true_eq, State.mem_slotsOfRow]
        cases s.entry i with
        | none => simp
        | some e => simp
      · show Option.filter _ _ = _
        cases best : (s.port p).context.best with
        | none => rfl
        | some i =>
          exact Option.filter_eq_some_iff.2 ⟨rfl, decide_eq_true (away i fun e he => h i e best he)⟩
      · show Option.filter _ _ = _
        rw [best]
        exact Option.filter_eq_none_iff.2 fun j hj k => by
          obtain rfl := Option.some.inj hj
          exact of_decide_eq_true k (State.mem_slotsOfRow.2 ⟨e, he, own⟩)
    · rw [cursor]
      cases at_c : (s.port p).cursor with
      | none => rfl
      | some c =>
        exact Option.filter_eq_some_iff.2 ⟨rfl, decide_eq_true (away c.1 fun e he => h c.1 c.2 e at_c he)⟩
    · rw [cursor, at_i]
      exact Option.filter_eq_none_iff.2 fun j hj k => by
        obtain rfl := Option.some.inj hj
        exact of_decide_eq_true k (State.mem_slotsOfRow.2 ⟨e, he, own⟩)
    · rw [frame]
      exact Frame.slotsEmptied_other fun st k bytes i n drain at_i => away i fun e he => h st k bytes i n drain e at_i he
    · rw [frame, at_i]
      exact if_pos (State.mem_slotsOfRow.2 ⟨e, he, own⟩)
  · have frame := State.emptySlots_frame (s.slotsOfRow row) s
    unfold State.rowReleased
    generalize (s.slotsOfRow row).foldl State.emptySlot s = t at frame ⊢
    rw [frame]
    rfl

end Sys2Proof.Machine

/-! ### SET VALIDITY -/

namespace Sys2Proof.Machine

open Sys2Proof Sys2Proof.Machine

/-! ### Targets -/

theorem targetOf_slot {x : Byte} {i : Slot} (h : x.toNat = i.val) : targetOf x = .slot i := by
  have below := i.isLt
  unfold targetOf
  rw [if_neg, if_neg, slotOf_eq_some h]
  · rintro rfl
    exact absurd (h ▸ below) (by decide)
  · rintro rfl
    exact absurd (h ▸ below) (by decide)

theorem targetOf_nothing {x : Byte} (above : 48 ≤ x.toNat) (best : x ≠ 0xFF) (set : x ≠ 0xFE) :
    targetOf x = .nothing := by
  unfold targetOf
  rw [if_neg best, if_neg set, slotOf_eq_none above]

theorem validityOf_byte (v : Validity) : validityOf v.byte = some v := by cases v <;> rfl

theorem validityOf_eq_none {x : Byte} (h : x = 0x00 ∨ 3 < x.toNat) : validityOf x = none := by
  rcases h with rfl | large
  · rfl
  · unfold validityOf
    rw [if_neg, if_neg, if_neg] <;> rintro rfl <;> exact absurd large (by decide)

/-! ### Rows closed one after the other -/

/-- A row's record after its closing check: what the check looks at is the record, the slots and the backlog. -/
def State.checked (s : State) (x : Byte) (r : RowRecord) : RowRecord :=
  if r.state = .opened ∧ r.planEnded = true ∧ s.rowSettled x = true ∧ s.backlogHas x = false then
    { r with state := .closed }
  else r

theorem State.checked_checked (s : State) (x : Byte) (r : RowRecord) : s.checked x (s.checked x r) = s.checked x r := by
  unfold State.checked
  split
  · exact if_neg fun h => absurd h.1 nofun
  · rfl

theorem State.row_closingCheck (s : State) (x : Byte) : (s.closingCheck x).row x = (s.row x).map (s.checked x) := by
  unfold State.closingCheck State.checked
  cases here : s.row x with
  | none => exact here
  | some r =>
    simp only [Option.map_some]
    split
    · refine (State.row_modRow s x x (f := fun r => { r with state := .closed }) fun _ => rfl).trans ?_
      rw [here, Option.map_some, if_pos rfl]
    · exact here

/-- The number of OPEN rows, which a row that closes takes down. -/
def State.openRows (s : State) : Nat := s.rows.countP fun r => r.state == .opened

/-- A closing check does nothing, or posts ROW and closes a row that was OPEN. -/
theorem State.closingCheck_closed (s : State) (x : Byte) :
    s.closingCheck x = s ∨ ((s.closingCheck x).Posted .row ∧ (s.closingCheck x).openRows < s.openRows) := by
  rcases s.closingCheck_cases x with ⟨r, here, opened, _, _, _, closed⟩ | same
  · refine .inr ?_
    rw [closed]
    refine ⟨fun p => ?_, ?_⟩
    · rw [State.port_post, PortState.record_pending]
      exact (mem_insertPair _ _ _).2 (.inl rfl)
    · show (s.rows.map fun r => if r.id = x then { r with state := .closed } else r).countP _ < _
      rw [List.countP_map]
      have fewer : ∀ l : List RowRecord, l.countP ((fun r => r.state == .opened) ∘
          fun r => if r.id = x then { r with state := .closed } else r) ≤ l.countP fun r => r.state == .opened :=
        fun l => List.countP_mono_left fun y _ k => by
          rw [Function.comp_apply] at k
          split at k
          · exact absurd k nofun
          · exact k
      obtain ⟨before, after, split⟩ := List.append_of_mem (List.mem_of_find?_eq_some here)
      have shut : ((fun r : RowRecord => r.state == .opened) ∘
          fun r => if r.id = x then { r with state := .closed } else r) r = false := by
        rw [Function.comp_apply, if_pos (State.row_id here)]
        rfl
      have open_before : (r.state == RowState.opened) = true := by rw [opened]; rfl
      have h1 := fewer before
      have h2 := fewer after
      rw [State.openRows, split, List.countP_append, List.countP_append, List.countP_cons_of_neg (by rw [shut]; nofun),
        List.countP_cons_of_pos (by exact open_before)]
      omega
  · exact .inl same

theorem State.checked_congr {s t : State} (slots : t.slots = s.slots) (backlog : t.backlog = s.backlog) :
    t.checked = s.checked := by
  funext x r
  have entries : t.entry = s.entry := by
    unfold State.entry
    rw [slots]
  unfold State.checked State.rowSettled State.slotsOfRow State.backlogHas
  rw [entries, backlog]

theorem State.closingCheck_ids (s : State) (x : Byte) :
    (s.closingCheck x).rows.map RowRecord.id = s.rows.map RowRecord.id := by
  rcases s.closingCheck_cases x with ⟨_, _, _, _, _, _, closed⟩ | same
  · rw [closed]
    exact State.modRow_ids s x (f := fun r => { r with state := .closed }) fun _ => rfl
  · rw [same]

/-- Closing checks in turn: the slots and the backlog stay, the checked rows are closed where they may be, and ROW is
posted where one is. -/
theorem State.closingChecks_spec (l : List Byte) (s : State) : ∃ t, l.foldl State.closingCheck s = t ∧
    t = { s with rows := t.rows, ports := t.ports } ∧ t.rows.map RowRecord.id = s.rows.map RowRecord.id ∧
    (∀ x, t.row x = if x ∈ l then (s.row x).map (s.checked x) else s.row x) ∧
    (t = s ∨ (t.Posted .row ∧ t.openRows < s.openRows)) ∧ s.PortsMove ⟨[.row], false, false⟩ t := by
  induction l generalizing s with
  | nil => exact ⟨s, rfl, rfl, rfl, fun x => by rw [if_neg List.not_mem_nil], .inl rfl, .refl _ s⟩
  | cons y rest ih =>
    obtain ⟨t, eq, frame, ids, rows, posted, moves⟩ := ih (s.closingCheck y)
    have first := State.closingCheck_frame s y
    have same : (s.closingCheck y).checked = s.checked :=
      State.checked_congr (by rw [first]) (by rw [first])
    refine ⟨t, eq, ?_, ids.trans (s.closingCheck_ids y), fun x => ?_, ?_, (s.closingCheck_move y).trans moves⟩
    · refine frame.trans ?_
      rw [first]
    · rw [rows, same]
      by_cases own : x = y
      · subst own
        rw [State.row_closingCheck, if_pos List.mem_cons_self, Option.map_map]
        have twice : s.checked x ∘ s.checked x = s.checked x := funext (s.checked_checked x)
        rw [twice, ite_self]
      · rw [State.row_closingCheck_other s own]
        simp only [List.mem_cons, own, false_or]
    · rcases posted with still | ⟨there, fewer⟩
      · rw [still]
        exact s.closingCheck_closed y
      · refine .inr ⟨there, ?_⟩
        rcases s.closingCheck_closed y with none | ⟨_, less⟩
        · rw [none] at fewer
          exact fewer
        · exact fewer.trans less

/-! ### One entry -/

section
variable {s : State} {i : Slot} {e : Entry} {v : Validity}

theorem State.setValidityAt_none (h : s.entry i = none) : s.setValidityAt i v = refuse s .state := by
  unfold State.setValidityAt
  rw [h]

theorem State.setValidityAt_frozen (h : s.entry i = some e) (frozen : s.rowIs e.row .frozen = true) :
    s.setValidityAt i v = refuse s .isProtected := by
  unfold State.setValidityAt
  rw [h]
  exact if_pos frozen

theorem State.mayRevalidate_iff : s.mayRevalidate e = true ↔ e.holeState = .planned ∧ s.rowIs e.row .opened = true := by
  simp only [State.mayRevalidate, Bool.and_eq_true, beq_iff_eq]

theorem State.setValidityAt_refused (h : s.entry i = some e) (thawed : s.rowIs e.row .frozen = false)
    (other : e.holeState ≠ .planned ∨ s.rowIs e.row .opened = false) : s.setValidityAt i v = refuse s .state := by
  unfold State.setValidityAt
  rw [h]
  refine (if_neg (Bool.eq_false_iff.1 thawed)).trans (if_neg fun k => ?_)
  obtain ⟨planned, opened⟩ := State.mayRevalidate_iff.1 k
  rcases other with h | h
  · exact h planned
  · exact Bool.eq_false_iff.1 h opened

theorem State.setValidityAt_taken (h : s.entry i = some e) (planned : e.holeState = .planned)
    (opened : s.rowIs e.row .opened = true) : s.setValidityAt i v =
      taken ((s.setEntry i (some { e with validity := v })).closingCheck e.row) .done := by
  unfold State.setValidityAt
  rw [h]
  exact (if_neg (Bool.eq_false_iff.1 (State.rowIs_eq_false_of_ne (y := .frozen) opened nofun))).trans
    (if_pos (State.mayRevalidate_iff.2 ⟨planned, opened⟩))

end

/-! ### The match set -/

/-- The eligible members of a list with their new validity. -/
def State.revalidated (s : State) (l : List Slot) (v : Validity) : State :=
  (s.revalidatable l).foldl (fun acc i => acc.modEntry i fun e => { e with validity := v }) s

theorem State.revalidated_frame (s : State) (l : List Slot) (v : Validity) :
    ∃ x, s.revalidated l v = { s with slots := x } :=
  State.foldl_modEntry_frame _ _ _

/-- An entry of the list is given the new validity where it is eligible. -/
theorem State.entry_revalidated (s : State) (l : List Slot) (v : Validity) (i : Slot) :
    (s.revalidated l v).entry i = (s.entry i).map fun e =>
      if i ∈ l ∧ e.holeState = .planned ∧ s.rowIs e.row .opened = true then { e with validity := v } else e := by
  unfold State.revalidated
  rw [State.entry_foldl_modEntry (f := fun e => { e with validity := v }) fun _ => rfl]
  cases here : s.entry i with
  | none => simp
  | some e =>
    have eligible : i ∈ s.revalidatable l ↔ i ∈ l ∧ e.holeState = .planned ∧ s.rowIs e.row .opened = true := by
      rw [State.mem_revalidatable, here]
      simp [State.mayRevalidate_iff]
    by_cases k : i ∈ s.revalidatable l
    · rw [if_pos k, Option.map_some, Option.map_some, if_pos (eligible.1 k)]
    · rw [if_neg k, Option.map_some, if_neg (mt eligible.2 k)]

/-- The rows of the eligible members, in the order of their closing checks. -/
def State.revalidatedRows (s : State) (l : List Slot) : List Byte :=
  (s.revalidatable l).filterMap fun i => (s.entry i).map Entry.row

theorem State.mem_revalidatedRows {s : State} {l : List Slot} {x : Byte} : x ∈ s.revalidatedRows l ↔
    ∃ i ∈ l, ∃ e ∈ s.entry i, e.row = x ∧ e.holeState = .planned ∧ s.rowIs x .opened = true := by
  unfold State.revalidatedRows
  rw [List.mem_filterMap]
  constructor
  · rintro ⟨i, mem, row⟩
    obtain ⟨e, he, rfl⟩ := Option.map_eq_some_iff.1 row
    obtain ⟨hi, f, hf, may⟩ := State.mem_revalidatable.1 mem
    obtain rfl := Option.some.inj (he.symm.trans hf)
    exact ⟨i, hi, e, he, rfl, State.mayRevalidate_iff.1 may⟩
  · rintro ⟨i, hi, e, he, rfl, may⟩
    exact ⟨i, State.mem_revalidatable.2 ⟨hi, e, he, State.mayRevalidate_iff.2 may⟩,
      Option.map_eq_some_iff.2 ⟨e, he, rfl⟩⟩

theorem State.closeRowOf_none {s : State} {i : Slot} (h : s.entry i = none) : s.closeRowOf i = s := by
  unfold State.closeRowOf
  rw [h]

theorem State.closeRowOf_some {s : State} {i : Slot} {e : Entry} (h : s.entry i = some e) :
    s.closeRowOf i = s.closingCheck e.row := by
  unfold State.closeRowOf
  rw [h]

/-- Closing the rows of entries, in slots that keep their rows, is closing those rows. -/
theorem State.foldl_closeRowOf (l : List Slot) {g : Slot → Option Byte} {s : State}
    (h : ∀ i, (s.entry i).map Entry.row = g i) :
    l.foldl State.closeRowOf s = (l.filterMap g).foldl State.closingCheck s := by
  induction l generalizing s with
  | nil => rfl
  | cons i rest ih =>
    rw [List.foldl_cons]
    have here := h i
    cases he : s.entry i with
    | none =>
      rw [he] at here
      rw [State.closeRowOf_none he, ih h, List.filterMap_cons_none here.symm]
    | some e =>
      rw [he] at here
      rw [State.closeRowOf_some he, List.filterMap_cons_some here.symm, List.foldl_cons]
      refine ih fun j => ?_
      rw [← h j, State.closingCheck_frame]
      rfl

/-- What SET VALIDITY at a match set with an eligible member comes to. -/
theorem State.setValidityAll_taken {s : State} {l : List Slot} (v : Validity)
    (h : ∃ i ∈ l, ∃ e, s.entry i = some e ∧ e.holeState = .planned ∧ s.rowIs e.row .opened = true) :
    s.setValidityAll l v = taken ((s.revalidatedRows l).foldl State.closingCheck (s.revalidated l v)) .done := by
  obtain ⟨i, hi, e, he, may⟩ := h
  have some_member : (s.revalidatable l).isEmpty = false := List.isEmpty_eq_false_iff_exists_mem.2
    ⟨i, State.mem_revalidatable.2 ⟨hi, e, he, State.mayRevalidate_iff.2 may⟩⟩
  have rows : ∀ i, ((s.revalidated l v).entry i).map Entry.row = (s.entry i).map Entry.row := fun i => by
    rw [State.entry_revalidated, Option.map_map]
    congr 1
    funext e
    rw [Function.comp_apply]
    split <;> rfl
  unfold State.setValidityAll
  refine (if_neg (Bool.eq_false_iff.1 some_member)).trans ?_
  exact congrArg (taken · .done) (State.foldl_closeRowOf (s.revalidatable l) rows)

theorem State.setValidityAll_refused {s : State} {l : List Slot} (v : Validity)
    (h : ∀ i ∈ l, ∀ e, s.entry i = some e → e.holeState ≠ .planned ∨ s.rowIs e.row .opened = false) :
    s.setValidityAll l v = refuse s .state := by
  refine if_pos (List.isEmpty_iff.2 (List.eq_nil_iff_forall_not_mem.2 fun i mem => ?_))
  obtain ⟨hi, e, he, may⟩ := State.mem_revalidatable.1 mem
  obtain ⟨planned, opened⟩ := State.mayRevalidate_iff.1 may
  rcases h i hi e he with k | k
  · exact k planned
  · exact Bool.eq_false_iff.1 k opened

/-! ### The command -/

/-- A validity set at what a target names (R19). -/
def State.setValidityTo (s : State) (target : Byte) (v : Validity) : Taken :=
  match targetOf target with
  | .matchSet => s.setValidityAll (s.port .C).context.members v
  | .slot i => s.setValidityAt i v
  | .best =>
    match (s.port .C).context.best with
    | some i => s.setValidityAt i v
    | none => refuse s .noMatch
  | .nothing => refuse s .state

/-- What SET VALIDITY comes to on a state whose frame has ended. -/
theorem exec_setValidity (target validity : Byte) (s : State) : exec (.setValidity .C target validity) s =
    .next (s.command .C .setValidity fun s =>
      match validityOf validity with
      | none => refuse s .state
      | some v => s.setValidityTo target v) := rfl

theorem exec_setValidity_byte (target : Byte) (v : Validity) (s : State) :
    exec (.setValidity .C target v.byte) s = .next (s.command .C .setValidity fun s => s.setValidityTo target v) := by
  rw [exec_setValidity, validityOf_byte]

/-- A target that names one slot, itself or as the best match. -/
theorem State.setValidityTo_slot {target : Byte} {s : State} {i : Slot} (v : Validity)
    (h : target.toNat = i.val ∨ (target = 0xFF ∧ (s.port .C).context.best = some i)) :
    s.setValidityTo target v = s.setValidityAt i v := by
  unfold State.setValidityTo
  rcases h with named | ⟨rfl, best⟩
  · rw [targetOf_slot named]
  · rw [show targetOf 0xFF = .best from rfl, best]

/-- The part after a SET VALIDITY at the match set: the eligible members changed, and then their rows checked. -/
def State.matchSetChanged (s : State) (v : Validity) : State :=
  (s.revalidatedRows (s.port .C).context.members).foldl State.closingCheck
    (s.revalidated (s.port .C).context.members v)

/-- What a SET VALIDITY at the match set leaves. -/
theorem State.matchSetChanged_spec (s : State) (v : Validity) : ∃ t : State, s.matchSetChanged v = t ∧
    (∀ i, t.entry i = (s.entry i).map fun e =>
      if i ∈ (s.port .C).context.members ∧ e.holeState = .planned ∧ s.rowIs e.row .opened = true then
        { e with validity := v } else e) ∧
    t.rows.map RowRecord.id = s.rows.map RowRecord.id ∧
    (∀ x, t.row x =
      if ∃ i ∈ (s.port .C).context.members, ∃ e ∈ s.entry i, e.row = x ∧ e.holeState = .planned ∧
          s.rowIs x .opened = true then
        (({ s with slots := t.slots } : State).closingCheck x).row x
      else s.row x) ∧
    ((∃ x, t.row x ≠ s.row x) → t.Posted .row) ∧ (t.rows = s.rows → t.ports = s.ports) ∧
    s.PortsKept t none ∧ s.NoticesWithin t [.row] ∧ t = { s with slots := t.slots, rows := t.rows, ports := t.ports } := by
  obtain ⟨slots, changed⟩ := s.revalidated_frame (s.port .C).context.members v
  have entries := s.entry_revalidated (s.port .C).context.members v
  obtain ⟨t, eq, frame, ids, rows, posted, moves⟩ := State.closingChecks_spec
    (s.revalidatedRows (s.port .C).context.members) (s.revalidated (s.port .C).context.members v)
  have own : s.PortsMove ⟨[.row], false, false⟩ t :=
    .trans (.of_ports (t := s.revalidated (s.port .C).context.members v) (by rw [changed]) (by rw [changed])) moves
  have same_slots : t.slots = (s.revalidated (s.port .C).context.members v).slots := by rw [frame]
  have same_rows : (s.revalidated (s.port .C).context.members v).rows = s.rows := by rw [changed]
  refine ⟨t, eq, fun i => ?_, ?_, fun x => ?_, fun ⟨x, moved⟩ => ?_, fun still => ?_, own.kept rfl rfl, own.within, ?_⟩
  · rw [← entries, State.entry, same_slots]
    rfl
  · rw [ids, same_rows]
  · have at_slots : ({ s with slots := t.slots } : State) = s.revalidated (s.port .C).context.members v := by
      rw [same_slots, changed]
    rw [rows, at_slots, State.row_closingCheck, State.row_congr same_rows]
    exact if_congr State.mem_revalidatedRows rfl rfl
  · rcases posted with none | ⟨there, _⟩
    · exact absurd (State.row_congr (by rw [none, same_rows]) x) moved
    · exact there
  · rcases posted with none | ⟨_, fewer⟩
    · rw [none, changed]
    · exact absurd fewer (by rw [State.openRows, State.openRows, still, same_rows]; exact lt_irrefl _)
  · refine frame.trans ?_
    rw [same_slots, changed]

theorem State.revalidated_setFrame (s : State) (p : Port) (f : Frame) (l : List Slot) (v : Validity) :
    (s.setFrame p f).revalidated l v = (s.revalidated l v).setFrame p f :=
  State.foldl_modEntry_setFrame (s.revalidatable l) _ s p f

theorem State.matchSetChanged_setFrame (s : State) (v : Validity) :
    (s.setFrame .C .idle).matchSetChanged v = (s.matchSetChanged v).setFrame .C .idle := by
  have port : ((s.setFrame .C .idle).port .C).context = (s.port .C).context := by
    rw [State.port_setFrame_same]
  unfold State.matchSetChanged
  rw [port]
  rw [← State.foldl_setFrame_idle (fun s x => s.closingCheck_setFrame_idle .C x), ← State.revalidated_setFrame]
  rfl

/-- Settles O30: each target's run by its case, and `State.matchSetChanged_spec` for the match set. -/
theorem validitySet : Obligations.ValiditySet := by
  intro target x v s takes
  unfold Answers
  have context : ((s.setFrame .C .idle).port .C).context = (s.port .C).context := by
    rw [State.port_setFrame_same]
  refine ⟨fun bad => ?_, fun none => ?_, fun above best set => ?_, fun i named => ?_, fun ineligible => ?_,
    fun eligible => ?_⟩
  · rw [exec_setValidity]
    refine State.command_refused takes ?_
    rw [validityOf_eq_none bad]
  · rw [exec_setValidity_byte]
    refine State.command_refused takes ?_
    unfold State.setValidityTo
    rw [show targetOf 0xFF = .best from rfl, context, none]
  · rw [exec_setValidity_byte]
    refine State.command_refused takes ?_
    unfold State.setValidityTo
    rw [targetOf_nothing above best set]
  · have run : (s.setFrame .C .idle).setValidityTo target v = (s.setFrame .C .idle).setValidityAt i v :=
      State.setValidityTo_slot v (context.symm ▸ named)
    rw [exec_setValidity_byte]
    refine ⟨fun empty => ?_, fun e he => ⟨fun frozen => ?_, fun thawed other => ?_, fun planned opened => ?_⟩⟩
    · exact State.command_refused takes (run.trans (State.setValidityAt_none empty))
    · exact State.command_refused takes (run.trans (State.setValidityAt_frozen he frozen))
    · exact State.command_refused takes (run.trans (State.setValidityAt_refused he thawed other))
    · refine congrArg _ (State.command_answered takes _ (run.trans ?_))
      rw [State.setValidityAt_taken (s := s.setFrame .C .idle) he planned opened, State.setEntry_setFrame,
        State.closingCheck_setFrame_idle]
      rfl
  · rw [exec_setValidity_byte]
    refine State.command_refused takes ?_
    unfold State.setValidityTo
    rw [show targetOf 0xFE = .matchSet from rfl, context]
    exact State.setValidityAll_refused v ineligible
  · obtain ⟨t, changed, spec⟩ := s.matchSetChanged_spec v
    refine ⟨t, ?_, spec⟩
    rw [exec_setValidity_byte]
    refine congrArg _ (State.command_answered takes _ ?_)
    unfold State.setValidityTo
    rw [show targetOf 0xFE = .matchSet from rfl, ← changed, ← State.matchSetChanged_setFrame]
    refine (State.setValidityAll_taken (s := s.setFrame .C .idle) v (by rw [context]; exact eligible)).trans rfl

end Sys2Proof.Machine

/-! ### The cartridge count, the parameter sets and the machine settings -/

namespace Sys2Proof.Machine

open Sys2Proof Sys2Proof.Machine

/-! ### The cartridge count -/

/-- The number of columns that hold a length, rounded up. -/
theorem divUp_le_iff {length column n : Nat} (h : 0 < column) :
    (length + (column - 1)) / column ≤ n ↔ length ≤ n * column := by
  rw [← Nat.lt_succ_iff, Nat.div_lt_iff_lt_mul h, Nat.succ_mul]
  omega

/-- Settles O36: the count is the number of columns rounded up, and at least 1. -/
theorem cartridgesCounted : Obligations.CartridgesCounted := by
  intro p r extra n column unreliable reliable
  have allowance : lossAllowance r = extra := by
    unfold lossAllowance
    cases marked : r.unreliable with
    | true => exact (unreliable marked).symm
    | false =>
      rw [reliable marked, List.countP_eq_length_filter, List.countP_eq_length_filter]
      rfl
  have held := divUp_le_iff (length := (r.profiledDepth - p.freeLength) * (8 + extra)) (n := n)
    (Nat.mul_pos (n := 8) (by decide) column)
  unfold cartridgeCount
  simp only [allowance]
  split
  · rename_i none_needed
    rw [none_needed] at held
    exact ⟨fun one => ⟨one, held.1 (Nat.zero_le n)⟩, And.left⟩
  · rename_i some_needed
    exact ⟨fun le => ⟨le_trans (Nat.pos_of_ne_zero some_needed) le, held.1 le⟩, fun ⟨_, le⟩ => held.2 le⟩

/-! ### WRITE PARAMETERS -/

theorem clampTo_eq_max_min {lo hi : Nat} (h : lo ≤ hi) (x : Nat) : clampTo lo hi x = max lo (min hi x) := by
  unfold clampTo
  split
  · omega
  · split <;> omega

theorem clampTo_zero (hi x : Nat) : clampTo 0 hi x = min hi x :=
  (clampTo_eq_max_min (Nat.zero_le hi) x).trans (Nat.max_eq_right (Nat.zero_le _))

theorem clampValues_eq (u : ParamValues) (m : VoidMode) : clampValues u m =
    ⟨min 7 u.productShift.toNat, u.tVoid.toNat, u.tMedium.toNat, u.tHard.toNat, m, min 500 u.voidLimit.toNat,
      max 300 (min 1200 u.zone.toNat), min 1200 u.competent.toNat, min 2 u.maxExtensions.toNat,
      min 200 u.collarAllowance.toNat / 10 * 10, min 600 u.freeLength.toNat,
      max 200 (min 1200 u.cartridgeColumn.toNat), max 1 (min 6 u.maxCartridges.toNat),
      max 5 (min 60 u.spinRevs.toNat), max 2000 (min 30000 u.spinMax.toNat), min 60000 u.setTime.toNat,
      max 20 (min 400 u.seatTorque.toNat), max 50 (min 600 u.targetTorque.toNat),
      max 60 (min 800 u.maxTorque.toNat), max 900 (min 14400 u.maxTurn.toNat),
      max 2000 (min 60000 u.torqueStage.toNat), min 255 u.incompleteLimit.toNat,
      max 500 (min 30000 u.laneAbandon.toNat)⟩ := by
  simp only [clampValues, clampAllowance, clampTo_zero, ParamSet.mk.injEq, true_and]
  refine ⟨?_, ?_, ?_, ?_, ?_, ?_, ?_, ?_, ?_, ?_, ?_⟩ <;> exact clampTo_eq_max_min (by decide) _

theorem voidModeOf_word (m : VoidMode) : voidModeOf m.word = some m := by cases m <;> rfl

theorem voidModeOf_eq_none {x : Word16} (h : 1 < x.toNat) : voidModeOf x = none := by
  unfold voidModeOf
  rw [if_neg, if_neg] <;> rintro rfl <;> exact absurd h (by decide)

theorem setNoOf_byte (n : SetNo) : setNoOf n.byte = some n := by cases n <;> rfl

theorem setNoOf_eq_none {x : Byte} (h : 1 < x.toNat) : setNoOf x = none := by
  unfold setNoOf
  rw [if_neg, if_neg] <;> rintro rfl <;> exact absurd h (by decide)

theorem boomOf_eq_none {x : Byte} (h : 1 < x.toNat) : boomOf x = none := by
  unfold boomOf
  rw [if_neg, if_neg] <;> rintro rfl <;> exact absurd h (by decide)

theorem State.setInUse_iff (s : State) (n : SetNo) :
    s.setInUse n = true ↔ ∃ b, (s.unit b).cycle ≠ .idle ∧ (s.unit b).activeSet = n := by
  simp only [State.setInUse, Bool.or_eq_true, Bool.and_eq_true, bne_iff_ne, beq_iff_eq]
  constructor
  · rintro (h | h)
    · exact ⟨.A, h⟩
    · exact ⟨.B, h⟩
  · rintro ⟨b | b, h⟩
    · exact .inl h
    · exact .inr h

theorem State.setInUse_eq_false {s : State} {n : SetNo}
    (h : ∀ b, (s.unit b).cycle = .idle ∨ (s.unit b).activeSet ≠ n) : s.setInUse n = false :=
  Bool.eq_false_iff.2 fun k => by
    obtain ⟨b, busy, own⟩ := (s.setInUse_iff n).1 k
    rcases h b with idle | other
    · exact busy idle
    · exact other own

/-- Clamped figures are a sound set exactly where they keep the orderings. -/
theorem clampValues_ordered_iff (v : ParamValues) (m : VoidMode) :
    (clampValues v m).ordered = true ↔ (clampValues v m).Sound :=
  ⟨clampValues_sound, fun h => (ParamSet.ordered_iff _).2
    ⟨⟨h.thresholds.1, h.thresholds.2.1⟩, h.torqueOrder, h.competent⟩⟩

theorem valuesClamped_iff (v : ParamValues) (m : VoidMode) :
    valuesClamped v m = true ↔ ¬ clampValues v m = rawValues v m := bne_iff_ne

/-- The code of a write: CLAMPED where a figure was changed. -/
theorem doneOr_not {x : Bool} {p : Prop} [Decidable p] (h : x = true ↔ ¬ p) :
    doneOr x = if p then .done else .clamped := by
  unfold doneOr
  by_cases k : p
  · rw [if_pos k, if_neg fun b => h.1 b k]
  · rw [if_neg k, if_pos (h.2 k)]

/-- What WRITE PARAMETERS comes to on a state whose frame has ended. -/
theorem exec_writeParameters (set : Byte) (paired : Bool) (v w : ParamValues) (s : State) :
    exec (.writeParameters .C set paired v w) s = .next (s.command .C .writeParameters fun s =>
      if paired then s.writeBoth v w
      else
        match setNoOf set with
        | none => refuse s .state
        | some n => s.writeSet n v) := rfl

theorem State.writeSet_inUse {s : State} {n : SetNo} (v : ParamValues) (h : s.setInUse n = true) :
    s.writeSet n v = refuse s .inUse := if_pos h

theorem State.writeSet_free {s : State} {n : SetNo} (v : ParamValues) (h : s.setInUse n = false) : s.writeSet n v =
    match voidModeOf v.voidMode with
    | none => refuse s .state
    | some m =>
      if (clampValues v m).ordered then
        taken (s.setParams (s.params.put n (clampValues v m))) (doneOr (valuesClamped v m))
      else refuse s .state := if_neg (Bool.eq_false_iff.1 h)

theorem State.writeBoth_inUse {s : State} (v w : ParamValues) (h : ∃ b, (s.unit b).cycle ≠ .idle) :
    s.writeBoth v w = refuse s .inUse := by
  obtain ⟨b, busy⟩ := h
  refine if_pos ((Bool.or_eq_true _ _).mpr ?_)
  cases own : (s.unit b).activeSet with
  | set0 => exact .inl ((s.setInUse_iff .set0).2 ⟨b, busy, own⟩)
  | set1 => exact .inr ((s.setInUse_iff .set1).2 ⟨b, busy, own⟩)

theorem State.writeBoth_free {s : State} (v w : ParamValues) (h : ∀ b, (s.unit b).cycle = .idle) : s.writeBoth v w =
    match voidModeOf v.voidMode, voidModeOf w.voidMode with
    | some m, some k =>
      if (clampValues v m).ordered && (clampValues w k).ordered then
        taken (s.setParams { s.params with set0 := clampValues v m, set1 := clampValues w k })
          (doneOr (valuesClamped v m || valuesClamped w k))
      else refuse s .state
    | _, _ => refuse s .state := by
  refine if_neg ?_
  rw [State.setInUse_eq_false fun b => .inl (h b), State.setInUse_eq_false fun b => .inl (h b)]
  nofun

/-- Settles O41: one set and both, through the checks of R160 and R162. -/
theorem parametersWritten : Obligations.ParametersWritten := by
  intro set v w s takes
  unfold Answers
  simp only [exec_writeParameters]
  refine ⟨clampValues_eq, fun large => ?_, fun n => ⟨fun used => ?_, fun free => ⟨fun mode => ?_, fun m word => ?_⟩⟩,
    fun busy => ?_, fun idle => ⟨fun mode => ?_, fun m k wordV wordW => ?_⟩⟩
  · refine State.command_refused takes ?_
    rw [setNoOf_eq_none large]
    rfl
  · refine State.command_refused takes ?_
    rw [setNoOf_byte]
    exact State.writeSet_inUse v ((s.setInUse_iff n).2 used)
  · refine State.command_refused takes ?_
    rw [setNoOf_byte]
    refine (State.writeSet_free (s := s.setFrame .C .idle) v (State.setInUse_eq_false free)).trans ?_
    rw [voidModeOf_eq_none mode]
  · have written : (s.setFrame .C .idle).writeSet n v = if (clampValues v m).ordered then
        taken ((s.setFrame .C .idle).setParams (s.params.put n (clampValues v m))) (doneOr (valuesClamped v m))
        else refuse (s.setFrame .C .idle) .state := by
      refine (State.writeSet_free (s := s.setFrame .C .idle) v (State.setInUse_eq_false free)).trans ?_
      rw [← word, voidModeOf_word]
      rfl
    refine ⟨fun unsound => ?_, fun sound => ?_⟩
    · refine State.command_refused takes ?_
      rw [setNoOf_byte]
      exact written.trans (if_neg (mt (clampValues_ordered_iff v m).1 unsound))
    · refine congrArg _ (State.command_answered (t := s.setParams (s.params.put n (clampValues v m))) takes _ ?_)
      rw [setNoOf_byte, ← doneOr_not (valuesClamped_iff v m)]
      exact written.trans (if_pos ((clampValues_ordered_iff v m).2 sound))
  · exact State.command_refused takes (State.writeBoth_inUse v w busy)
  · refine State.command_refused takes ((State.writeBoth_free (s := s.setFrame .C .idle) v w idle).trans ?_)
    rcases mode with h | h
    · rw [voidModeOf_eq_none h]
    · rw [voidModeOf_eq_none h]
      cases voidModeOf v.voidMode <;> rfl
  · have written : (s.setFrame .C .idle).writeBoth v w =
        if (clampValues v m).ordered && (clampValues w k).ordered then
          taken ((s.setFrame .C .idle).setParams
              { s.params with set0 := clampValues v m, set1 := clampValues w k })
            (doneOr (valuesClamped v m || valuesClamped w k))
        else refuse (s.setFrame .C .idle) .state := by
      refine (State.writeBoth_free (s := s.setFrame .C .idle) v w idle).trans ?_
      rw [← wordV, ← wordW, voidModeOf_word, voidModeOf_word]
      rfl
    refine ⟨fun unsound => ?_, fun soundV soundW => ?_⟩
    · refine State.command_refused takes (written.trans (if_neg fun both => ?_))
      rw [Bool.and_eq_true, clampValues_ordered_iff, clampValues_ordered_iff] at both
      rcases unsound with h | h
      · exact h both.1
      · exact h both.2
    · have code : (valuesClamped v m || valuesClamped w k) = true ↔
          ¬ (clampValues v m = rawValues v m ∧ clampValues w k = rawValues w k) := by
        rw [Bool.or_eq_true, valuesClamped_iff, valuesClamped_iff, ← not_and_or]
      refine congrArg _ (State.command_answered
        (t := s.setParams { s.params with set0 := clampValues v m, set1 := clampValues w k }) takes _ ?_)
      rw [← doneOr_not code]
      refine written.trans (if_pos ?_)
      rw [Bool.and_eq_true, clampValues_ordered_iff, clampValues_ordered_iff]
      exact ⟨soundV, soundW⟩

/-! ### SELECT SET and WRITE MACHINE SETTINGS -/

/-- What SELECT SET comes to on a state whose frame has ended. -/
theorem exec_selectSet (boom set : Byte) (s : State) :
    exec (.selectSet .C boom set) s = .next (s.command .C .selectSet fun s =>
      match setNoOf set with
      | none => refuse s .state
      | some n =>
        if boom = pairedBoom then
          taken ((s.modUnit .A (BoomUnit.select n)).modUnit .B (BoomUnit.select n)) .done
        else
          match boomOf boom with
          | some b => taken (s.modUnit b (BoomUnit.select n)) .done
          | none => refuse s .state) := rfl

/-- What WRITE MACHINE SETTINGS comes to on a state whose frame has ended. -/
theorem exec_writeMachineSettings (x y z : Word16) (s : State) :
    exec (.writeMachineSettings .C x y z) s = .next (s.command .C .writeMachineSettings fun s =>
      if (s.unit .A).cycle ≠ .idle ∨ (s.unit .B).cycle ≠ .idle then refuse s .inUse
      else
        taken (s.announcing fun s => s.setParams { s.params with settings := clampSettings x y z })
          (doneOr (clampSettings x y z != ⟨x.toNat, y.toNat, z.toNat⟩))) := rfl

theorem clampSettings_eq (x y z : Word16) :
    clampSettings x y z = ⟨min 3000 x.toNat, max 100 (min 1000 y.toNat), min 40 z.toNat⟩ := by
  unfold clampSettings
  rw [clampTo_zero, clampTo_zero, clampTo_eq_max_min (by decide)]

theorem clampSettings_changed_iff (x y z : Word16) : (clampSettings x y z != ⟨x.toNat, y.toNat, z.toNat⟩) = true ↔
    ¬ (x.toNat ≤ 3000 ∧ 100 ≤ y.toNat ∧ y.toNat ≤ 1000 ∧ z.toNat ≤ 40) := by
  rw [bne_iff_ne, ne_eq, clampSettings_eq, Settings.mk.injEq]
  omega

theorem State.offerChange_self (s : State) (n : NoticePair) (x : Bool) : s.offerChange n x x = s := if_pos rfl

/-- Without a change there is nothing to offer. -/
theorem State.offersSince_same {s u : State} (permit : ∀ b, u.feedLine b = s.feedLine b)
    (lane : ∀ b, u.laneInStep b = s.laneInStep b) (loader : u.loaderStatus = s.loaderStatus)
    (low : u.magazineLow = s.magazineLow) : s.offersSince u = s := by
  rw [State.offersSince_eq, permit, permit, lane, lane, loader, low]
  simp only [State.offerChange_self]

/-- A status that rose is pending at every port. -/
theorem State.Announces.posted {s t : State} (h : s.Announces t) {n : NoticePair} (before : s.status n = some false)
    (after : t.status n = some true) : t.Posted n := fun p => (h n false true before after p).1 rfl rfl

/-- The settings replaced, with the offer of MAGAZINE_LOW (R131, R164). -/
def State.settingsWritten (s : State) (x : Settings) : State :=
  s.announcing fun s => s.setParams { s.params with settings := x }

theorem State.settingsWritten_frame (s : State) (x : Settings) :
    s.settingsWritten x = { s with params := { s.params with settings := x }, ports := (s.settingsWritten x).ports } := by
  obtain ⟨q, h⟩ := s.announcing_frame fun s => s.setParams { s.params with settings := x }
  unfold State.settingsWritten
  rw [h]
  rfl

theorem State.settingsWritten_move (s : State) (x : Settings) :
    s.PortsMove ⟨[.magazineLow], false, false⟩ (s.settingsWritten x) :=
  (PortsMove.of_ports (t := s.setParams { s.params with settings := x }) rfl rfl).trans
    (.offersSince (fun _ h => absurd rfl h) (fun _ h => absurd rfl h) (fun h => absurd rfl h)
      fun _ => List.mem_singleton.2 rfl)

theorem State.settingsWritten_announces (s : State) (x : Settings) : s.Announces (s.settingsWritten x) :=
  State.offersSince_announces (fun _ => rfl) fun _ => .same _ _ _

theorem boomCode_ne_pairedBoom (b : Boom) : boomCode b ≠ pairedBoom := by cases b <;> decide

/-- Settles O42: the selection of one boom or both, and the settings with the offer of MAGAZINE_LOW. -/
theorem selectionsAndSettingsTaken : Obligations.SelectionsAndSettingsTaken := by
  intro boom set x y z s takes
  unfold Answers
  simp only [exec_selectSet, exec_writeMachineSettings]
  refine ⟨fun bad => ?_, fun n => ⟨fun b => ?_, ?_⟩, fun ⟨b, busy⟩ => ?_, fun idle => ?_⟩
  · refine State.command_refused takes ?_
    by_cases large : 1 < set.toNat
    · rw [setNoOf_eq_none large]
    · have none_named : 2 < boom.toNat := bad.resolve_right large
      cases setNoOf set with
      | none => rfl
      | some n =>
        refine (if_neg fun paired => ?_).trans ?_
        · rw [paired] at none_named
          exact absurd none_named (by decide)
        · rw [boomOf_eq_none (by omega)]
  · refine congrArg _ (State.command_answered takes _ ?_)
    rw [setNoOf_byte, boomOf_boomCode]
    exact if_neg (boomCode_ne_pairedBoom b)
  · refine congrArg _ (State.command_answered takes _ ?_)
    rw [setNoOf_byte]
    exact if_pos rfl
  · refine State.command_refused takes (if_pos ?_)
    cases b with
    | A => exact .inl busy
    | B => exact .inr busy
  · have code := doneOr_not (clampSettings_changed_iff x y z)
    have frame := s.settingsWritten_frame (clampSettings x y z)
    have move := s.settingsWritten_move (clampSettings x y z)
    have settings : (s.settingsWritten (clampSettings x y z)).params.settings =
        ⟨min 3000 x.toNat, max 100 (min 1000 y.toNat), min 40 z.toNat⟩ := by rw [frame, clampSettings_eq]
    have low : (s.settingsWritten (clampSettings x y z)).magazineLow =
        decide (s.loader.magazine ≤ min 40 z.toNat) := by
      unfold State.magazineLow
      rw [settings, frame]
    refine ⟨s.settingsWritten (clampSettings x y z), congrArg _ (State.command_answered takes _ ?_), settings, ?_, ?_,
      fun before after => ?_, fun same => ?_, move.within, move.kept rfl rfl, ?_⟩
    · rw [code]
      refine (if_neg ?_).trans (congrArg (fun t => taken t _) (State.announcing_setFrame_idle rfl))
      rw [not_or, not_not, not_not]
      exact ⟨idle .A, idle .B⟩
    · rw [frame]
    · rw [frame]
    · refine (s.settingsWritten_announces _).posted (congrArg some before) (congrArg some (low.trans ?_))
      exact decide_eq_true after
    · have kept := State.offersSince_same (u := s)
        (s := s.setParams { s.params with settings := clampSettings x y z }) (fun _ => rfl) (fun _ => rfl) rfl (by
          rw [same, clampSettings_eq]
          rfl)
      exact (congrArg State.ports kept :)
    · rw [frame]

end Sys2Proof.Machine

/-! ### What the Hole Table does at a verdict -/

namespace Sys2Proof.Machine

open Sys2Proof Sys2Proof.Machine

/-! ### Before the supplement -/

/-- The entry with its verdict, and its row with the verdict counted (R5 steps 1 to 3). -/
def State.verdictCounted (s : State) (i : Slot) (e : Entry) (v : VerdictReason) : State :=
  (s.setEntry i (some (e.withVerdict v))).modRow e.row fun r => r.withVerdict v.final

/-- The verdict before its closing check. -/
def State.verdictWritten (s : State) (i : Slot) (e : Entry) (v : VerdictReason) : State :=
  if v.supplementDue then (s.verdictCounted i e v).handleSupplement i else s.verdictCounted i e v

section
variable {s : State} {i : Slot} {e : Entry} (v : VerdictReason)

theorem State.tableVerdict_eq (h : s.entry i = some e) :
    s.tableVerdict i v = (s.verdictWritten i e v).closingCheck e.row := by
  unfold State.tableVerdict
  rw [h]
  rfl

theorem State.entry_verdictCounted (s : State) (i : Slot) (e : Entry) (k : Slot) :
    (s.verdictCounted i e v).entry k = if k = i then some (e.withVerdict v) else s.entry k :=
  s.entry_setEntry i k (some (e.withVerdict v))

theorem State.row_verdictCounted (s : State) (i : Slot) (e : Entry) (y : Byte) : (s.verdictCounted i e v).row y =
    (s.row y).map fun r => if y = e.row then r.withVerdict v.final else r :=
  State.row_modRow (s.setEntry i (some (e.withVerdict v))) e.row y (f := fun r => r.withVerdict v.final) fun _ => rfl

/-- A verdict frees no slot and takes none. -/
theorem State.nextFree_verdictCounted (h : s.entry i = some e) : (s.verdictCounted i e v).nextFree = s.nextFree := by
  have same : (fun k => ((s.verdictCounted i e v).entry k).isNone) = fun k => (s.entry k).isNone := by
    funext k
    rw [State.entry_verdictCounted]
    split
    · rename_i own
      rw [own, h]
      rfl
    · rfl
  unfold State.nextFree
  rw [same]

end

/-! ### The supplement -/

/-- The four things that the supplement handling of a verdict can come to (R5, R20). -/
inductive State.SupplementCase (s : State) (i : Slot) (e : Entry) (v : VerdictReason) (w : State) : Prop where
  | notDue (due : v.supplementDue = false) (eq : w = s.verdictCounted i e v)
  | referred (due : v.supplementDue = true) (last : 2 ≤ e.generation)
      (eq : w = ((s.verdictCounted i e v).setEntry i (some (e.withVerdict v).markRefer)).post .table)
  | waits (due : v.supplementDue = true) (more : e.generation < 2) (full : s.nextFree = none)
      (room : s.backlog.length < 8) (eq : w = ((s.verdictCounted i e v).setBacklog (s.backlog ++ [i])).post .table)
  | lost (due : v.supplementDue = true) (more : e.generation < 2) (full : s.nextFree = none)
      (noRoom : 8 ≤ s.backlog.length)
      (eq : w = ((s.verdictCounted i e v).setEntry i (some (e.withVerdict v).markLost)).post .table)
  | supplemented (due : v.supplementDue = true) (more : e.generation < 2) (j : Slot) (free : s.nextFree = some j)
      (eq : w = (s.verdictCounted i e v).writeSlot j (e.supplement i s.params.settings.shift))

section
variable {s : State} {i : Slot} {e : Entry}

theorem State.supplementCase (h : s.entry i = some e) (v : VerdictReason) :
    s.SupplementCase i e v (s.verdictWritten i e v) := by
  have here : (s.verdictCounted i e v).entry i = some (e.withVerdict v) := by
    rw [State.entry_verdictCounted, if_pos rfl]
  have free := State.nextFree_verdictCounted v h
  unfold State.verdictWritten
  cases due : v.supplementDue with
  | false => exact .notDue due rfl
  | true =>
    simp only [if_true, State.handleSupplement, here]
    split
    · rename_i last
      exact .referred due last (by rw [State.modEntry_some here])
    · rename_i more
      have young : e.generation < 2 := Nat.lt_of_not_le more
      split
      · rename_i full
        have none_free : s.nextFree = none := free ▸ Option.isNone_iff_eq_none.1 full
        split
        · rename_i room
          exact .waits due young none_free room rfl
        · rename_i noRoom
          exact .lost due young none_free (Nat.le_of_not_lt noRoom) (by rw [State.modEntry_some here])
      · rename_i room
        obtain ⟨j, is_free⟩ := Option.ne_none_iff_exists'.1 (mt Option.isNone_iff_eq_none.2 room)
        refine .supplemented due young j (free ▸ is_free) ?_
        unfold State.writeSupplement
        rw [is_free, here]
        rfl

/-- What a verdict writes beside the closing check: the entry, the backlog and the supplement. -/
structure State.VerdictEntries (s : State) (i : Slot) (e : Entry) (v : VerdictReason) (w : State) : Prop where
  own : w.entry i = some { e with
    holeState := v.final
    claimant := none
    result := e.result.map fun r => { r with
      verdict := some v
      refer := r.refer || (v.supplementDue && decide (2 ≤ e.generation))
      supplementLost := r.supplementLost || (v.supplementDue && decide (e.generation < 2) && s.nextFree.isNone &&
        decide (8 ≤ s.backlog.length)) } }
  backlog : w.backlog = if v.supplementDue = true ∧ e.generation < 2 ∧ s.nextFree = none ∧ s.backlog.length < 8 then
    s.backlog ++ [i] else s.backlog
  supplement : ∀ j, v.supplementDue = true → e.generation < 2 → s.nextFree = some j →
    w.entry j = some (e.supplement i s.params.settings.shift) ∧ ∀ k, k ≠ i → k ≠ j → w.entry k = s.entry k
  others : v.supplementDue = false ∨ 2 ≤ e.generation ∨ s.nextFree = none → ∀ k, k ≠ i → w.entry k = s.entry k
  posted : v.supplementDue = true → 2 ≤ e.generation ∨ s.nextFree = none → w.Posted .table
  rows : ∀ y, w.row y = (s.row y).map fun r => if y = e.row then
    { r.withVerdict v.final with entries := r.entries +
      if v.supplementDue = true ∧ e.generation < 2 ∧ s.nextFree.isSome = true then 1 else 0 } else r

/-- An entry with its verdict, where the result part gets no further mark. -/
theorem Entry.withVerdict_unmarked {e : Entry} {v : VerdictReason} {refer lost : Bool} (hr : refer = false)
    (hl : lost = false) : some (e.withVerdict v) = some { e with
      holeState := v.final
      claimant := none
      result := e.result.map fun r => { r with
        verdict := some v, refer := r.refer || refer, supplementLost := r.supplementLost || lost } } := by
  simp only [hr, hl, Bool.or_false]
  rfl

theorem State.verdictEntries (h : s.entry i = some e) (v : VerdictReason) :
    s.VerdictEntries i e v (s.verdictWritten i e v) := by
  have others := fun k (other : k ≠ i) => (State.entry_verdictCounted v s i e k).trans (if_neg other)
  have own := (State.entry_verdictCounted v s i e i).trans (if_pos rfl)
  have remarked : ∀ (x : Option Entry) k, k ≠ i → ((s.verdictCounted i e v).setEntry i x).entry k = s.entry k :=
    fun x k other => by rw [State.entry_setEntry_ne _ other, others k other]
  have uncounted : ∀ y, ¬ (v.supplementDue = true ∧ e.generation < 2 ∧ s.nextFree.isSome = true) →
      (s.verdictCounted i e v).row y = (s.row y).map fun r => if y = e.row then
        { r.withVerdict v.final with entries := r.entries +
          if v.supplementDue = true ∧ e.generation < 2 ∧ s.nextFree.isSome = true then 1 else 0 } else r :=
    fun y none_written => by
      rw [State.row_verdictCounted, if_neg none_written]
      rfl
  cases State.supplementCase h v with
  | notDue due eq =>
    rw [eq]
    refine ⟨?_, ?_, fun _ k => absurd k (by rw [due]; nofun), fun _ => others, fun k => absurd k (by rw [due]; nofun),
      fun y => uncounted y fun k => absurd k.1 (by rw [due]; nofun)⟩
    · exact own.trans (Entry.withVerdict_unmarked (by rw [due]; rfl) (by rw [due]; rfl))
    · exact (if_neg fun k => absurd k.1 (by rw [due]; nofun)).symm
  | referred due last eq =>
    have old : ¬ e.generation < 2 := Nat.not_lt.2 last
    rw [eq]
    refine ⟨?_, ?_, fun _ _ k => absurd k old, fun _ => remarked _, fun _ _ => State.post_posted _ _,
      fun y => uncounted y fun k => old k.2.1⟩
    · refine (State.entry_setEntry_same _ _ _).trans ?_
      simp only [due, last, old, decide_true, decide_false, Bool.and_true, Bool.and_false, Bool.false_and, Bool.or_true,
        Bool.or_false, Entry.markRefer, Entry.markResult, Entry.withVerdict, Option.map_map]
      rfl
    · exact (if_neg fun k => old k.2.1).symm
  | waits due more full room eq =>
    have some_room : ¬ 8 ≤ s.backlog.length := Nat.not_le.2 room
    rw [eq]
    refine ⟨?_, ?_, fun j _ _ k => absurd k (by rw [full]; nofun), fun _ => others, fun _ _ => State.post_posted _ _,
      fun y => uncounted y fun k => absurd k.2.2 (by rw [full]; nofun)⟩
    · refine own.trans (Entry.withVerdict_unmarked ?_ ?_)
      · rw [decide_eq_false (Nat.not_le.2 more), Bool.and_false]
      · rw [decide_eq_false some_room, Bool.and_false]
    · exact (if_pos ⟨due, more, full, room⟩).symm
  | lost due more full noRoom eq =>
    have young : ¬ 2 ≤ e.generation := Nat.not_le.2 more
    rw [eq]
    refine ⟨?_, ?_, fun j _ _ k => absurd k (by rw [full]; nofun), fun _ => remarked _,
      fun _ _ => State.post_posted _ _, fun y => uncounted y fun k => absurd k.2.2 (by rw [full]; nofun)⟩
    · refine (State.entry_setEntry_same _ _ _).trans ?_
      simp only [due, more, young, full, noRoom, Option.isNone_none, decide_true, decide_false, Bool.and_true,
        Bool.and_false, Bool.or_true, Bool.or_false, Entry.markLost, Entry.markResult, Entry.withVerdict, Option.map_map]
      rfl
    · exact (if_neg fun k => absurd k.2.2.2 (Nat.not_lt.2 noRoom)).symm
  | supplemented due more j free eq =>
    have empty := State.nextFree_empty free
    have apart : j ≠ i := fun same => absurd empty (by rw [same, h]; nofun)
    have young : ¬ 2 ≤ e.generation := Nat.not_le.2 more
    rw [eq]
    refine ⟨?_, ?_, fun k _ _ is => ?_, fun k => ?_, fun _ k => ?_, fun y => ?_⟩
    · rw [State.entry_writeSlot, State.entry_setEntry_ne _ apart.symm, own]
      refine Entry.withVerdict_unmarked ?_ ?_
      · rw [decide_eq_false young, Bool.and_false]
      · rw [free, Option.isNone_some, Bool.and_false, Bool.false_and]
    · refine Eq.trans ?_ (if_neg fun k => absurd k.2.2.1 (by rw [free]; nofun)).symm
      obtain ⟨_, _, _, frame⟩ := (s.verdictCounted i e v).writeSlot_frame j (e.supplement i s.params.settings.shift)
      rw [frame]
      rfl
    · obtain rfl : j = k := Option.some.inj (free.symm.trans is)
      refine ⟨?_, fun l other free_other => ?_⟩
      · rw [State.entry_writeSlot, State.entry_setEntry_same]
      · rw [State.entry_writeSlot, State.entry_setEntry_ne _ free_other, others l other]
    · rcases k with k | k | k
      · exact absurd k (by rw [due]; nofun)
      · exact absurd k young
      · exact absurd k (by rw [free]; nofun)
    · exact k.elim (fun k => absurd k young) fun k => absurd k (by rw [free]; nofun)
    · have written := State.row_modRow (s.verdictCounted i e v) e.row y
        (f := fun r => { r with entries := r.entries + 1 }) fun _ => rfl
      refine (State.row_congr (State.rows_writeSlot _ _ _) y).trans (written.trans ?_)
      rw [State.row_verdictCounted, Option.map_map, if_pos ⟨due, more, by rw [free]; rfl⟩]
      refine congrArg (Option.map · (s.row y)) (funext fun r => ?_)
      by_cases own_row : y = e.row
      · simp only [Function.comp_apply, if_pos own_row]
        rfl
      · simp only [Function.comp_apply, if_neg own_row]

end

theorem ite_add_one (p : Prop) [Decidable p] (n : Nat) : (if p then n + 1 else n) = n + if p then 1 else 0 := by
  split <;> rfl

theorem State.checked_frame (s : State) (x : Byte) (r : RowRecord) :
    s.checked x r = { r with state := (s.checked x r).state } := by
  unfold State.checked
  split <;> rfl

/-- Settles O32: the entry, the supplement and the counts, and then the closing check of the row. -/
theorem tableVerdictGiven : Obligations.TableVerdictGiven := by
  intro s i e v h
  have eq := State.tableVerdict_eq v h
  have written := State.verdictEntries h v
  have move : s.PortsMove ⟨[.table, .row], true, false⟩ (s.tableVerdict i v) :=
    .tableVerdict (by simp) rfl (by simp) s i v
  have entries : (s.tableVerdict i v).entry = (s.verdictWritten i e v).entry := by
    rw [eq]
    funext k
    exact State.entry_closingCheck _ _ k
  have backlog : (s.tableVerdict i v).backlog = (s.verdictWritten i e v).backlog := by
    rw [eq, State.backlog_closingCheck]
  rw [entries, backlog]
  refine ⟨⟨?_, ?_⟩, written.own, written.backlog, fun j due more free => written.supplement j due more free,
    written.others, fun due final => ?_, fun r here => ?_, fun y other => ?_, move.within, ?_⟩
  · cases v <;> rfl
  · cases v <;> decide
  · rw [eq]
    exact (State.closingCheck_move _ _).posted (written.posted due final)
  · have row := (written.rows e.row).trans (by rw [here, Option.map_some, if_pos rfl])
    refine ⟨_, (State.row_congr (by rw [eq]) e.row).trans
      ((State.row_closingCheck _ _).trans (by rw [row, Option.map_some])), ?_, ?_, ?_, ?_, fun opened ended settled parents => ?_,
      fun waits => ?_⟩
    · rw [State.checked_frame]
      rfl
    · rw [State.checked_frame]
      exact ite_add_one _ _
    · rw [State.checked_frame]
      exact ite_add_one _ _
    · rw [State.checked_frame]
    · have closes : (s.verdictWritten i e v).rowSettled e.row = true ∧
          (s.verdictWritten i e v).backlogHas e.row = false := by
        refine ⟨State.rowSettled_iff.2 settled, Bool.eq_false_iff.2 fun k => ?_⟩
        obtain ⟨j, hj, f, hf, own⟩ := State.backlogHas_iff.1 k
        exact parents j hj f hf own
      refine ⟨?_, ?_⟩
      · unfold State.checked
        rw [if_pos ⟨opened, ended, closes⟩]
      · rw [eq, State.closingCheck_closes row opened ended settled parents]
        exact State.post_posted _ _
    · unfold State.checked
      refine (congrArg RowRecord.state (if_neg fun k => ?_)).trans rfl
      obtain ⟨opened, ended, settled, parents⟩ := k
      rcases waits with shut | unended | ⟨j, f, hf, own, un⟩ | waiting
      · exact shut opened
      · exact absurd (unended.symm.trans ended) nofun
      · exact absurd (State.rowSettled_iff.1 settled j f hf own) (by rw [un]; nofun)
      · exact absurd (State.backlogHas_iff.2 waiting) (by rw [parents]; nofun)
  · rw [eq, State.row_closingCheck_other _ other, written.rows]
    simp only [if_neg other, Option.map_id']
  · obtain ⟨x, r, l, q, frame⟩ := s.tableVerdict_frame i v
    rw [← backlog, frame]

end Sys2Proof.Machine

/-! ### Claims -/

namespace Sys2Proof.Machine

open Sys2Proof Sys2Proof.Machine

/-! ### Booms at rest -/

/-- The cycle states in which nothing of a boom runs: no hold, no stage timer, no permit line. -/
def CycleState.atRest : CycleState → Bool
  | .drilling | .spinning | .setting | .torquing | .suspended => false
  | _ => true

/-- A unit with no hold, no stage timer and no permit line. -/
def BoomUnit.rested (u : BoomUnit) : BoomUnit :=
  { u with
    holds := ⟨false, false, false⟩, abandonTimer := none, spinTimer := none, setTimer := none,
    torqueTimer := .notStarted, feed := false, turn := false }

theorem BoomUnit.follow_atRest {u : BoomUnit} (h : u.cycle.atRest = true) (held : Bool) :
    u.follow Holds.none held = u.rested := by
  unfold BoomUnit.follow BoomUnit.rested BoomUnit.nextAbandon BoomUnit.nextSpin BoomUnit.nextSet BoomUnit.nextTorque
    BoomUnit.feedCondition BoomUnit.turnCondition BoomUnit.running
  cases c : u.cycle <;> simp_all [CycleState.atRest, CycleState.holdable, Holds.none]

theorem CycleState.not_holdable_of_atRest {c : CycleState} (h : c.atRest = true) : c.holdable = false := by
  revert h
  cases c <;> decide

theorem CycleState.ne_torquing_of_atRest {c : CycleState} (h : c.atRest = true) : c ≠ .torquing := by
  rintro rfl
  exact absurd h nofun

section
variable {s : State} {b : Boom}

theorem State.holdConditions_atRest (h : (s.unit b).cycle.atRest = true) : s.holdConditions b = Holds.none :=
  if_neg (by rw [CycleState.not_holdable_of_atRest h]; nofun)

/-- A boom at rest that follows its conditions has nothing running. -/
theorem State.BoomFollows.rested_eq (h : s.BoomFollows b) (rest : (s.unit b).cycle.atRest = true) :
    (s.unit b).rested = s.unit b := by
  rw [← BoomUnit.follow_atRest rest s.isHeld, ← State.holdConditions_atRest rest, h.follow_eq]

theorem State.BoomFollows.ofRested {t : State} (rest : (t.unit b).cycle.atRest = true)
    (h : (t.unit b).rested = t.unit b) : t.BoomFollows b := by
  have moving : ∀ c : CycleState, c.atRest = false → (t.unit b).cycle ≠ c := fun c hc k =>
    Bool.false_ne_true (hc.symm.trans (k ▸ rest))
  have ne : ∀ c : CycleState, c.atRest = false → ((t.unit b).cycle == c) = false := fun c hc => beq_false_of_ne (moving c hc)
  have still := CycleState.not_holdable_of_atRest rest
  constructor
  · rw [still, ← h]; rfl
  · rw [still, ← h]; rfl
  · rw [ne _ rfl, ← h]; rfl
  · rw [ne _ rfl, ← h]; rfl
  · rw [still, ← h]; rfl
  · rw [ne _ rfl, ← h]; rfl
  · rw [← h]; exact fun _ => rfl
  · exact fun k => absurd k (moving _ rfl)
  · rw [← h]; exact fun _ => rfl
  · rw [← h]; exact fun _ _ => rfl
  · exact fun k => absurd k (moving _ rfl)
  · exact fun k => absurd k (moving _ rfl)

variable {f : State → State}

/-- A boom that an action leaves at rest has nothing running. -/
theorem State.acting_unit_atRest (h : ((f s).unit b).cycle.atRest = true) :
    (s.acting f).unit b = ((f s).unit b).rested := by
  rw [State.acting_unit, State.holdConditions_atRest h, BoomUnit.follow_atRest h]

theorem State.acting_engine_of_ne (h : ((f s).unit b).cycle ≠ .torquing) : (s.acting f).engine b = (f s).engine b := by
  rw [State.acting_engine, if_neg fun k => h k.1]

/-- A boom in step whose conditions an action leaves alone keeps its engine. -/
theorem State.BoomFollows.acting_engine (h : s.BoomFollows b) (hu : (f s).unit b = s.unit b)
    (he : (f s).engine b = s.engine b)
    (hq : ((f s).arbiter.queue.any fun r => r.boom == b) = s.arbiter.queue.any fun r => r.boom == b)
    (hl : (f s).laneInStep b = s.laneInStep b) : (s.acting f).engine b = s.engine b := by
  rw [State.acting_engine, hu, he, State.holdConditions_congr (by rw [hu]) (fun _ => by rw [hu]) hq hl]
  split
  · rename_i held
    exact h.dropTorqueRun_eq held.1 held.2
  · rfl

/-- The engines of an action that keeps them at one boom and at the other. -/
theorem State.engines_eq {s t : State} (b : Boom) (own : t.engine b = s.engine b)
    (other : t.engine b.other = s.engine b.other) : t.engines = s.engines :=
  Pair.ext_get fun c => by
    rcases Boom.eq_or_eq_other b c with rfl | rfl
    · exact own
    · exact other

end

/-! ### The choice and the checks -/

section
variable {s : State} {b : Boom} {e : Entry}

theorem Reach.allows_iff (r : Reach) (b : Boom) : r.allows b = true ↔ r.Lets b := by
  cases r <;> cases b <;> simp [Reach.allows, Reach.Lets]

theorem State.claimable_iff {v : Validity} : s.claimable b v e = true ↔
    e.validity = v ∧ e.holeState = .planned ∧ s.rowIs e.row .opened = true ∧ e.reach.Lets b := by
  simp only [State.claimable, Bool.and_eq_true, beq_iff_eq, Reach.allows_iff, and_assoc]

theorem le_offsetDistance_iff {n x y : Nat} : n ≤ offsetDistance x y ↔ n ≤ x - y ∨ n ≤ y - x := by
  unfold offsetDistance
  omega

theorem State.separated_iff : s.separated b e = true ↔ s.PassesSeparation b e := by
  unfold State.separated State.PassesSeparation
  cases claim : s.claimedEntry b.other with
  | none =>
    refine ⟨fun _ i f hf held slot => ?_, fun _ => rfl⟩
    have found := State.claimedEntry_eq_some.2 ⟨held, slot, hf⟩
    exact absurd (claim.symm.trans found) nofun
  | some c =>
    obtain ⟨j, o⟩ := c
    obtain ⟨held, slot, ho⟩ := State.claimedEntry_eq_some.1 claim
    simp only [Bool.or_eq_true, bne_iff_ne, beq_iff_eq, decide_eq_true_eq, le_offsetDistance_iff]
    refine ⟨fun h i f hf _ at_i row unheld => ?_, fun h => ?_⟩
    · obtain rfl : j = i := Option.some.inj (slot.symm.trans at_i)
      obtain rfl : o = f := Option.some.inj (ho.symm.trans hf)
      exact h.resolve_left (not_or.2 ⟨not_not.2 row, unheld⟩)
    · by_cases beside : o.row = e.row ∧ o.validity ≠ .held
      · exact .inr (h j o ho held slot beside.1 beside.2)
      · exact .inl (by tauto)

/-- What the choice of CLAIM NEXT looks through is what R37 calls eligible. -/
theorem State.eligibleAt_of_mem {k : Nat} {r : RowRecord} {i : Slot} (at_k : s.rows[k]? = some r)
    (row : s.row r.id = some r) (h : i ∈ s.eligibleIn b r.id) : ∃ e, s.EligibleAt b k i e := by
  obtain ⟨e, he, own, may, apart⟩ := State.mem_eligibleIn.1 h
  obtain ⟨validity, planned, opened, reach⟩ := State.claimable_iff.1 may
  obtain ⟨x, hx, shown⟩ := State.rowIs_opened.1 opened
  obtain rfl : r = x := Option.some.inj (row.symm.trans (own ▸ hx))
  exact ⟨e, he, validity, planned, ⟨r, at_k, own.symm, shown⟩, reach, State.separated_iff.1 apart⟩

theorem State.EligibleAt.mem {k : Nat} {i : Slot} (distinct : (s.rows.map RowRecord.id).Nodup)
    (h : s.EligibleAt b k i e) : ∃ r, s.rows[k]? = some r ∧ i ∈ s.eligibleIn b r.id := by
  obtain ⟨he, validity, planned, ⟨r, at_k, own, opened⟩, reach, apart⟩ := h
  have row : s.row e.row = some r := (State.row_eq_some distinct).2 ⟨List.mem_of_getElem? at_k, own⟩
  exact ⟨r, at_k, State.mem_eligibleIn.2 ⟨e, he, own.symm,
    State.claimable_iff.2 ⟨validity, planned, State.rowIs_opened.2 ⟨r, row, opened⟩, reach⟩,
    State.separated_iff.2 apart⟩⟩

theorem State.chooseNext_eq_none (h : ∀ k i e, ¬ s.EligibleAt b k i e) : s.chooseNext b = none := by
  refine Option.eq_none_iff_forall_ne_some.2 fun i chosen => ?_
  obtain ⟨e, he, may, apart⟩ := State.chooseNext_eligible chosen
  obtain ⟨validity, planned, opened, reach⟩ := State.claimable_iff.1 may
  obtain ⟨r, row, shown⟩ := State.rowIs_opened.1 opened
  obtain ⟨k, at_k⟩ := List.getElem?_of_mem (List.mem_of_find?_eq_some row)
  exact h k i e ⟨he, validity, planned, ⟨r, at_k, State.row_id row, shown⟩, reach, State.separated_iff.1 apart⟩

/-- The first row with an eligible entry, and the best of its entries (R37). -/
theorem State.chooseNext_eq_some {k : Nat} {i : Slot} (distinct : (s.rows.map RowRecord.id).Nodup)
    (h : s.EligibleAt b k i e) (least : ∀ l j f, s.EligibleAt b l j f →
      k < l ∨ (k = l ∧ (e.priority < f.priority ∨ (e.priority = f.priority ∧ i ≤ j)))) :
    s.chooseNext b = some i := by
  obtain ⟨r, at_k, mem⟩ := h.mem distinct
  obtain ⟨bound, own⟩ := List.getElem?_eq_some_iff.1 at_k
  have row_of : ∀ {x : RowRecord}, x ∈ s.rows → s.row x.id = some x := fun hx =>
    (State.row_eq_some distinct).2 ⟨hx, rfl⟩
  have first : s.rows.find? (fun x => !(s.eligibleIn b x.id).isEmpty) = some r := by
    refine List.find?_eq_some_iff_getElem.2 ⟨?_, k, bound, own, fun l earlier => ?_⟩
    · rw [Bool.not_eq_true', Bool.eq_false_iff, ne_eq, List.isEmpty_iff]
      exact List.ne_nil_of_mem mem
    · have short : l < s.rows.length := earlier.trans bound
      rw [Bool.not_not, List.isEmpty_iff, List.eq_nil_iff_forall_not_mem]
      intro j hj
      obtain ⟨f, hf⟩ := State.eligibleAt_of_mem (List.getElem?_eq_getElem short) (row_of (List.getElem_mem short)) hj
      rcases least l j f hf with later | ⟨same, _⟩
      · exact absurd earlier (Nat.lt_asymm later)
      · exact absurd same (Nat.ne_of_gt earlier)
  have sorted := s.eligibleIn_sorted b r.id
  obtain ⟨j, best⟩ := State.bestOf_isSome sorted (List.ne_nil_of_mem mem)
  obtain ⟨hj, noWorse⟩ := State.bestOf_eq_some sorted best
  have same : j = i := by
    obtain ⟨f, hf⟩ := State.eligibleAt_of_mem at_k (row_of (List.mem_of_getElem? at_k)) hj
    have priority : ∀ {l : Slot} {g : Entry}, s.entry l = some g → s.priorityOf l = g.priority := fun hg => by
      rw [State.priorityOf, hg]
    have worse := noWorse i mem
    rw [State.NoWorse, priority hf.1, priority h.1] at worse
    rcases least k j f hf with later | ⟨_, lower | ⟨equal, before⟩⟩
    · exact absurd later (lt_irrefl k)
    · rcases worse with lower' | ⟨equal', _⟩
      · exact absurd lower (Nat.lt_asymm lower')
      · exact absurd equal'.symm (Nat.ne_of_lt lower)
    · rcases worse with lower' | ⟨_, after⟩
      · exact absurd equal.symm (Nat.ne_of_lt lower')
      · exact le_antisymm after before
  unfold State.chooseNext
  rw [first]
  exact same ▸ best

/-! ### A claim taken -/

/-- The effects of a claim are those of R35. -/
theorem State.claimed_eq {i : Slot} (he : s.entry i = some e) : s.claimed b i = s.claimTaken b i e := by
  unfold State.claimed State.claimTaken
  rw [State.modEntry_some he]
  unfold State.setCycle State.offerChange State.modUnit
  split
  · cases b <;> rfl
  · cases b <;> rfl

/-- A claim leaves both booms in step: the one at rest stays at rest, and the other is not touched. -/
theorem State.Followed.claimTaken (h : s.Followed) (idle : (s.unit b).cycle = .idle) (i : Slot) (e : Entry) :
    (s.claimTaken b i e).Followed := by
  have own : (s.claimTaken b i e).unit b = { s.unit b with
      cycle := .claimed, workSlot := some i, claimHeld := true, activeSet := (s.unit b).pendingSet } := by
    simp [State.claimTaken]
  have other : (s.claimTaken b i e).unit b.other = s.unit b.other := by simp [State.claimTaken]
  intro c
  rcases Boom.eq_or_eq_other b c with rfl | rfl
  · refine .ofRested (by rw [own]; rfl) ?_
    rw [own]
    conv_rhs => rw [← (h c).rested_eq (by rw [idle]; rfl)]
    rfl
  · refine (h b.other).congr other ?_ ?_ ?_ fun _ => ?_ <;> simp [State.claimTaken, State.laneInStep, State.isHeld]

/-- A claim on a part in step is no more than its effects. -/
theorem State.Followed.takeClaim_eq (h : s.Followed) (idle : (s.unit b).cycle = .idle) {i : Slot}
    (he : s.entry i = some e) : s.takeClaim b i = s.claimTaken b i e := by
  have follows := h.claimTaken idle i e
  have line : ∀ c, s.feedLine c = (s.claimTaken b i e).feedLine c := fun c => by
    rcases Boom.eq_or_eq_other b c with rfl | rfl <;> simp [State.feedLine, State.claimTaken]
  rw [State.takeClaim_eq, State.acting, State.claimed_eq he, follows.sync_eq]
  refine State.offersSince_same line (fun c => ?_) ?_ ?_ <;>
    simp [State.claimTaken, State.laneInStep, State.loaderStatus, State.magazineLow]

end

/-! ### CLAIM NEXT -/

theorem claimNextBoom_eq {s : State} {p : Port} {b : Boom} (own : Port.boom p = some b) (wet : (s.unit b).dry = false) :
    s.claimNextBoom p = some b := by
  cases p with
  | A =>
    obtain rfl : Boom.A = b := Option.some.inj own
    exact if_neg (by rw [wet]; nofun)
  | B =>
    obtain rfl : Boom.B = b := Option.some.inj own
    exact if_neg (by rw [wet]; nofun)
  | C => exact absurd own nofun

/-- What CLAIM NEXT comes to on a state whose frame has ended, for a boom that may use it. -/
theorem exec_claimNext (p : Port) (s : State) : exec (.claimNext p) s = .next (s.command p .claimNext fun s =>
    match s.claimNextBoom p with
    | none => refuse s .denied
    | some b =>
      if (s.unit b).cycle ≠ .idle then refuse s .state
      else
        match s.chooseNext b with
        | none => refuse s .noMatch
        | some i => ⟨s.takeClaim b i, .done, some i⟩) := rfl

theorem State.takeClaim_setFrame (s : State) (b : Boom) (i : Slot) (p : Port) :
    (s.setFrame p .idle).takeClaim b i = (s.takeClaim b i).setFrame p .idle := by
  refine State.acting_setFrame_idle (f := fun s => s.claimed b i) ?_
  unfold State.claimed
  simp only [State.modEntry_setFrame, State.modUnit_setFrame, State.setEngine_setFrame, State.engine_setFrame,
    State.offerChange_setFrame_idle, State.setCycle_setFrame_idle]

theorem State.chooseNext_setFrame (s : State) (b : Boom) (p : Port) (f : Frame) :
    (s.setFrame p f).chooseNext b = s.chooseNext b := rfl

/-- Settles O33: the choice is the eligible entry that comes first, and its claim is taken. -/
theorem claimNextTakesChoice : Obligations.ClaimNextTakesChoice := by
  intro p b s takes own wet
  have boom : (s.setFrame p .idle).claimNextBoom p = some b := claimNextBoom_eq own wet
  unfold Answers
  rw [exec_claimNext]
  refine ⟨fun busy => ?_, fun idle none_eligible => ?_, fun k i e followed distinct idle eligible least => ?_⟩
  · refine State.command_refused takes ?_
    simp only [boom]
    exact if_pos busy
  · refine State.command_refused takes ?_
    simp only [boom, State.chooseNext_setFrame, State.chooseNext_eq_none none_eligible]
    exact if_neg (not_not.2 idle)
  · rw [← followed.takeClaim_eq idle eligible.1]
    refine congrArg _ (State.command_answered takes _ ?_)
    simp only [boom, State.chooseNext_setFrame, State.chooseNext_eq_some distinct eligible least,
      State.takeClaim_setFrame]
    exact if_neg (not_not.2 idle)

end Sys2Proof.Machine

/-! ### CLAIM SLOT and CANCEL CLAIM -/

namespace Sys2Proof.Machine

open Sys2Proof Sys2Proof.Machine

/-! ### CLAIM SLOT -/

section
variable {s : State} {p : Port} {x : Byte}

theorem State.targetSlot_setFrame (s : State) (p : Port) (f : Frame) (x : Byte) :
    (s.setFrame p f).targetSlot p x = s.targetSlot p x := by
  unfold State.targetSlot
  rw [State.port_setFrame_same]

theorem State.targetSlot_best_none (named : x = 0xFF) (best : (s.port p).context.best = none) :
    s.targetSlot p x = .error .noMatch := by
  subst named
  unfold State.targetSlot
  rw [best]
  rfl

theorem State.targetSlot_nothing (above : 48 ≤ x.toNat) (other : x ≠ 0xFF) : s.targetSlot p x = .error .state := by
  unfold State.targetSlot
  by_cases set : x = 0xFE
  · subst set
    rfl
  · rw [targetOf_nothing above other set]

theorem State.targetSlot_ok {i : Slot} (h : x.toNat = i.val ∨ x = 0xFF ∧ (s.port p).context.best = some i) :
    s.targetSlot p x = .ok i := by
  unfold State.targetSlot
  rcases h with named | ⟨rfl, best⟩
  · rw [targetOf_slot named]
  · rw [best]
    rfl

end

/-- What CLAIM SLOT comes to for the boom that it concerns and the slot that it names, on a state whose frame has
ended. -/
def State.claimAt (s : State) (b : Boom) (i : Slot) : Taken :=
  match s.entry i with
  | none => refuse s .state
  | some e =>
    if s.rowIs e.row .frozen then refuse s .isProtected
    else if (s.unit b).cycle ≠ .idle then refuse s .state
    else if s.claimable b (claimValidity (s.unit b).dry) e then
      if (s.unit b).dry || s.separated b e then ⟨s.takeClaim b i, .done, some i⟩
      else refuse s .tooClose
    else refuse s .state

theorem exec_claimSlot (p : Port) (boom target : Byte) (s : State) : exec (.claimSlot p boom target) s =
    .next (s.command p .claimSlot fun s =>
      match s.authorised p boom with
      | none => refuse s .denied
      | some b =>
        match s.targetSlot p target with
        | .error c => refuse s c
        | .ok i => s.claimAt b i) := rfl

section
variable {s : State} {b : Boom} {i : Slot} {e : Entry}

theorem State.claimAt_none (h : s.entry i = none) : s.claimAt b i = refuse s .state := by
  unfold State.claimAt
  rw [h]

theorem State.claimAt_frozen (h : s.entry i = some e) (frozen : s.rowIs e.row .frozen = true) :
    s.claimAt b i = refuse s .isProtected := by
  unfold State.claimAt
  simp only [h]
  exact if_pos frozen

theorem State.claimAt_thawed (h : s.entry i = some e) (thawed : s.rowIs e.row .frozen = false) : s.claimAt b i =
    if (s.unit b).cycle ≠ .idle then refuse s .state
    else if s.claimable b (claimValidity (s.unit b).dry) e then
      if (s.unit b).dry || s.separated b e then ⟨s.takeClaim b i, .done, some i⟩
      else refuse s .tooClose
    else refuse s .state := by
  unfold State.claimAt
  simp only [h]
  exact if_neg (Bool.eq_false_iff.1 thawed)

theorem State.claimAt_refused (h : s.entry i = some e) (thawed : s.rowIs e.row .frozen = false)
    (bad : (s.unit b).cycle ≠ .idle ∨ s.rowIs e.row .opened = false ∨ e.holeState ≠ .planned ∨ ¬ e.reach.Lets b ∨
      e.validity ≠ if (s.unit b).dry then .held else .live) : s.claimAt b i = refuse s .state := by
  rw [State.claimAt_thawed h thawed]
  by_cases busy : (s.unit b).cycle ≠ .idle
  · exact if_pos busy
  · refine (if_neg busy).trans (if_neg fun may => ?_)
    obtain ⟨validity, planned, opened, reach⟩ := State.claimable_iff.1 may
    rcases bad with k | k | k | k | k
    · exact busy k
    · exact Bool.false_ne_true (k.symm.trans opened)
    · exact k planned
    · exact k reach
    · exact k validity

theorem State.claimAt_idle (h : s.entry i = some e) (idle : (s.unit b).cycle = .idle)
    (opened : s.rowIs e.row .opened = true) (planned : e.holeState = .planned) (reach : e.reach.Lets b)
    (validity : e.validity = claimValidity (s.unit b).dry) : s.claimAt b i =
      if (s.unit b).dry || s.separated b e then ⟨s.takeClaim b i, .done, some i⟩ else refuse s .tooClose := by
  have thawed : s.rowIs e.row .frozen = false := by
    obtain ⟨r, row, shown⟩ := State.rowIs_opened.1 opened
    unfold State.rowIs
    rw [row]
    exact beq_false_of_ne (by rw [shown]; nofun)
  rw [State.claimAt_thawed h thawed]
  exact (if_neg (not_not.2 idle)).trans (if_pos (State.claimable_iff.2 ⟨validity, planned, opened, reach⟩))

end

/-! ### CANCEL CLAIM -/

theorem exec_cancelClaim (p : Port) (boom : Byte) (s : State) : exec (.cancelClaim p boom) s =
    .next (s.command p .cancelClaim fun s =>
      match s.authorised p boom with
      | none => refuse s .denied
      | some b =>
        if (s.unit b).cycle ≠ .claimed then refuse s .state
        else
          match s.claimedEntry b with
          | none => refuse s .state
          | some (i, _) => ⟨s.acting fun s => s.claimCancelled b i, .done, some i⟩) := rfl

/-- What CANCEL CLAIM leaves (R42). -/
structure State.ClaimCancelled (s t : State) (b : Boom) (i : Slot) (e : Entry) : Prop where
  own : t.entry i = some { e with holeState := .planned, claimant := none, result := none }
  others : ∀ j, j ≠ i → t.entry j = s.entry j
  rows : t.rows = ((s.setEntry i (some { e with
    holeState := .planned, claimant := none, result := none })).closingCheck e.row).rows
  unit : t.unit b = { s.unit b with cycle := .idle, workSlot := none, claimHeld := false }
  otherUnit : t.unit b.other = s.unit b.other
  posted : t.Posted (.stage b)
  within : s.NoticesWithin t [.stage b, .row]
  kept : s.PortsKept t none
  frame : t = { s with slots := t.slots, rows := t.rows, units := t.units, ports := t.ports }

section
variable {s : State} {b : Boom} {i : Slot} {e : Entry}

theorem State.setUnit_setUnit (s : State) (b : Boom) (u v : BoomUnit) : (s.setUnit b u).setUnit b v = s.setUnit b v := by
  cases b <;> rfl

theorem State.claimCancelled_eq (he : s.entry i = some e) : s.claimCancelled b i =
    (((s.setEntry i (some e.returned)).closingCheck e.row).setUnit b
      { s.unit b with cycle := .idle, workSlot := none, claimHeld := false }).post (.stage b) := by
  unfold State.claimCancelled State.returnEntry
  rw [he]
  unfold State.setCycle State.modUnit
  simp only [State.unit_setUnit_same, State.unit_closingCheck, State.setUnit_setUnit, true_or, if_true]
  rfl

/-- An action goes on from its own effects: it loses no pending pair of theirs. -/
theorem State.acting_moves (s : State) (f : State → State) : (f s).PortsMove .all (s.acting f) :=
  (State.PortsMove.sync (f s)).trans (.offersSince (fun _ _ => mem_allPairs _) (fun _ _ => mem_allPairs _)
    (fun _ => mem_allPairs _) fun _ => mem_allPairs _)

/-- An action moves the ports as its own effects do, and offers the permit lines and statuses that it has changed. -/
theorem State.PortsMove.ofActing {R : PortRights} {s : State} {f : State → State} (own : s.PortsMove R (f s))
    (permit : ∀ b, ((s.acting f).unit b).feed ≠ (s.unit b).feed → .permit b ∈ R.notices)
    (lane : ∀ b, s.laneInStep b ≠ (f s).laneInStep b → .lane b ∈ R.notices)
    (loader : s.loaderStatus ≠ (f s).loaderStatus → .loader ∈ R.notices)
    (low : s.magazineLow ≠ (f s).magazineLow → .magazineLow ∈ R.notices) : s.PortsMove R (s.acting f) := by
  refine .acting own (fun b k => permit b fun same => k ?_) lane loader low
  obtain ⟨p, h⟩ := s.acting_eq f
  rw [h] at same
  exact same.symm

theorem State.cancelled_spec (h : s.Followed) (claimed : (s.unit b).cycle = .claimed) (he : s.entry i = some e) :
    s.ClaimCancelled (s.acting fun s => s.claimCancelled b i) b i e := by
  have eq := State.claimCancelled_eq (b := b) he
  have own : (s.claimCancelled b i).unit b =
      { s.unit b with cycle := .idle, workSlot := none, claimHeld := false } := by
    rw [eq, State.unit_post, State.unit_setUnit_same]
  have rest : ((s.claimCancelled b i).unit b).cycle.atRest = true := by
    rw [own]
    rfl
  have other : (s.claimCancelled b i).unit b.other = s.unit b.other := by
    rw [eq, State.unit_post, State.unit_setUnit_other, State.unit_closingCheck]
    rfl
  have unit := State.acting_unit_atRest (f := fun s => s.claimCancelled b i) rest
  have entries : ∀ j, (s.acting fun s => s.claimCancelled b i).entry j = (s.setEntry i (some e.returned)).entry j := by
    intro j
    rw [State.entry_acting, eq, State.entry_post]
    exact State.entry_closingCheck (s.setEntry i (some e.returned)) e.row j
  have frame : s.claimCancelled b i = { s with
      slots := (s.claimCancelled b i).slots, rows := (s.claimCancelled b i).rows,
      units := (s.claimCancelled b i).units, ports := (s.claimCancelled b i).ports } := by
    rw [eq, State.closingCheck_frame]
    rfl
  have engines : (s.acting fun s => s.claimCancelled b i).engines = s.engines := by
    refine State.engines_eq b ?_ ?_
    · rw [State.acting_engine_of_ne (CycleState.ne_torquing_of_atRest rest), frame]
      rfl
    · exact (h b.other).acting_engine other (by rw [frame]; rfl) (by rw [frame]) (by rw [frame]; rfl)
  have otherUnit : (s.acting fun s => s.claimCancelled b i).unit b.other = s.unit b.other :=
    (h b.other).acting_unit other (by rw [frame]; rfl) (by rw [frame]) (by rw [frame]; rfl)
  have line : ∀ c, ((s.acting fun s => s.claimCancelled b i).unit c).feed = (s.unit c).feed := by
    intro c
    rcases Boom.eq_or_eq_other b c with rfl | rfl
    · rw [unit, ← (h c).rested_eq (by rw [claimed]; rfl)]
      rfl
    · rw [otherUnit]
  have moves : s.PortsMove ⟨[.stage b, .row], false, false⟩ (s.acting fun s => s.claimCancelled b i) := by
    refine .ofActing ?_ (fun c k => absurd (line c) k) (fun c k => absurd ?_ k) (fun k => absurd ?_ k) fun k => absurd ?_ k
    · exact ((State.PortsMove.returnEntry (by simp) s i).blocks (by rfl) (by rfl)).trans (.setCycle (by simp) _ _)
    · rw [frame]
      rfl
    · rw [frame]
      rfl
    · rw [frame]
      rfl
  refine ⟨?_, fun j apart => ?_, ?_, ?_, ?_, ?_, moves.within, moves.kept rfl rfl, ?_⟩
  · rw [entries, State.entry_setEntry_same]
    rfl
  · rw [entries, State.entry_setEntry_ne _ apart]
  · rw [State.acting_rows, eq]
    rfl
  · rw [unit, own, ← (h b).rested_eq (by rw [claimed]; rfl)]
    rfl
  · exact otherUnit
  · refine (s.acting_moves fun s => s.claimCancelled b i).posted ?_
    rw [eq]
    exact State.post_posted _ _
  · obtain ⟨u, x, q, whole⟩ := State.acting_frame s fun s => s.claimCancelled b i
    rw [whole] at engines ⊢
    rw [show x = s.engines from engines, frame]

end

theorem State.claimCancelled_setFrame (s : State) (b : Boom) (i : Slot) (p : Port) :
    (s.setFrame p .idle).claimCancelled b i = (s.claimCancelled b i).setFrame p .idle := by
  unfold State.claimCancelled
  rw [State.returnEntry_setFrame_idle, State.modUnit_setFrame, State.setCycle_setFrame_idle]

/-- Settles O34: the checks of the claim in their order, and the return of the entry. -/
theorem claimedBySlotAndCancelled : Obligations.ClaimedBySlotAndCancelled := by
  intro p boom target b s takes may
  have issued : (s.setFrame p .idle).authorised p boom = some b := State.authorised_eq_some.2 may
  unfold Answers
  rw [exec_claimSlot, exec_cancelClaim]
  refine ⟨fun named best => ?_, fun above other => ?_, fun i named => ?_, fun other => ?_,
    fun i e claimed followed held slot here => ?_⟩
  · refine State.command_refused takes ?_
    simp only [issued, State.targetSlot_setFrame, State.targetSlot_best_none named best]
  · refine State.command_refused takes ?_
    simp only [issued, State.targetSlot_nothing above other]
  · have target_eq : (s.setFrame p .idle).targetSlot p target = .ok i :=
      (s.targetSlot_setFrame p .idle target).trans (State.targetSlot_ok named)
    refine ⟨fun empty => ?_, fun e here => ⟨fun frozen => ?_, fun thawed bad => ?_, fun idle opened planned reach =>
      ⟨fun wet live close => ?_, fun followed apart => ?_⟩⟩⟩
    · refine State.command_refused takes ?_
      simp only [issued, target_eq]
      exact State.claimAt_none empty
    · refine State.command_refused takes ?_
      simp only [issued, target_eq]
      exact State.claimAt_frozen (s := s.setFrame p .idle) here frozen
    · refine State.command_refused takes ?_
      simp only [issued, target_eq]
      exact State.claimAt_refused (s := s.setFrame p .idle) here thawed bad
    · have validity : e.validity = claimValidity ((s.setFrame p .idle).unit b).dry := by
        rw [State.unit_setFrame, wet, live]
        rfl
      refine State.command_refused takes ?_
      simp only [issued, target_eq]
      refine (State.claimAt_idle (s := s.setFrame p .idle) here idle opened planned reach validity).trans (if_neg ?_)
      rw [State.unit_setFrame, wet, Bool.false_or]
      exact mt State.separated_iff.1 close
    · have validity : e.validity = claimValidity ((s.setFrame p .idle).unit b).dry := by
        rw [State.unit_setFrame]
        rcases apart with ⟨dry, heldEntry⟩ | ⟨wet, live, _⟩
        · rw [dry, heldEntry]
          rfl
        · rw [wet, live]
          rfl
      rw [← followed.takeClaim_eq idle here]
      refine congrArg _ (State.command_answered takes _ ?_)
      simp only [issued, target_eq, ← State.takeClaim_setFrame]
      refine (State.claimAt_idle (s := s.setFrame p .idle) here idle opened planned reach validity).trans (if_pos ?_)
      rw [Bool.or_eq_true, State.unit_setFrame]
      exact apart.imp (fun k => k.1) fun k => State.separated_iff.2 k.2.2
  · refine State.command_refused takes ?_
    simp only [issued]
    exact if_pos other
  · have claim : (s.setFrame p .idle).claimedEntry b = some (i, e) := State.claimedEntry_eq_some.2 ⟨held, slot, here⟩
    obtain ⟨own, others, rows, unit, otherUnit, posted, within, kept, frame⟩ := State.cancelled_spec followed claimed here
    refine ⟨_, congrArg _ (State.command_answered takes _ ?_), own, others, rows, unit, otherUnit, posted, within, kept,
      frame⟩
    simp only [issued, claim]
    refine (if_neg (not_not.2 claimed)).trans ?_
    rw [State.acting_setFrame_idle (f := fun s => s.claimCancelled b i) (s.claimCancelled_setFrame b i p)]

end Sys2Proof.Machine

/-! ### COLLARED and BOLT IN -/

namespace Sys2Proof.Machine

open Sys2Proof Sys2Proof.Machine

/-! ### Requests of a stage -/

section
variable (s : State) (b : Boom) (x : FlowStage)

theorem State.requestStage_arbiter : (s.requestStage b x).arbiter =
    if (s.unit b).dry then s.arbiter else s.arbiter.request (FlowRequest.ofStage b x) := by
  unfold State.requestStage
  split
  · rfl
  · exact s.requestFlow_arbiter _

theorem Arbiter.request_queue (a : Arbiter) (r : FlowRequest) : (a.request r).queue = a.queue ∨
    (a.request r).queue = a.queue ++ [r] := by
  unfold Arbiter.request
  split
  · rename_i empty
    cases given : a.judge r with
    | none => exact .inr rfl
    | some t =>
      refine .inl ?_
      unfold Arbiter.judge at given
      split at given
      · exact (congrArg Arbiter.queue (Option.some.inj given)).symm
      · split at given
        · exact (congrArg Arbiter.queue (Option.some.inj given)).symm
        · split at given
          · exact (congrArg Arbiter.queue (Option.some.inj given)).symm
          · exact absurd given nofun
  · exact .inr rfl

theorem FlowRequest.ofStage_boom : (FlowRequest.ofStage b x).boom = b := by
  cases x <;> rfl

/-- A request is a place of its own boom. -/
theorem State.queued_requestStage_other : ((s.requestStage b x).arbiter.queue.any fun r => r.boom == b.other) =
    s.arbiter.queue.any fun r => r.boom == b.other := by
  rw [State.requestStage_arbiter]
  split
  · rfl
  · rcases s.arbiter.request_queue (FlowRequest.ofStage b x) with same | placed
    · rw [same]
    · rw [placed, List.any_append, List.any_cons, List.any_nil, FlowRequest.ofStage_boom, Bool.or_false,
        beq_false_of_ne (Boom.ne_other b), Bool.or_false]

end

/-! ### Actions on one boom -/

/-- What an action on boom `b` leaves alone before the booms are brought in step. -/
structure State.BesideBoom (s w : State) (b : Boom) : Prop where
  unit : w.unit b.other = s.unit b.other
  queue : (w.arbiter.queue.any fun r => r.boom == b.other) = s.arbiter.queue.any fun r => r.boom == b.other
  lanes : w.lanes = s.lanes
  engines : w.engines = s.engines
  held : w.isHeld = s.isHeld
  status : w.loaderStatus = s.loaderStatus
  low : w.magazineLow = s.magazineLow

theorem State.BesideBoom.laneInStep {s w : State} {b : Boom} (k : s.BesideBoom w b) (c : Boom) :
    w.laneInStep c = s.laneInStep c := by
  unfold State.laneInStep State.lane
  rw [k.lanes]

section
variable {s : State} {f : State → State} {b : Boom} (h : s.Followed) (k : s.BesideBoom (f s) b)
include h k

theorem State.BesideBoom.acting_unit_other : (s.acting f).unit b.other = s.unit b.other :=
  (h b.other).acting_unit k.unit k.held k.queue (k.laneInStep _)

theorem State.BesideBoom.acting_engines (still : ((f s).unit b).cycle ≠ .torquing) :
    (s.acting f).engines = s.engines := by
  refine State.engines_eq b ?_ ?_
  · rw [State.acting_engine_of_ne still, State.engine, k.engines]
    rfl
  · exact (h b.other).acting_engine k.unit (by rw [State.engine, k.engines]; rfl) k.queue (k.laneInStep _)

theorem State.BesideBoom.acting_moves {R : PortRights} (own : s.PortsMove R (f s))
    (permit : ((s.acting f).unit b).feed ≠ (s.unit b).feed → .permit b ∈ R.notices) : s.PortsMove R (s.acting f) := by
  refine .ofActing own (fun c changed => ?_) (fun c changed => absurd (k.laneInStep c).symm changed)
    (fun changed => absurd k.status.symm changed) fun changed => absurd k.low.symm changed
  rcases Boom.eq_or_eq_other b c with rfl | rfl
  · exact permit changed
  · exact absurd (by rw [k.acting_unit_other h]) changed

end

/-! ### A stage started -/

/-- The effects of a report that starts a stage: the entry, the unit, STAGE, and the flow request (R46, R51, R56). -/
def State.stageStarted (s : State) (b : Boom) (i : Slot) (e : Entry) (u : BoomUnit) (x : FlowStage) : State :=
  (((s.setEntry i (some e)).setUnit b u).post (.stage b)).requestStage b x

section
variable {s : State} {b : Boom} {i : Slot} {e : Entry} {u : BoomUnit} {x : FlowStage}

theorem State.stageStarted_frame (s : State) (b : Boom) (i : Slot) (e : Entry) (u : BoomUnit) (x : FlowStage) :
    ∃ a p, s.stageStarted b i e u x =
      { s with slots := (s.setEntry i (some e)).slots, units := s.units.set b u, arbiter := a, ports := p } := by
  obtain ⟨a, p, h⟩ := (((s.setEntry i (some e)).setUnit b u).post (.stage b)).requestStage_frame b x
  exact ⟨a, p, h⟩

theorem State.stageStarted_unit : (s.stageStarted b i e u x).unit b = u := by
  rw [State.stageStarted, State.unit_requestStage, State.unit_post, State.unit_setUnit_same]

theorem State.stageStarted_beside (s : State) (b : Boom) (i : Slot) (e : Entry) (u : BoomUnit) (x : FlowStage) :
    s.BesideBoom (s.stageStarted b i e u x) b := by
  obtain ⟨a, p, frame⟩ := s.stageStarted_frame b i e u x
  refine ⟨?_, ?_, ?_, ?_, ?_, ?_, ?_⟩
  · rw [State.stageStarted, State.unit_requestStage, State.unit_post, State.unit_setUnit_other]
    rfl
  · rw [State.stageStarted, State.queued_requestStage_other]
    rfl
  · rw [frame]
  · rw [frame]
  · rw [frame]
    rfl
  · rw [frame]
    rfl
  · rw [frame]
    rfl

theorem State.stageStarted_arbiter (dry : u.dry = (s.unit b).dry) : (s.stageStarted b i e u x).arbiter =
    if (s.unit b).dry then s.arbiter else (s.requestFlow (FlowRequest.ofStage b x)).arbiter := by
  rw [State.stageStarted, State.requestStage_arbiter, State.unit_post, State.unit_setUnit_same, dry,
    State.requestFlow_arbiter]
  rfl

theorem State.stageStarted_move {R : PortRights} (stage : .stage b ∈ R.notices) (own : .flow b ∈ R.notices)
    (other : x ≠ .drilling → .flow b.other ∈ R.notices) : s.PortsMove R (s.stageStarted b i e u x) :=
  .trans (.trans (.blocks (.refl R s) (by rfl) (by rfl)) (.post stage ((s.setEntry i (some e)).setUnit b u)))
    (.requestStage own other _)

theorem State.stageStarted_posted (s : State) (b : Boom) (i : Slot) (e : Entry) (u : BoomUnit) (x : FlowStage) :
    (s.stageStarted b i e u x).Posted (.stage b) :=
  (State.PortsMove.requestStage (R := .all) (mem_allPairs _) (fun _ => mem_allPairs _) _).posted (State.post_posted _ _)

/-- What a started stage leaves, beside its own unit. -/
structure State.StageStarted (s t : State) (b : Boom) (i : Slot) (e : Entry) (x : FlowStage) : Prop where
  entry : t.entry i = some e
  others : ∀ j, j ≠ i → t.entry j = s.entry j
  otherUnit : t.unit b.other = s.unit b.other
  followed : t.Followed
  arbiter : t.arbiter = if (s.unit b).dry then s.arbiter else (s.requestFlow (FlowRequest.ofStage b x)).arbiter
  posted : t.Posted (.stage b)
  frame : t = { s with slots := t.slots, units := t.units, arbiter := t.arbiter, ports := t.ports }

theorem State.Followed.stageStarted (h : s.Followed) {f : State → State} (hf : f s = s.stageStarted b i e u x)
    (dry : u.dry = (s.unit b).dry) (still : u.cycle ≠ .torquing) : s.StageStarted (s.acting f) b i e x := by
  have beside : s.BesideBoom (f s) b := hf ▸ s.stageStarted_beside b i e u x
  have engines := beside.acting_engines h (by rw [hf, State.stageStarted_unit]; exact still)
  have entries : ∀ j, (s.acting f).entry j = (s.setEntry i (some e)).entry j := fun j => by
    rw [State.entry_acting, hf, State.stageStarted, State.entry_requestStage]
    rfl
  refine ⟨?_, fun j apart => ?_, beside.acting_unit_other h, s.acting_followed f, ?_, ?_, ?_⟩
  · rw [entries, State.entry_setEntry_same]
  · rw [entries, State.entry_setEntry_ne _ apart]
  · rw [State.acting_arbiter, hf, State.stageStarted_arbiter dry]
  · refine (s.acting_moves f).posted ?_
    rw [hf]
    exact s.stageStarted_posted b i e u x
  · obtain ⟨v, g, q, whole⟩ := s.acting_frame f
    obtain ⟨a, p, frame⟩ := s.stageStarted_frame b i e u x
    rw [whole] at engines ⊢
    rw [show g = s.engines from engines, hf, frame]

/-- The unit of a boom that has come from rest into a stage. -/
theorem State.acting_unit_stage {f : State → State} (held : (f s).isHeld = s.isHeld) :
    (s.acting f).unit b = ((f s).unit b).follow ((s.acting f).unit b).holds s.isHeld := by
  rw [State.acting_unit, held]
  rfl

end

/-! ### Reports -/

section
variable {s : State} {p : Port} {boom : Byte} {b : Boom} {c : CycleState} {f : Boom → State → State}

theorem State.report_state (may : s.MayIssue p boom b) (other : (s.unit b).cycle ≠ c) :
    s.report p boom c f = refuse s .state := by
  unfold State.report
  rw [State.authorised_eq_some.2 may]
  exact if_pos other

theorem State.report_taken (may : s.MayIssue p boom b) (here : (s.unit b).cycle = c) :
    s.report p boom c f = ⟨s.acting (f b), .done, (s.unit b).workSlot⟩ := by
  unfold State.report
  rw [State.authorised_eq_some.2 may]
  exact if_neg (not_not.2 here)

end

/-! ### The two reports -/

section
variable {s : State} {b : Boom} {i : Slot} {e : Entry}

theorem State.startDrilling_eq (claim : s.claimedEntry b = some (i, e)) : State.startDrilling b s = s.stageStarted b i
    { e with
      holeState := .drilling
      result := some (collarResult (1200 + 300 * e.lengthClass - (s.active b).collarAllowance)) }
    { s.unit b with cycle := .drilling, flushCount := 0 } .drilling := by
  unfold State.startDrilling State.stageStarted State.setCycle State.modUnit
  rw [State.updateClaimed_some claim]
  simp only [State.unit_setUnit_same, State.setUnit_setUnit, reduceCtorEq, or_false, if_false]
  rfl

theorem State.startSpin_eq (claim : s.claimedEntry b = some (i, e)) : State.startSpin b s = s.stageStarted b i
    { e with holeState := .bolted, result := e.result.map fun r => { r with spinRevs := some 0 } }
    { s.unit b with cycle := .spinning } .spinning := by
  unfold State.startSpin State.stageStarted State.setCycle State.modUnit
  rw [State.updateClaimed_some claim]
  simp only [reduceCtorEq, or_false, if_false]
  rfl

theorem State.startDrilling_setFrame (s : State) (b : Boom) (p : Port) :
    State.startDrilling b (s.setFrame p .idle) = (State.startDrilling b s).setFrame p .idle := by
  unfold State.startDrilling
  simp only [State.active_setFrame, State.updateClaimed_setFrame, State.modUnit_setFrame, State.setCycle_setFrame_idle,
    State.requestStage_setFrame_idle]

theorem State.startSpin_setFrame (s : State) (b : Boom) (p : Port) :
    State.startSpin b (s.setFrame p .idle) = (State.startSpin b s).setFrame p .idle := by
  unfold State.startSpin
  simp only [State.updateClaimed_setFrame, State.setCycle_setFrame_idle, State.requestStage_setFrame_idle]

/-- The unit of a boom that has come from rest into DRILLING. -/
theorem BoomUnit.follow_drilling {u : BoomUnit} (rest : u.rested = u) (x : Holds) (held : Bool) :
    BoomUnit.follow { u with cycle := .drilling, flushCount := 0 } x held = { u with
      cycle := .drilling, flushCount := 0, holds := x
      feed := (BoomUnit.follow { u with cycle := .drilling, flushCount := 0 } x held).feed
      turn := (BoomUnit.follow { u with cycle := .drilling, flushCount := 0 } x held).turn
      abandonTimer := if x.lane = true then some 0 else none } := by
  have timers : ∀ v : BoomUnit, v.rested.abandonTimer = none ∧ v.rested.spinTimer = none ∧ v.rested.setTimer = none ∧
    v.rested.torqueTimer = .notStarted := fun _ => ⟨rfl, rfl, rfl, rfl⟩
  obtain ⟨abandon, spin, set, torque⟩ := timers u
  rw [rest] at abandon spin set torque
  simp only [BoomUnit.follow, BoomUnit.nextAbandon, BoomUnit.nextSpin, BoomUnit.nextSet, BoomUnit.nextTorque, abandon,
    spin, set, torque, reduceCtorEq, if_false, true_and, Option.getD_none]

/-- The unit of a boom that has come from rest into SPINNING. -/
theorem BoomUnit.follow_spinning {u : BoomUnit} (rest : u.rested = u) (x : Holds) (held : Bool) :
    BoomUnit.follow { u with cycle := .spinning } x held = { u with
      cycle := .spinning, holds := x
      turn := (BoomUnit.follow { u with cycle := .spinning } x held).turn
      spinTimer := if (BoomUnit.follow { u with cycle := .spinning } x held).running then some 0 else none } := by
  have timers : ∀ v : BoomUnit, v.rested.abandonTimer = none ∧ v.rested.spinTimer = none ∧ v.rested.setTimer = none ∧
    v.rested.torqueTimer = .notStarted ∧ v.rested.feed = false := fun _ => ⟨rfl, rfl, rfl, rfl, rfl⟩
  obtain ⟨abandon, spin, set, torque, feed⟩ := timers u
  rw [rest] at abandon spin set torque feed
  cases present : x.present <;>
    simp [BoomUnit.follow, BoomUnit.nextAbandon, BoomUnit.nextSpin, BoomUnit.nextSet, BoomUnit.nextTorque,
      BoomUnit.feedCondition, BoomUnit.running, CycleState.holdable, abandon, spin, set, torque, feed, present]

end

/-- Settles O35: each report starts its stage from a boom at rest. -/
theorem collaredAndBoltInStartStages : Obligations.CollaredAndBoltInStartStages := by
  intro p boom b s takes may
  have collared : exec (.collared p boom) s =
      .next (s.command p .collared fun s => s.report p boom .claimed State.startDrilling) := rfl
  have boltIn : exec (.boltIn p boom) s =
      .next (s.command p .boltIn fun s => s.report p boom .awaitBolt State.startSpin) := rfl
  unfold Answers
  rw [collared, boltIn]
  refine ⟨fun other => ?_, fun i e claimed followed held slot here => ?_, fun other => ?_,
    fun i e await followed held slot here => ?_⟩
  · exact State.command_refused takes (State.report_state (s := s.setFrame p .idle) may other)
  · have eq := State.startDrilling_eq (State.claimedEntry_eq_some.2 ⟨held, slot, here⟩)
    have rest := (followed b).rested_eq (by rw [claimed]; rfl)
    obtain ⟨entry, others, otherUnit, stays, arbiter, posted, frame⟩ :=
      followed.stageStarted (f := State.startDrilling b) eq rfl nofun
    have beside : s.BesideBoom (State.startDrilling b s) b := eq ▸ s.stageStarted_beside b i _ _ _
    have moves : s.PortsMove ⟨[.stage b, .flow b, .permit b], false, false⟩ (s.acting (State.startDrilling b)) :=
      beside.acting_moves followed (eq ▸ State.stageStarted_move (by simp) (by simp) fun k => absurd rfl k)
        fun _ => by simp
    have unit := State.acting_unit_stage (s := s) (b := b) (f := State.startDrilling b) beside.held
    have lane : ((s.acting (State.startDrilling b)).unit b).holds.lane = !s.laneInStep b := by
      rw [(stays b).lane, unit, eq, State.stageStarted_unit, State.laneInStep_acting, beside.laneInStep]
      rfl
    refine ⟨_, congrArg _ (State.command_answered takes _ ?_), entry, others, ?_, otherUnit, stays, arbiter, posted,
      moves.within, moves.kept rfl rfl, frame⟩
    · refine (State.report_taken (s := s.setFrame p .idle) may claimed).trans ?_
      rw [State.acting_setFrame_idle (s.startDrilling_setFrame b p), State.unit_setFrame, slot]
    · have timer : (if ((s.acting (State.startDrilling b)).unit b).holds.lane = true then some 0 else none) =
          if s.laneInStep b then none else some 0 := by
        rw [lane]
        cases s.laneInStep b <;> rfl
      rw [eq, State.stageStarted_unit] at unit
      rw [← timer]
      refine Eq.trans unit ((BoomUnit.follow_drilling rest _ _).trans ?_)
      rw [← unit]
  · exact State.command_refused takes (State.report_state (s := s.setFrame p .idle) may other)
  · have eq := State.startSpin_eq (State.claimedEntry_eq_some.2 ⟨held, slot, here⟩)
    have rest := (followed b).rested_eq (by rw [await]; rfl)
    obtain ⟨entry, others, otherUnit, stays, arbiter, posted, frame⟩ :=
      followed.stageStarted (f := State.startSpin b) eq rfl nofun
    have beside : s.BesideBoom (State.startSpin b s) b := eq ▸ s.stageStarted_beside b i _ _ _
    have unit := State.acting_unit_stage (s := s) (b := b) (f := State.startSpin b) beside.held
    rw [eq, State.stageStarted_unit] at unit
    have spinning : (s.acting (State.startSpin b)).unit b = { s.unit b with
        cycle := .spinning, holds := ((s.acting (State.startSpin b)).unit b).holds
        turn := ((s.acting (State.startSpin b)).unit b).turn
        spinTimer := if ((s.acting (State.startSpin b)).unit b).running then some 0 else none } := by
      refine Eq.trans unit ((BoomUnit.follow_spinning rest _ _).trans ?_)
      rw [← unit]
    have moves : s.PortsMove ⟨[.stage b, .flow .A, .flow .B], false, false⟩ (s.acting (State.startSpin b)) :=
      beside.acting_moves followed
        (eq ▸ State.stageStarted_move (by simp) (by cases b <;> simp) fun _ => by cases b <;> simp [Boom.other])
        fun changed => absurd (by rw [spinning]) changed
    refine ⟨_, congrArg _ (State.command_answered takes _ ?_), entry, others, spinning, otherUnit, stays, arbiter, posted,
      moves.within, moves.kept rfl rfl, frame⟩
    refine (State.report_taken (s := s.setFrame p .idle) may await).trans ?_
    rw [State.acting_setFrame_idle (s.startSpin_setFrame b p), State.unit_setFrame, slot]

end Sys2Proof.Machine

/-! ### DRY ON, DRY OFF, SUSPEND and RESUME -/

namespace Sys2Proof.Machine

open Sys2Proof Sys2Proof.Machine

/-! ### Supervisory commands -/

section
variable {s : State} {boom : Byte} {b : Boom} {run : Boom → Taken}

theorem State.supervise_none (h : 1 < boom.toNat) : s.supervise .C boom run = refuse s .state := by
  unfold State.supervise
  rw [canopyOnly_portC, boomOf_eq_none h]

theorem State.supervise_boom (s : State) (b : Boom) (run : Boom → Taken) : s.supervise .C (boomCode b) run = run b := by
  unfold State.supervise
  rw [canopyOnly_portC, boomOf_boomCode]

end

/-! ### DRY ON and DRY OFF -/

/-- The effects of a taken change of the DRY flag (R66, R83). -/
def State.drySet (s : State) (b : Boom) (x : Bool) : State :=
  (s.modUnit b fun u => { u with dry := x }).setLane b (s.lane b).dryReset

section
variable {s : State} {b : Boom} {x : Bool}

theorem State.setDry_busy (busy : (s.unit b).cycle ≠ .idle) : s.setDry b x = refuse s .state := if_pos busy

theorem State.setDry_same (idle : (s.unit b).cycle = .idle) (same : (s.unit b).dry = x) : s.setDry b x = taken s .done :=
  (if_neg (not_not.2 idle)).trans (if_pos same)

theorem State.setDry_change (idle : (s.unit b).cycle = .idle) (change : (s.unit b).dry ≠ x) :
    s.setDry b x = taken (s.acting fun s => s.drySet b x) .done :=
  (if_neg (not_not.2 idle)).trans (if_neg change)

theorem State.drySet_unit (s : State) (b : Boom) (x : Bool) : (s.drySet b x).unit b = { s.unit b with dry := x } :=
  Pair.get_set_same s.units b _

theorem State.drySet_unit_other (s : State) (b : Boom) (x : Bool) : (s.drySet b x).unit b.other = s.unit b.other :=
  Pair.get_set_other s.units b _

theorem State.drySet_lane (s : State) (b : Boom) (x : Bool) : (s.drySet b x).lane b = (s.lane b).dryReset :=
  Pair.get_set_same s.lanes b _

theorem State.drySet_lane_other (s : State) (b : Boom) (x : Bool) : (s.drySet b x).lane b.other = s.lane b.other :=
  Pair.get_set_other s.lanes b _

theorem State.drySet_laneInStep (s : State) (b : Boom) (x : Bool) : (s.drySet b x).laneInStep b = false := by
  rw [State.laneInStep, State.drySet_lane]
  rfl

theorem State.drySet_laneInStep_other (s : State) (b : Boom) (x : Bool) :
    (s.drySet b x).laneInStep b.other = s.laneInStep b.other := by
  rw [State.laneInStep, State.drySet_lane_other]
  rfl

theorem State.drySet_setFrame (s : State) (b : Boom) (x : Bool) (p : Port) :
    (s.setFrame p .idle).drySet b x = (s.drySet b x).setFrame p .idle := rfl

/-- What a taken change of the DRY flag leaves. -/
structure State.DrySet (s t : State) (b : Boom) (x : Bool) : Prop where
  unit : t.unit b = { s.unit b with dry := x }
  otherUnit : t.unit b.other = s.unit b.other
  lane : t.lane b = (s.lane b).dryReset
  otherLane : t.lane b.other = s.lane b.other
  moves : s.PortsMove ⟨[.lane b], false, false⟩ t
  silent : (s.lane b).health ≠ .inStep → t.ports = s.ports
  frame : t = { s with units := t.units, lanes := t.lanes, ports := t.ports }

theorem State.Followed.drySet (h : s.Followed) (idle : (s.unit b).cycle = .idle) (x : Bool) :
    s.DrySet (s.acting fun s => s.drySet b x) b x := by
  have rest := (h b).rested_eq (by rw [idle]; rfl)
  have still : ((s.drySet b x).unit b).cycle.atRest = true := by
    rw [State.drySet_unit, idle]
    rfl
  have unit : (s.acting fun s => s.drySet b x).unit b = { s.unit b with dry := x } := by
    rw [State.acting_unit_atRest still, State.drySet_unit, ← rest]
    rfl
  have otherUnit : (s.acting fun s => s.drySet b x).unit b.other = s.unit b.other :=
    (h b.other).acting_unit (s.drySet_unit_other b x) rfl rfl (s.drySet_laneInStep_other b x)
  have engines : (s.acting fun s => s.drySet b x).engines = s.engines :=
    State.engines_eq b (State.acting_engine_of_ne (CycleState.ne_torquing_of_atRest still))
      ((h b.other).acting_engine (s.drySet_unit_other b x) rfl rfl (s.drySet_laneInStep_other b x))
  have feeds : ∀ c, ((s.acting fun s => s.drySet b x).unit c).feed = (s.unit c).feed := fun c => by
    rcases Boom.eq_or_eq_other b c with rfl | rfl
    · rw [unit]
    · rw [otherUnit]
  have lanes : ∀ c, s.laneInStep c ≠ (s.drySet b x).laneInStep c → c = b ∧ s.laneInStep b = true := fun c changed => by
    rcases Boom.eq_or_eq_other b c with rfl | rfl
    · rw [State.drySet_laneInStep] at changed
      exact ⟨rfl, Bool.eq_true_of_not_eq_false changed⟩
    · exact absurd (s.drySet_laneInStep_other b x).symm changed
  refine ⟨unit, otherUnit, ?_, ?_, ?_, fun out => ?_, ?_⟩
  · rw [State.lane_acting, State.drySet_lane]
  · rw [State.lane_acting, State.drySet_lane_other]
  · refine .ofActing (.of_ports rfl rfl) (fun c changed => absurd (feeds c) changed) (fun c changed => ?_)
      (fun changed => absurd rfl changed) fun changed => absurd rfl changed
    rw [(lanes c changed).1]
    exact List.mem_singleton.2 rfl
  · have no_fall : s.laneInStep b ≠ true := fun k => out (beq_iff_eq.1 k)
    obtain ⟨u, e, sync⟩ := (s.drySet b x).sync_frame
    have feed : ∀ c, s.feedLine c = (s.drySet b x).sync.feedLine c := fun c => by
      obtain ⟨q, eq⟩ := s.acting_eq fun s => s.drySet b x
      have kept := feeds c
      rw [eq] at kept
      exact kept.symm
    have whole : s.acting (fun s => s.drySet b x) = (s.drySet b x).sync := by
      refine State.offersSince_same feed (fun c => ?_) ?_ ?_
      · rw [sync]
        by_contra changed
        exact no_fall (lanes c changed).2
      · rw [sync]
        rfl
      · rw [sync]
        rfl
    rw [whole, sync]
    rfl
  · obtain ⟨u, g, q, whole⟩ := s.acting_frame fun s => s.drySet b x
    rw [whole] at engines ⊢
    rw [show g = s.engines from engines]
    rfl

end

/-- Settles O40: the two commands are one request for the flag. -/
theorem drySwitched : Obligations.DrySwitched := by
  intro c n boom x s takes which
  have run : exec c s = .next (s.command .C n fun s => s.supervise .C boom fun b => s.setDry b x) := by
    rcases which with ⟨rfl, rfl, rfl⟩ | ⟨rfl, rfl, rfl⟩
    · rfl
    · rfl
  unfold Answers
  rw [run]
  refine ⟨fun none_named => State.command_refused takes (State.supervise_none none_named), ?_⟩
  rintro b rfl
  simp only [State.supervise_boom]
  refine ⟨fun busy => ?_, fun idle same => ?_, fun idle change followed => ?_⟩
  · exact State.command_refused takes (State.setDry_busy (s := s.setFrame .C .idle) busy)
  · exact State.setFrame_idle_answered_done s .C n takes (State.setDry_same (s := s.setFrame .C .idle) idle same)
  · obtain ⟨unit, otherUnit, lane, otherLane, moves, silent, frame⟩ := followed.drySet idle x
    refine ⟨_, congrArg _ (State.command_answered takes _ ?_), unit, otherUnit, lane, otherLane, moves.within, silent,
      moves.kept rfl rfl, frame⟩
    refine (State.setDry_change (s := s.setFrame .C .idle) idle change).trans ?_
    rw [State.acting_setFrame_idle (s.drySet_setFrame b x .C)]
    rfl

end Sys2Proof.Machine

/-! ### SUSPEND and RESUME -/

namespace Sys2Proof.Machine

open Sys2Proof Sys2Proof.Machine

/-! ### The queue after a release -/

section
variable (a : Arbiter) (b : Boom)

theorem Arbiter.topUp_queue : (a.topUp b).queue = a.queue := by
  unfold Arbiter.topUp
  split
  · split <;> rfl
  · rfl

theorem Arbiter.cutDown_queue : (a.cutDown b).queue = a.queue := by
  unfold Arbiter.cutDown
  split
  · split <;> rfl
  · rfl

theorem Arbiter.foldl_queue {f : Arbiter → Boom → Arbiter} (h : ∀ a b, (f a b).queue = a.queue) (l : List Boom) :
    (l.foldl f a).queue = a.queue := by
  induction l generalizing a with
  | nil => rfl
  | cons b l ih => rw [List.foldl_cons, ih, h]

theorem Arbiter.serveQueue_queue (n : Nat) : (a.serveQueue n).queue.Sublist a.queue := by
  induction n generalizing a with
  | zero => exact .refl _
  | succ n ih =>
    unfold Arbiter.serveQueue
    split
    · exact .refl _
    · rename_i r rest queue
      split
      · refine (ih _).trans ?_
        rw [queue]
        exact List.sublist_cons_self r rest
      · exact .refl _

/-- The service pass and a release only take requests off the queue (R153, R154). -/
theorem Arbiter.service_queue : a.service.queue.Sublist a.queue := by
  unfold Arbiter.service
  simp only []
  rw [Arbiter.foldl_queue _ Arbiter.cutDown_queue, Arbiter.foldl_queue _ Arbiter.topUp_queue]
  exact a.serveQueue_queue _

theorem Arbiter.release_queue : (a.release b).queue.Sublist a.queue := by
  unfold Arbiter.release
  split
  · exact (a.withoutGrant b).service_queue
  · split
    · exact (a.withoutPlace b).service_queue.trans List.filter_sublist
    · exact .refl _

end

theorem List.Sublist.any_imp {α : Type} {l m : List α} (h : l.Sublist m) {p : α → Bool} (k : l.any p = true) :
    m.any p = true := by
  obtain ⟨x, hx, px⟩ := List.any_eq_true.1 k
  exact List.any_eq_true.2 ⟨x, h.subset hx, px⟩

/-! ### Engines of held booms -/

/-- A boom that an action leaves held in TORQUING only where it was held there already keeps its engine. -/
theorem State.BoomFollows.acting_engine_kept {s : State} {c : Boom} (h : s.BoomFollows c) {f : State → State}
    (engine : (f s).engine c = s.engine c) (k : ((f s).unit c).cycle = .torquing →
      ((f s).holdConditions c).present = true → (s.unit c).cycle = .torquing ∧ (s.holdConditions c).present = true) :
    (s.acting f).engine c = s.engine c := by
  rw [State.acting_engine, engine]
  split
  · rename_i held
    obtain ⟨torquing, before⟩ := k held.1 held.2
    exact h.dropTorqueRun_eq torquing before
  · rfl

/-- Fewer requests, and all else that the hold set reads the same: what is held now was held before. -/
theorem State.present_of_fewer {s w : State} {c : Boom} (cycle : (w.unit c).cycle = (s.unit c).cycle)
    (torquing : (w.unit c).cycle = .torquing) (lane : w.laneInStep c = s.laneInStep c)
    (queue : w.arbiter.queue.Sublist s.arbiter.queue) (h : (w.holdConditions c).present = true) :
    (s.holdConditions c).present = true := by
  unfold State.holdConditions at h ⊢
  rw [← cycle, torquing, ← lane]
  rw [torquing] at h
  simp only [CycleState.holdable, if_true, Holds.present, Bool.or_eq_true, Bool.not_eq_true', reduceCtorEq,
    Bool.and_eq_true, beq_iff_eq, false_and, or_false] at h ⊢
  exact h.imp_left queue.any_imp

/-! ### SUSPEND -/

/-- The unit of a suspended boom before it is brought in step (R61). -/
def BoomUnit.suspendedAs (u : BoomUnit) (x : StoredState) : BoomUnit :=
  { u with cycle := .suspended, stored := some x, torqueTimer := u.torqueTimer.pause }

section
variable {s : State} {b : Boom} {x : StoredState}

theorem State.suspendBoom_frame (s : State) (b : Boom) (x : StoredState) : ∃ p, State.suspendBoom b x s = { s with
    units := s.units.set b ((s.unit b).suspendedAs x), arbiter := s.arbiter.release b, ports := p
    engines := s.engines.set b (if x = .torquing then (s.engine b).dropTorqueRun else s.engine b) } := by
  have left : ∀ v : State, ∃ p, v.leaveStage b .suspended = { v with
      units := v.units.set b { v.unit b with cycle := .suspended }, arbiter := v.arbiter.release b, ports := p } := by
    intro v
    obtain ⟨a, p, frame⟩ := (v.setCycle b .suspended).releaseFlow_frame b
    have arbiter := (v.setCycle b .suspended).releaseFlow_arbiter b
    rw [frame] at arbiter
    refine ⟨p, frame.trans ?_⟩
    rw [show a = (v.setCycle b .suspended).arbiter.release b from arbiter]
    rfl
  obtain ⟨p, suspended⟩ := left (s.modUnit b fun u => { u with stored := some x, torqueTimer := u.torqueTimer.pause })
  refine ⟨p, ?_⟩
  unfold State.suspendBoom
  rw [suspended]
  cases x <;> cases b <;> rfl

theorem State.suspendBoom_setFrame (s : State) (b : Boom) (x : StoredState) (p : Port) :
    State.suspendBoom b x (s.setFrame p .idle) = (State.suspendBoom b x s).setFrame p .idle := by
  unfold State.suspendBoom
  cases x <;> simp only [State.modUnit_setFrame, State.leaveStage_setFrame_idle, State.engine_setFrame,
    State.setEngine_setFrame]

theorem BoomUnit.follow_suspended (u : BoomUnit) (x : StoredState) (held : Bool) (spin : u.spinTimer = none)
    (set : u.setTimer = none) : (u.suspendedAs x).follow Holds.none held = { u with
      cycle := .suspended, stored := some x, holds := ⟨false, false, false⟩, abandonTimer := none
      torqueTimer := u.torqueTimer.pause, feed := false, turn := false } := by
  simp only [BoomUnit.suspendedAs, BoomUnit.follow, BoomUnit.nextAbandon, BoomUnit.nextSpin, BoomUnit.nextSet,
    BoomUnit.nextTorque, reduceCtorEq, false_and, if_false, spin, set]
  rfl

theorem StoredState.cycle_ne (x : StoredState) : x.cycle ≠ .spinning ∧ x.cycle ≠ .setting ∧ x.cycle ≠ .idle ∧
    x.cycle ≠ .halted ∧ x.cycle ≠ .suspended := by
  cases x <;> decide

/-- What SUSPEND leaves (R61, R146). -/
structure State.Suspended (s t : State) (b : Boom) (x : StoredState) : Prop where
  unit : t.unit b = { s.unit b with
    cycle := .suspended, stored := some x, holds := ⟨false, false, false⟩, abandonTimer := none
    torqueTimer := (s.unit b).torqueTimer.pause, feed := false, turn := false }
  engine : t.engine b = if x = .torquing then (s.engine b).dropTorqueRun else s.engine b
  otherEngine : t.engine b.other = s.engine b.other
  otherUnit : (s.unit b.other).SameWork (t.unit b.other)
  arbiter : t.arbiter = (s.releaseFlow b).arbiter
  posted : t.Posted (.stage b)
  moves : s.PortsMove ⟨[.stage b, .flow .A, .flow .B, .permit .A, .permit .B], false, false⟩ t
  frame : t = { s with units := t.units, engines := t.engines, arbiter := t.arbiter, ports := t.ports }

theorem State.suspendBoom_posted (s : State) (b : Boom) (x : StoredState) :
    (State.suspendBoom b x s).Posted (.stage b) := by
  have left : ∀ v : State, (v.leaveStage b .suspended).Posted (.stage b) := fun v =>
    (State.PortsMove.releaseFlow (R := .all) (fun _ => mem_allPairs _) (v.setCycle b .suspended) b).posted
      (State.post_posted _ _)
  unfold State.suspendBoom
  cases x
  · exact left _
  · exact left _

theorem State.Followed.suspended (h : s.Followed) (here : (s.unit b).cycle = x.cycle) :
    s.Suspended (s.acting (State.suspendBoom b x)) b x := by
  obtain ⟨notSpinning, notSetting, _⟩ := x.cycle_ne
  obtain ⟨p, frame⟩ := s.suspendBoom_frame b x
  have own : (State.suspendBoom b x s).unit b = (s.unit b).suspendedAs x := by
    rw [frame]
    exact Pair.get_set_same s.units b _
  have other : (State.suspendBoom b x s).unit b.other = s.unit b.other := by
    rw [frame]
    exact Pair.get_set_other s.units b _
  have quiet : (State.suspendBoom b x s).holdConditions b = Holds.none := if_neg (by rw [own]; nofun)
  refine ⟨?_, ?_, ?_, ?_, ?_, ?_, ?_, ?_⟩
  · rw [State.acting_unit, own, quiet]
    exact BoomUnit.follow_suspended _ x _ ((h b).spin (here ▸ notSpinning)) ((h b).set (here ▸ notSetting))
  · rw [State.acting_engine_of_ne (by rw [own]; nofun), frame]
    exact Pair.get_set_same s.engines b _
  · refine (h b.other).acting_engine_kept ?_ fun torquing present => ⟨other ▸ torquing, ?_⟩
    · rw [frame]
      exact Pair.get_set_other s.engines b _
    · refine State.present_of_fewer (by rw [other]) torquing (by rw [frame]; rfl) ?_ present
      rw [frame]
      exact s.arbiter.release_queue b
  · rw [State.acting_unit, other]
    exact BoomUnit.follow_sameWork _ _ _
  · rw [State.acting_arbiter, frame, State.releaseFlow_arbiter]
  · exact (s.acting_moves _).posted (s.suspendBoom_posted b x)
  · refine .ofActing ?_ (fun c _ => by cases c <;> simp) (fun c changed => absurd ?_ changed)
      (fun changed => absurd ?_ changed) fun changed => absurd ?_ changed
    · unfold State.suspendBoom
      have left : ∀ v : State, s.PortsMove ⟨[.stage b, .flow .A, .flow .B, .permit .A, .permit .B], false, false⟩ v →
          s.PortsMove ⟨[.stage b, .flow .A, .flow .B, .permit .A, .permit .B], false, false⟩
            (v.leaveStage b .suspended) := fun v k =>
        k.trans (.leaveStage (by simp) (fun c => by cases c <;> simp) v _)
      cases x
      · exact left _ (.of_ports rfl rfl)
      · exact (left (s.modUnit b fun u => { u with stored := some .torquing, torqueTimer := u.torqueTimer.pause })
          (.of_ports rfl rfl)).blocks (by rfl) (by rfl)
    · rw [frame]
      rfl
    · rw [frame]
      rfl
    · rw [frame]
      rfl
  · obtain ⟨u, g, q, whole⟩ := s.acting_frame (State.suspendBoom b x)
    rw [whole, frame]

end

/-! ### RESUME -/

/-- The unit of a resumed boom before it is brought in step (R63). -/
def BoomUnit.resumedTo (u : BoomUnit) (x : StoredState) : BoomUnit :=
  { u with cycle := x.cycle, stored := none, torqueTimer := u.torqueTimer.goOn }

section
variable {s : State} {b : Boom} {x : StoredState}

theorem State.resumeBoom_eq (s : State) (b : Boom) (x : StoredState) : State.resumeBoom b x s =
    ((s.setUnit b ((s.unit b).resumedTo x)).post (.stage b)).requestStage b x.flowStage := by
  obtain ⟨_, _, idle, halted, _⟩ := x.cycle_ne
  unfold State.resumeBoom State.setCycle State.modUnit
  simp only [State.unit_setUnit_same, State.setUnit_setUnit, idle, halted, or_false, if_false]
  rfl

theorem State.resumeBoom_frame (s : State) (b : Boom) (x : StoredState) : ∃ a p, State.resumeBoom b x s =
    { s with units := s.units.set b ((s.unit b).resumedTo x), arbiter := a, ports := p } := by
  obtain ⟨a, p, frame⟩ := ((s.setUnit b ((s.unit b).resumedTo x)).post (.stage b)).requestStage_frame b x.flowStage
  exact ⟨a, p, (s.resumeBoom_eq b x).trans frame⟩

theorem State.resumeBoom_setFrame (s : State) (b : Boom) (x : StoredState) (p : Port) :
    State.resumeBoom b x (s.setFrame p .idle) = (State.resumeBoom b x s).setFrame p .idle := by
  unfold State.resumeBoom
  simp only [State.modUnit_setFrame, State.setCycle_setFrame_idle, State.requestStage_setFrame_idle]

theorem State.resumeBoom_beside (s : State) (b : Boom) (x : StoredState) :
    s.BesideBoom (State.resumeBoom b x s) b := by
  obtain ⟨a, p, frame⟩ := s.resumeBoom_frame b x
  refine ⟨?_, ?_, ?_, ?_, ?_, ?_, ?_⟩
  · rw [frame]
    exact Pair.get_set_other s.units b _
  · rw [State.resumeBoom_eq, State.queued_requestStage_other]
    rfl
  · rw [frame]
  · rw [frame]
  · rw [frame]
    rfl
  · rw [frame]
    rfl
  · rw [frame]
    rfl

theorem BoomUnit.follow_resumed (u : BoomUnit) (x : StoredState) (h : Holds) (held : Bool)
    (abandon : u.abandonTimer = none) (spin : u.spinTimer = none) (set : u.setTimer = none) :
    (u.resumedTo x).follow h held = { u with
      cycle := x.cycle, stored := none, holds := h
      torqueTimer := ((u.resumedTo x).follow h held).torqueTimer
      abandonTimer := if x = .drilling ∧ h.lane = true then some 0 else none
      feed := ((u.resumedTo x).follow h held).feed, turn := ((u.resumedTo x).follow h held).turn } := by
  have drilling : x.cycle = .drilling ↔ x = .drilling := by cases x <;> decide
  obtain ⟨notSpinning, notSetting, _⟩ := x.cycle_ne
  simp only [BoomUnit.resumedTo, BoomUnit.follow, BoomUnit.nextAbandon, BoomUnit.nextSpin, BoomUnit.nextSet, abandon,
    spin, set, drilling, notSpinning, notSetting, if_false, Option.getD_none]

/-- What RESUME leaves (R63). -/
structure State.Resumed (s t : State) (b : Boom) (x : StoredState) : Prop where
  unit : t.unit b = { s.unit b with
    cycle := x.cycle, stored := none, holds := (t.unit b).holds, torqueTimer := (t.unit b).torqueTimer
    abandonTimer := if x = .drilling ∧ s.laneInStep b = false then some 0 else none
    feed := (t.unit b).feed, turn := (t.unit b).turn }
  goesOn : x = .torquing → ∀ n, (s.unit b).torqueTimer = .paused n → (t.unit b).torqueTimer = .running n
  engine : t.engine b = if x = .torquing ∧ (t.unit b).holds.present = true then (s.engine b).dropTorqueRun
    else s.engine b
  otherEngine : t.engine b.other = s.engine b.other
  otherUnit : t.unit b.other = s.unit b.other
  arbiter : t.arbiter = if (s.unit b).dry then s.arbiter else
    (s.requestFlow (FlowRequest.ofStage b x.flowStage)).arbiter
  posted : t.Posted (.stage b)
  moves : s.PortsMove ⟨[.stage b, .flow .A, .flow .B, .permit b], false, false⟩ t
  frame : t = { s with units := t.units, engines := t.engines, arbiter := t.arbiter, ports := t.ports }

theorem State.Followed.resumed (h : s.Followed) (here : (s.unit b).cycle = .suspended) :
    s.Resumed (s.acting (State.resumeBoom b x)) b x := by
  obtain ⟨a, p, frame⟩ := s.resumeBoom_frame b x
  have beside := s.resumeBoom_beside b x
  have own : (State.resumeBoom b x s).unit b = (s.unit b).resumedTo x := by
    rw [frame]
    exact Pair.get_set_same s.units b _
  have unit := State.acting_unit_stage (s := s) (b := b) (f := State.resumeBoom b x) beside.held
  rw [own] at unit
  have abandon : (s.unit b).abandonTimer = none :=
    Option.not_isSome_iff_eq_none.1 (by rw [(h b).abandon, here]; nofun)
  have stays := s.acting_followed (State.resumeBoom b x)
  have lane : x = .drilling → ((s.acting (State.resumeBoom b x)).unit b).holds.lane = !s.laneInStep b := by
    rintro rfl
    rw [(stays b).lane, unit, State.laneInStep_acting, beside.laneInStep]
    rfl
  refine ⟨?_, ?_, ?_, ?_, beside.acting_unit_other h, ?_, ?_, ?_, ?_⟩
  · have timer : (if x = .drilling ∧ ((s.acting (State.resumeBoom b x)).unit b).holds.lane = true then some 0 else none) =
        if x = .drilling ∧ s.laneInStep b = false then some 0 else none := by
      refine if_congr (and_congr_right fun drilling => ?_) rfl rfl
      rw [lane drilling, Bool.not_eq_true']
    rw [← timer]
    refine Eq.trans unit ((BoomUnit.follow_resumed _ x _ _ abandon ((h b).spin (by rw [here]; nofun))
      ((h b).set (by rw [here]; nofun))).trans ?_)
    rw [← unit]
  · rintro rfl n paused
    rw [unit]
    simp only [BoomUnit.resumedTo, BoomUnit.follow, BoomUnit.nextTorque, StoredState.cycle, paused, TorqueTimer.goOn]
  · have torquing : x.cycle = .torquing ↔ x = .torquing := by cases x <;> decide
    have holds : ((s.acting (State.resumeBoom b x)).unit b).holds = (State.resumeBoom b x s).holdConditions b := by
      rw [State.acting_unit]
      rfl
    have engine : (State.resumeBoom b x s).engine b = s.engine b := by
      rw [frame]
      rfl
    rw [State.acting_engine, own, holds, engine]
    exact if_congr (and_congr_left' torquing) rfl rfl
  · exact (h b.other).acting_engine beside.unit (by rw [frame]; rfl) beside.queue (beside.laneInStep _)
  · rw [State.acting_arbiter, State.resumeBoom_eq, State.requestStage_arbiter, State.unit_post, State.unit_setUnit_same,
      State.requestFlow_arbiter]
    rfl
  · refine (s.acting_moves _).posted ?_
    rw [State.resumeBoom_eq]
    exact (State.PortsMove.requestStage (R := .all) (mem_allPairs _) (fun _ => mem_allPairs _) _).posted
      (State.post_posted _ _)
  · refine beside.acting_moves h ?_ fun _ => by simp
    rw [State.resumeBoom_eq]
    exact .trans (.trans (.blocks (.refl _ s) (by rfl) (by rfl)) (.post (by simp) (s.setUnit b _)))
      (.requestStage (by cases b <;> simp) (fun _ => by cases b <;> simp [Boom.other]) _)
  · obtain ⟨u, g, q, whole⟩ := s.acting_frame (State.resumeBoom b x)
    rw [whole, frame]

end

/-! ### The commands -/

theorem CycleState.suspendable_of (x : StoredState) : x.cycle.suspendable = some x := by cases x <;> rfl

theorem CycleState.suspendable_none {c : CycleState} (drilling : c ≠ .drilling) (torquing : c ≠ .torquing) :
    c.suspendable = none := by
  cases h : c.suspendable with
  | none => rfl
  | some x =>
    rcases CycleState.suspendable_cases h with ⟨k, _⟩ | ⟨k, _⟩
    · exact absurd k drilling
    · exact absurd k torquing

theorem exec_suspend (boom : Byte) (s : State) : exec (.suspend .C boom) s =
    .next (s.command .C .suspend fun s => s.supervise .C boom fun b =>
      match (s.unit b).cycle.suspendable with
      | none => refuse s .state
      | some x => ⟨s.acting (State.suspendBoom b x), .done, (s.unit b).workSlot⟩) := rfl

theorem exec_resume (boom : Byte) (s : State) : exec (.resume .C boom) s =
    .next (s.command .C .resume fun s => s.supervise .C boom fun b =>
      match (s.unit b).cycle, (s.unit b).stored with
      | .suspended, some x => taken (s.acting (State.resumeBoom b x)) .done
      | _, _ => refuse s .state) := rfl

/-- Settles O38: the boom that the byte names is suspended from its stage and resumed to it. -/
theorem suspendedAndResumed : Obligations.SuspendedAndResumed := by
  intro boom s takes
  unfold Answers
  rw [exec_suspend, exec_resume]
  refine ⟨fun none_named => ⟨State.command_refused takes (State.supervise_none none_named),
    State.command_refused takes (State.supervise_none none_named)⟩, ?_⟩
  rintro b rfl
  simp only [State.supervise_boom]
  refine ⟨fun drilling torquing => ?_, fun other => ?_, fun x here followed => ?_, fun x here stored followed => ?_⟩
  · refine State.command_refused takes ?_
    simp only [State.unit_setFrame, CycleState.suspendable_none drilling torquing]
  · refine State.command_refused takes ?_
    rw [State.unit_setFrame]
    split
    · rename_i cycle _
      exact absurd cycle other
    · rfl
  · obtain ⟨unit, engine, otherEngine, otherUnit, arbiter, posted, moves, frame⟩ := followed.suspended here
    refine ⟨_, congrArg _ (State.command_answered takes _ ?_), unit, engine, otherEngine, otherUnit,
      s.acting_followed _, arbiter, posted, moves.within, moves.kept rfl rfl, frame⟩
    simp only [State.unit_setFrame, here, CycleState.suspendable_of,
      State.acting_setFrame_idle (s.suspendBoom_setFrame b x .C)]
  · obtain ⟨unit, goesOn, engine, otherEngine, otherUnit, arbiter, posted, moves, frame⟩ := followed.resumed (x := x) here
    refine ⟨_, congrArg _ (State.command_answered takes _ ?_), unit, goesOn, engine, otherEngine, otherUnit,
      s.acting_followed _, ?_, posted, moves.within, moves.kept rfl rfl, frame⟩
    · simp only [State.unit_setFrame, here, stored, State.acting_setFrame_idle (s.resumeBoom_setFrame b x .C)]
      rfl
    · rw [arbiter]
      cases x <;> rfl

end Sys2Proof.Machine

/-! ### Flow requests and DERATE -/

namespace Sys2Proof.Machine

open Sys2Proof Sys2Proof.Machine

/-! ### A request judged -/

section
variable {s : State} {r : FlowRequest}

theorem State.requestFlow_behind (h : s.arbiter.queue ≠ []) :
    s.requestFlow r = s.setArbiter { s.arbiter with queue := s.arbiter.queue ++ [r] } := by
  unfold State.requestFlow
  split
  · rename_i empty
    exact absurd empty h
  · rfl

theorem State.requestFlow_alone (h : s.arbiter.queue = []) : s.requestFlow r =
    (s.judgeRequest r).getD (s.setArbiter { s.arbiter with queue := [r] }) := by
  unfold State.requestFlow
  simp only [h]
  cases s.judgeRequest r <;> rfl

theorem State.judgeRequest_whole (h : r.demand ≤ s.arbiter.available) :
    s.judgeRequest r = some (s.giveFlow r r.demand) := if_pos h

theorem State.judgeRequest_degraded (short : s.arbiter.available < r.demand) (drilling : r.stage = .drilling)
    (least : r.minimum ≤ s.arbiter.available) : s.judgeRequest r = some (s.giveFlow r s.arbiter.available) :=
  (if_neg (Nat.not_le.2 short)).trans (if_pos ⟨beq_iff_eq.2 drilling, least⟩)

/-- Where the request is not granted out of the available flow, the other boom's grant decides (R151 step 4). -/
theorem State.judgeRequest_short (short : s.arbiter.available < r.demand)
    (least : r.stage = .drilling → s.arbiter.available < r.minimum) : s.judgeRequest r =
      match s.arbiter.cuttable r with
      | some g => some (((s.setArbiter { s.arbiter with
          grants := s.arbiter.grants.set r.boom.other (some (g.cut (r.demand - s.arbiter.available))) }).post
            (.flow r.boom.other)).giveFlow r r.demand)
      | none => none := by
  unfold State.judgeRequest
  simp only [if_neg (Nat.not_le.2 short)]
  refine if_neg fun k => ?_
  exact absurd (least (beq_iff_eq.1 k.1)) (Nat.not_lt.2 k.2)

theorem Arbiter.cuttable_eq {a : Arbiter} {g : FlowGrant} (h : a.grants.get r.boom.other = some g)
    (fixed : r.stage ≠ .drilling) (drilling : g.stage = .drilling) : a.cuttable r =
      if r.demand - a.available ≤ g.amount - g.minimum then some g else none := by
  unfold Arbiter.cuttable
  rw [h]
  simp only [ne_eq, fixed, not_false_eq_true, drilling, true_and]

theorem Arbiter.cuttable_none {a : Arbiter}
    (h : r.stage ≠ .drilling → ∀ g, a.grants.get r.boom.other = some g → g.stage ≠ .drilling) :
    a.cuttable r = none := by
  unfold Arbiter.cuttable
  split
  · rename_i g grant
    exact if_neg fun k => h k.1 g grant k.2.1
  · rfl

theorem State.giveFlow_move (s : State) (r : FlowRequest) (n : Nat) :
    s.PortsMove ⟨[.flow r.boom], false, false⟩ (s.giveFlow r n) :=
  .trans (.of_ports (t := s.setArbiter (s.arbiter.give r n)) rfl rfl) (.post (List.mem_singleton.2 rfl) _)

end

/-- Settles O44: the steps of R151 in their order. -/
theorem flowRequestJudged : Obligations.FlowRequestJudged := by
  intro s r
  refine ⟨?_, State.requestFlow_behind, fun alone room => ?_, fun alone short drilling least => ?_,
    fun g alone short fixed grant drilling => ⟨fun room => ?_, fun tight => ?_⟩, fun alone short least other => ?_⟩
  · obtain ⟨a, p, frame⟩ := s.requestFlow_frame r
    rw [frame]
  · have given : s.requestFlow r = s.giveFlow r r.demand := by
      rw [State.requestFlow_alone alone, State.judgeRequest_whole room]
      rfl
    rw [given]
    refine ⟨?_, State.post_posted _ _, (s.giveFlow_move r _).within⟩
    show s.arbiter.give r r.demand = _
    unfold Arbiter.give FlowRequest.granted
    rw [decide_eq_false (lt_irrefl r.demand)]
  · have given : s.requestFlow r = s.giveFlow r s.arbiter.available := by
      rw [State.requestFlow_alone alone, State.judgeRequest_degraded short drilling least]
      rfl
    rw [given]
    refine ⟨?_, State.post_posted _ _, (s.giveFlow_move r _).within⟩
    show s.arbiter.give r s.arbiter.available = _
    unfold Arbiter.give FlowRequest.granted
    rw [drilling, decide_eq_true short, if_pos rfl]
  · have given : s.requestFlow r = ((s.setArbiter { s.arbiter with
        grants := s.arbiter.grants.set r.boom.other (some (g.cut (r.demand - s.arbiter.available))) }).post
          (.flow r.boom.other)).giveFlow r r.demand := by
      rw [State.requestFlow_alone alone, State.judgeRequest_short short fun k => absurd k fixed,
        Arbiter.cuttable_eq grant fixed drilling, if_pos room]
      rfl
    rw [given]
    have cut : s.PortsMove ⟨[.flow r.boom, .flow r.boom.other], false, false⟩ ((s.setArbiter { s.arbiter with
        grants := s.arbiter.grants.set r.boom.other (some (g.cut (r.demand - s.arbiter.available))) }).post
          (.flow r.boom.other)) :=
      .trans (.of_ports (t := s.setArbiter { s.arbiter with
        grants := s.arbiter.grants.set r.boom.other (some (g.cut (r.demand - s.arbiter.available))) }) rfl rfl)
        (.post (by simp) _)
    have gives := State.PortsMove.giveFlow (R := ⟨[.flow r.boom, .flow r.boom.other], false, false⟩) (r := r) (by simp)
      ((s.setArbiter { s.arbiter with
        grants := s.arbiter.grants.set r.boom.other (some (g.cut (r.demand - s.arbiter.available))) }).post
          (.flow r.boom.other)) r.demand
    refine ⟨?_, State.post_posted _ _, gives.posted (State.post_posted _ _), (cut.trans gives).within⟩
    show Arbiter.give _ r r.demand = _
    unfold Arbiter.give FlowRequest.granted
    rw [decide_eq_false (lt_irrefl r.demand), if_neg fixed]
    rfl
  · rw [State.requestFlow_alone alone, State.judgeRequest_short short fun k => absurd k fixed,
      Arbiter.cuttable_eq grant fixed drilling, if_neg (Nat.not_le.2 tight)]
    rfl
  · rw [State.requestFlow_alone alone, State.judgeRequest_short short least, Arbiter.cuttable_none other]
    rfl

/-! ### Two DRILLING grants -/

section
variable {a : Arbiter} {x : Boom} {g h : FlowGrant}

/-- The arbiter with two amounts, for the DRILLING grants `g` and `h` of the two booms. -/
def Arbiter.amounts (a : Arbiter) (x : Boom) (g h : FlowGrant) (m n : Nat) : Arbiter :=
  (a.regrant x (g.withAmount m)).regrant x.other (h.withAmount n)

theorem Arbiter.amounts_get (m n : Nat) : (a.amounts x g h m n).grants.get x = some (g.withAmount m) :=
  (Pair.get_set _ _ _ _).trans ((if_neg (Boom.ne_other x)).trans (Pair.get_set_same _ _ _))

theorem Arbiter.amounts_get_other (m n : Nat) : (a.amounts x g h m n).grants.get x.other = some (h.withAmount n) :=
  Pair.get_set_same _ _ _

theorem Arbiter.amounts_total (m n : Nat) : (a.amounts x g h m n).total = m + n := by
  rw [Arbiter.total_eq _ x, Arbiter.amounts_get, Arbiter.amounts_get_other]
  rfl

theorem Arbiter.amounts_capacity (hg : g.stage = .drilling) (hh : h.stage = .drilling) (m n : Nat) :
    (a.amounts x g h m n).capacity = max a.derate 0 := by
  unfold Arbiter.capacity
  rw [Arbiter.fixedSum_eq _ x, Arbiter.amounts_get, Arbiter.amounts_get_other]
  simp only [fixedAmount, FlowGrant.withAmount, hg, hh, if_true]
  rfl

theorem Arbiter.regrant_amounts (m n k : Nat) :
    (a.amounts x g h m n).regrant x (g.withAmount k) = a.amounts x g h k n := by
  unfold Arbiter.amounts Arbiter.regrant
  cases x <;> rfl

theorem Arbiter.regrant_amounts_other (m n k : Nat) :
    (a.amounts x g h m n).regrant x.other (h.withAmount k) = a.amounts x g h m k := by
  unfold Arbiter.amounts Arbiter.regrant
  cases x <;> rfl

/-- The raise of a grant that has `m`, with `k` above it in all (R154 step 2). -/
def raised (a : Arbiter) (g : FlowGrant) (m total : Nat) : Nat := m + min (g.demand - m) (a.derate - total)

/-- The cut of a grant that has `m` (R154 step 3). -/
def cutTo (a : Arbiter) (g : FlowGrant) (m total : Nat) : Nat := m - min (total - a.derate) (m - g.minimum)

theorem raised_bounds {m total : Nat} (hm : m ≤ g.demand) : m ≤ raised a g m total ∧ raised a g m total ≤ g.demand := by
  unfold raised
  omega

section
variable (hg : g.stage = .drilling) (hh : h.stage = .drilling) {m n : Nat}
include hg hh

theorem Arbiter.topUp_amounts (least : g.minimum ≤ m) (most : m ≤ g.demand) :
    (a.amounts x g h m n).topUp x = a.amounts x g h (raised a g m (m + n)) n := by
  rw [Arbiter.topUp_eq (Arbiter.amounts_get m n) (FlowGrant.Fits.withAmount least most), Arbiter.available,
    Arbiter.amounts_capacity hg hh, Arbiter.amounts_total, Nat.max_zero]
  exact Arbiter.regrant_amounts m n _

theorem Arbiter.topUp_amounts_other (least : h.minimum ≤ n) (most : n ≤ h.demand) :
    (a.amounts x g h m n).topUp x.other = a.amounts x g h m (raised a h n (m + n)) := by
  rw [Arbiter.topUp_eq (Arbiter.amounts_get_other m n) (FlowGrant.Fits.withAmount least most), Arbiter.available,
    Arbiter.amounts_capacity hg hh, Arbiter.amounts_total, Nat.max_zero]
  exact Arbiter.regrant_amounts_other m n _

theorem Arbiter.cutDown_amounts (least : g.minimum ≤ m) (most : m ≤ g.demand) :
    (a.amounts x g h m n).cutDown x = a.amounts x g h (cutTo a g m (m + n)) n := by
  rw [Arbiter.cutDown_eq (Arbiter.amounts_get m n) (FlowGrant.Fits.withAmount least most),
    Arbiter.amounts_capacity hg hh, Arbiter.amounts_total, Nat.max_zero]
  exact Arbiter.regrant_amounts m n _

theorem Arbiter.cutDown_amounts_other (least : h.minimum ≤ n) (most : n ≤ h.demand) :
    (a.amounts x g h m n).cutDown x.other = a.amounts x g h m (cutTo a h n (m + n)) := by
  rw [Arbiter.cutDown_eq (Arbiter.amounts_get_other m n) (FlowGrant.Fits.withAmount least most),
    Arbiter.amounts_capacity hg hh, Arbiter.amounts_total, Nat.max_zero]
  exact Arbiter.regrant_amounts_other m n _

/-- The service pass over two DRILLING grants, the boom `x` the older: both raised, `x` first, and both cut, `x` last. -/
theorem Arbiter.service_amounts (queue : a.queue = []) (order : a.order = [x, x.other]) (gx : a.grants.get x = some g)
    (gy : a.grants.get x.other = some h) (gFits : g.Fits) (hFits : h.Fits) : ∃ m n,
    a.service = a.amounts x g h m n ∧
    (a.total ≤ a.capacity → m = g.amount + min (g.demand - g.amount) a.available ∧
      n = h.amount + min (h.demand - h.amount) (a.available - (m - g.amount))) ∧
    (a.capacity < a.total → n = h.amount - min (a.total - a.capacity) (h.amount - h.minimum) ∧
      m = g.amount - min (a.total - a.capacity - (h.amount - n)) (g.amount - g.minimum)) := by
  have start : a.amounts x g h g.amount h.amount = a := by
    unfold Arbiter.amounts
    rw [gFits.withAmount_self, hFits.withAmount_self, Arbiter.regrant_self gx, Arbiter.regrant_self gy]
  have capacity : a.capacity = a.derate := by
    rw [← start, Arbiter.amounts_capacity hg hh, Nat.max_zero]
    rfl
  have total : a.total = g.amount + h.amount := by
    rw [← start, Arbiter.amounts_total]
  have gBounds := raised_bounds (a := a) (total := g.amount + h.amount) gFits.most
  have hBounds := raised_bounds (a := a) (total := raised a g g.amount (g.amount + h.amount) + h.amount) hFits.most
  have gLeast := gFits.least
  have hLeast := hFits.least
  have raise : [x, x.other].foldl Arbiter.topUp a = a.amounts x g h (raised a g g.amount (g.amount + h.amount))
      (raised a h h.amount (raised a g g.amount (g.amount + h.amount) + h.amount)) := by
    conv_lhs => rw [← start]
    rw [List.foldl_cons, List.foldl_cons, List.foldl_nil, Arbiter.topUp_amounts hg hh gLeast gFits.most,
      Arbiter.topUp_amounts_other hg hh hLeast hFits.most]
  have served : a.serveQueue a.queue.length = a := by
    rw [queue]
    rfl
  generalize hm : raised a g g.amount (g.amount + h.amount) = m at gBounds hBounds raise
  generalize hn : raised a h h.amount (m + h.amount) = n at hBounds raise
  refine ⟨cutTo a g m (m + cutTo a h n (m + n)), cutTo a h n (m + n), ?_, fun within => ?_, fun above => ?_⟩
  · have kept : (a.amounts x g h m n).order = [x, x.other] := order
    unfold Arbiter.service
    simp only [served, order, raise, kept]
    rw [List.reverse_cons, List.reverse_cons, List.reverse_nil, List.nil_append, List.cons_append, List.nil_append,
      List.foldl_cons, List.foldl_cons, List.foldl_nil,
      Arbiter.cutDown_amounts_other hg hh (le_trans hLeast hBounds.1) hBounds.2,
      Arbiter.cutDown_amounts hg hh (le_trans gLeast gBounds.1) gBounds.2]
  · have most := gFits.most
    have mostH := hFits.most
    unfold raised at hm hn
    unfold Arbiter.available cutTo
    rw [capacity, total] at within ⊢
    omega
  · unfold raised at hm hn
    unfold cutTo
    rw [capacity, total] at above ⊢
    omega

end

end

/-! ### The notices of the pass -/

/-- A change of the arbiter that posts FLOW of the boom where it changes that boom's grant. -/
def State.FlowNoted (s t : State) (b : Boom) : Prop :=
  s.PortsMove .all t ∧ (t.arbiter.grants.get b = s.arbiter.grants.get b ∨ t.Posted (.flow b))

theorem State.FlowNoted.trans {s t u : State} {b : Boom} (h : s.FlowNoted t b) (k : t.FlowNoted u b) :
    s.FlowNoted u b := by
  refine ⟨h.1.trans k.1, ?_⟩
  rcases k.2 with same | posted
  · exact h.2.imp same.trans k.1.posted
  · exact .inr posted

/-- A grant set, with its FLOW notice. -/
theorem State.FlowNoted.regrant (s : State) (c b : Boom) (g : Option FlowGrant) :
    s.FlowNoted ((s.setArbiter { s.arbiter with grants := s.arbiter.grants.set c g }).post (.flow c)) b := by
  refine ⟨.trans (.of_ports (t := s.setArbiter { s.arbiter with grants := s.arbiter.grants.set c g }) rfl rfl)
    (.post (mem_allPairs _) _), ?_⟩
  by_cases own : b = c
  · exact .inr (own ▸ State.post_posted _ _)
  · exact .inl ((Pair.get_set _ _ _ _).trans (if_neg own))

theorem State.FlowNoted.topUp (s : State) (c b : Boom) : s.FlowNoted (s.topUp c) b := by
  unfold State.topUp
  split
  · simp only []
    split
    · exact .regrant s c b _
    · exact ⟨.refl _ s, .inl rfl⟩
  · exact ⟨.refl _ s, .inl rfl⟩

theorem State.FlowNoted.cutDown (s : State) (c b : Boom) : s.FlowNoted (s.cutDown c) b := by
  unfold State.cutDown
  split
  · simp only []
    split
    · exact .regrant s c b _
    · exact ⟨.refl _ s, .inl rfl⟩
  · exact ⟨.refl _ s, .inl rfl⟩

theorem State.FlowNoted.fold {f : State → Boom → State} {b : Boom} (h : ∀ (s : State) c, s.FlowNoted (f s c) b) (l : List Boom)
    (s : State) : s.FlowNoted (l.foldl f s) b := by
  induction l generalizing s with
  | nil => exact ⟨.refl _ s, .inl rfl⟩
  | cons c l ih => exact (h s c).trans (ih _)

/-- A service pass without a queue posts FLOW of each boom whose grant it changes (R154). -/
theorem State.FlowNoted.servicePass {s : State} (queue : s.arbiter.queue = []) (b : Boom) :
    s.FlowNoted s.servicePass b := by
  have served : s.serveFlowQueue s.arbiter.queue.length = s := by
    rw [queue]
    rfl
  unfold State.servicePass
  simp only [served]
  exact (FlowNoted.fold (fun s c => .topUp s c b) _ _).trans (FlowNoted.fold (fun s c => .cutDown s c b) _ _)

theorem State.FlowNoted.posted {s t : State} {b : Boom} (h : s.FlowNoted t b) {g k : FlowGrant}
    (before : s.arbiter.grants.get b = some g) (after : t.arbiter.grants.get b = some k) (change : k.amount ≠ g.amount) :
    t.Posted (.flow b) :=
  h.2.resolve_left fun same => change (by
    obtain rfl := Option.some.inj (after.symm.trans (same.trans before))
    rfl)

/-! ### The derate target -/

section
variable (a : Arbiter)

theorem Arbiter.topUp_derate (b : Boom) : (a.topUp b).derate = a.derate := by
  unfold Arbiter.topUp
  split
  · split <;> rfl
  · rfl

theorem Arbiter.cutDown_derate (b : Boom) : (a.cutDown b).derate = a.derate := by
  unfold Arbiter.cutDown
  split
  · split <;> rfl
  · rfl

theorem Arbiter.judge_derate {r : FlowRequest} {t : Arbiter} (h : a.judge r = some t) : t.derate = a.derate := by
  unfold Arbiter.judge at h
  split at h
  · exact (congrArg Arbiter.derate (Option.some.inj h)).symm
  · split at h
    · exact (congrArg Arbiter.derate (Option.some.inj h)).symm
    · split at h
      · exact (congrArg Arbiter.derate (Option.some.inj h)).symm
      · exact absurd h nofun

theorem Arbiter.serveQueue_derate (n : Nat) : (a.serveQueue n).derate = a.derate := by
  induction n generalizing a with
  | zero => rfl
  | succ n ih =>
    unfold Arbiter.serveQueue
    split
    · rfl
    · split
      · rename_i t given
        exact (ih _).trans (Arbiter.judge_derate (t := t) a given)
      · rfl

theorem Arbiter.foldl_derate {f : Arbiter → Boom → Arbiter} (h : ∀ a b, (f a b).derate = a.derate) (l : List Boom) :
    (l.foldl f a).derate = a.derate := by
  induction l generalizing a with
  | nil => rfl
  | cons b l ih => rw [List.foldl_cons, ih, h]

theorem Arbiter.service_derate : a.service.derate = a.derate := by
  unfold Arbiter.service
  simp only []
  rw [Arbiter.foldl_derate _ Arbiter.cutDown_derate, Arbiter.foldl_derate _ Arbiter.topUp_derate,
    Arbiter.serveQueue_derate]

end

/-! ### DERATE -/

/-- The effects of a taken DERATE (R155). -/
def State.derated (s : State) (d : Nat) : State := (s.setArbiter { s.arbiter with derate := d }).servicePass

theorem exec_derate (x : Byte) (s : State) : exec (.derate .C x) s = .next (s.command .C .derate fun s =>
    if x.toNat = s.arbiter.derate then taken s .done
    else
      taken (s.acting fun s => (s.setArbiter { s.arbiter with derate := s.arbiter.derateTo x.toNat }).servicePass)
        (doneOr (s.arbiter.derateTo x.toNat != x.toNat))) := rfl

section
variable {s : State} (d : Nat)

theorem State.derated_frame (s : State) (d : Nat) : ∃ p, s.derated d =
    { s with arbiter := (s.arbiter.withDerate d).service, ports := p } := by
  obtain ⟨a, p, frame⟩ := (s.setArbiter { s.arbiter with derate := d }).servicePass_frame
  have arbiter := (s.setArbiter { s.arbiter with derate := d }).servicePass_arbiter
  rw [frame] at arbiter
  refine ⟨p, frame.trans ?_⟩
  rw [show a = (s.arbiter.withDerate d).service from arbiter]
  rfl

theorem State.derated_setFrame (s : State) (d : Nat) (p : Port) :
    (s.setFrame p .idle).derated d = (s.derated d).setFrame p .idle := by
  unfold State.derated
  rw [← State.servicePass_setFrame_idle]
  rfl

/-- A DERATE changes the arbiter, and the lines of booms that it lets run (R155). -/
theorem State.Followed.derated (h : s.Followed) : (s.acting fun s => s.derated d).engines = s.engines ∧
    s.PortsMove ⟨[.flow .A, .flow .B, .permit .A, .permit .B], false, false⟩ (s.acting fun s => s.derated d) := by
  obtain ⟨p, frame⟩ := s.derated_frame d
  constructor
  · refine Pair.ext_get fun b => (h b).acting_engine_kept (by rw [frame]; rfl) fun torquing present => ?_
    have same : (s.derated d).unit b = s.unit b := by rw [frame]; rfl
    refine ⟨same ▸ torquing, State.present_of_fewer (by rw [same]) torquing (by rw [frame]; rfl) ?_ present⟩
    rw [frame]
    exact (s.arbiter.withDerate d).service_queue
  · refine .ofActing (.trans (.of_ports (t := s.setArbiter { s.arbiter with derate := d }) rfl rfl)
      (.servicePass (fun c => by cases c <;> simp) _)) (fun c _ => by cases c <;> simp) (fun c changed => absurd ?_ changed)
      (fun changed => absurd ?_ changed) fun changed => absurd ?_ changed
    · rw [frame]
      rfl
    · rw [frame]
      rfl
    · rw [frame]
      rfl

end

/-- Settles O43: the two raises and the two cuts of the pass, and the command that makes it. -/
theorem derateTaken : Obligations.DerateTaken := by
  refine ⟨fun s x y g h queue order apart gx gy hg hh gLeast gMost gMark hLeast hMost hMark => ?_, fun x s takes => ?_⟩
  · obtain rfl : y = x.other := (Boom.eq_or_eq_other x y).resolve_left (Ne.symm apart)
    obtain ⟨m, n, service, within, above⟩ := Arbiter.service_amounts hg hh queue order gx gy ⟨gLeast, gMost, gMark⟩
      ⟨hLeast, hMost, hMark⟩
    have arbiter := s.servicePass_arbiter.trans service
    refine ⟨m, n, arbiter, within, above, fun change => ?_, fun change => ?_⟩
    · exact (State.FlowNoted.servicePass queue x).posted gx (by rw [arbiter]; exact Arbiter.amounts_get m n) change
    · exact (State.FlowNoted.servicePass queue x.other).posted gy
        (by rw [arbiter]; exact Arbiter.amounts_get_other m n) change
  · unfold Answers
    rw [exec_derate]
    refine ⟨fun same => ?_, fun change followed => ?_⟩
    · exact State.setFrame_idle_answered_done s .C _ takes (if_pos same)
    · have d_eq : s.arbiter.derateTo x.toNat = max (max 60 (min 100 x.toNat)) s.arbiter.floor := by
        rw [Arbiter.derateTo, clampTo_eq_max_min (by decide)]
      have code : (s.arbiter.derateTo x.toNat != x.toNat) = true ↔ ¬ s.arbiter.derateTo x.toNat = x.toNat := bne_iff_ne
      obtain ⟨p, frame⟩ := s.derated_frame (s.arbiter.derateTo x.toNat)
      obtain ⟨engines, moves⟩ := followed.derated (s.arbiter.derateTo x.toNat)
      have arbiter : (s.acting fun v => v.derated (s.arbiter.derateTo x.toNat)).arbiter =
          (s.arbiter.withDerate (s.arbiter.derateTo x.toNat)).service := by
        rw [State.acting_arbiter, frame]
      refine ⟨s.acting fun v => v.derated (s.arbiter.derateTo x.toNat), s.arbiter.derateTo x.toNat, d_eq,
        congrArg _ (State.command_answered takes _ ?_), ?_, ?_, s.acting_followed _, fun b => ?_, moves.within,
        moves.kept rfl rfl, ?_, fun agrees => ?_⟩
      · rw [← doneOr_not code]
        refine (if_neg change).trans (congrArg (fun t => taken t _) ?_)
        exact State.acting_setFrame_idle (f := fun v => v.derated (s.arbiter.derateTo x.toNat))
          (s.derated_setFrame _ .C)
      · rw [arbiter, State.servicePass_arbiter]
        rfl
      · rw [arbiter, Arbiter.service_derate]
        rfl
      · rw [State.acting_unit, frame]
        exact BoomUnit.follow_sameWork _ _ _
      · obtain ⟨u, e, q, whole⟩ := s.acting_frame fun v => v.derated (s.arbiter.derateTo x.toNat)
        rw [whole] at engines ⊢
        rw [show e = s.engines from engines, frame]
      · have core := (agrees.beside .A).core
        have bounds := core.arbiter.granted.derateTo_bounds core.within x.toNat
        have sound := core.arbiter.withDerate (n := s.arbiter.derateTo x.toNat) ⟨bounds.1, bounds.2.1⟩
        rw [arbiter]
        refine ⟨sound.service_within fun _ => bounds.2.2, fun r rest head => ?_, fun b g hg degraded => ?_,
          fun b g k hg fixed hk => ?_⟩
        · have refuses := sound.service_refuses head
          exact ⟨refuses.demand, refuses.minimum, refuses.cut⟩
        · exact sound.service_filled b g hg degraded
        · exact Option.some.inj (hk.symm.trans (sound.service.fixed b g hg fixed))

end Sys2Proof.Machine

/-! ### The loader fires and is refilled -/

namespace Sys2Proof.Machine

open Sys2Proof Sys2Proof.Machine

/-! ### Events -/

section
variable {s : State} {f : State → State}

theorem State.event_held (h : s.isHeld = true) : s.event f = s := if_pos h

theorem State.event_runs (h : s.isHeld = false) : s.event f = s.acting f := if_neg (Bool.eq_false_iff.1 h)

/-- An action that leaves alone what the booms follow is its effects and its offers. -/
theorem State.Followed.acting_offers (h : s.Followed) (units : (f s).units = s.units) (lanes : (f s).lanes = s.lanes)
    (engines : (f s).engines = s.engines) (arbiter : (f s).arbiter = s.arbiter) (held : (f s).isHeld = s.isHeld) :
    s.acting f = (f s).offersSince s := by
  have follows : (f s).Followed := fun b => (h b).congr (by unfold State.unit; rw [units]) (by rw [arbiter])
    (by unfold State.laneInStep State.lane; rw [lanes]) held fun _ => by unfold State.engine; rw [engines]
  unfold State.acting
  rw [follows.sync_eq]

/-- An event that does nothing changes nothing. -/
theorem State.Followed.event_same (h : s.Followed) (same : f s = s) : s.event f = s := by
  unfold State.event
  split
  · rfl
  · unfold State.acting
    rw [same, h.sync_eq]
    exact State.offersSince_self rfl rfl rfl rfl

/-- An event that changes the loader alone, and neither of its two statuses. -/
theorem State.Followed.event_loader (h : s.Followed) (held : s.isHeld = false) {l : Loader} (eq : f s = s.setLoader l)
    (status : (s.setLoader l).loaderStatus = s.loaderStatus) (magazine : l.magazine = s.loader.magazine) :
    s.event f = s.setLoader l := by
  have low : s.magazineLow = (s.setLoader l).magazineLow := by
    unfold State.magazineLow
    rw [← magazine]
    rfl
  rw [State.event_runs held, h.acting_offers (by rw [eq]; rfl) (by rw [eq]; rfl) (by rw [eq]; rfl) (by rw [eq]; rfl)
    (by rw [eq]; rfl), eq]
  exact State.offersSince_same (fun _ => rfl) (fun _ => rfl) status.symm low

end

/-! ### Expired timers -/

theorem not_expired {d : Nat} {t : Option Nat} (h : ∀ n, t = some n → n < d) : ¬ expired d t = true :=
  Bool.eq_false_iff.1 (not_expired_iff.2 h)

/-! ### Firings -/

/-- The firing that an expiry brings (R123, R125). -/
theorem State.fireLoader_loaded {s : State} (h : 0 < s.loader.magazine) : s.fireLoader =
    s.setLoader { s.loader with state := .firing, stageTimer := some 0, fire := true, pulseTimer := some 0 } := if_pos h

theorem State.fireLoader_empty {s : State} (h : s.loader.magazine = 0) :
    s.fireLoader = s.setLoader { s.loader with state := .waitMagazine, stageTimer := none } :=
  if_neg (by rw [h]; exact lt_irrefl 0)

/-- An expiry that makes a firing fall due in one loader state. -/
def State.fallsDue (y : LoaderState) (d : Nat) (s : State) : State :=
  if s.loader.state = y ∧ expired d s.loader.stageTimer = true then s.fireLoader else s

section
variable {s : State} {y : LoaderState} {d : Nat}

theorem State.Followed.fallsDue_waits (h : s.Followed)
    (k : s.isHeld = true ∨ s.loader.state ≠ y ∨ ∀ n, s.loader.stageTimer = some n → n < d) :
    s.event (State.fallsDue y d) = s := by
  rcases k with held | idle
  · exact State.event_held held
  · refine h.event_same (if_neg fun due => ?_)
    rcases idle with other | early
    · exact other due.1
    · exact not_expired early due.2

theorem State.Followed.fallsDue_fires (h : s.Followed) (held : s.isHeld = false) (here : s.loader.state = y)
    (jam : y ≠ .jammed) {n : Nat} (timer : s.loader.stageTimer = some n) (past : d ≤ n) :
    s.event (State.fallsDue y d) = s.fireLoader := by
  have due : State.fallsDue y d s = s.fireLoader := if_pos ⟨here, expired_iff.2 ⟨n, timer, past⟩⟩
  have status : ∀ l : Loader, l.magazine = s.loader.magazine → l.state ≠ .jammed →
      (s.setLoader l).loaderStatus = s.loaderStatus := fun l magazine free => by
    unfold State.loaderStatus
    rw [State.setLoader, magazine, beq_false_of_ne free, here, beq_false_of_ne jam]
  rcases Nat.eq_zero_or_pos s.loader.magazine with empty | loaded
  · rw [State.fireLoader_empty empty] at due ⊢
    exact h.event_loader held due (status _ rfl nofun) rfl
  · rw [State.fireLoader_loaded loaded] at due ⊢
    exact h.event_loader held due (status _ rfl nofun) rfl

end

/-! ### REFILL -/

theorem exec_refill (x : Byte) (s : State) : exec (.refill .C x) s = .next (s.command .C .refill fun s =>
    if s.loader.state = .firing then refuse s .busy
    else taken (s.announcing (State.refillTo (min magazineTop x.toNat))) (doneOr (decide (magazineTop < x.toNat)))) := rfl

section
variable {s : State} {n : Nat}

theorem State.refillTo_eq (s : State) (n : Nat) : s.refillTo n = s.setLoader
    (if s.loader.state = .waitMagazine ∧ 0 < n then
      { s.loader with
        magazine := n, state := .firing, stageTimer := some 0, fire := true, pulseTimer := some 0 }
    else { s.loader with magazine := n }) := by
  unfold State.refillTo
  simp only []
  split
  · rename_i fires
    rw [State.fireLoader_loaded (s := s.setLoader { s.loader with magazine := n }) fires.2]
    rfl
  · rfl

theorem State.refillTo_setFrame (s : State) (n : Nat) (p : Port) :
    State.refillTo n (s.setFrame p .idle) = (State.refillTo n s).setFrame p .idle := by
  rw [State.refillTo_eq, State.refillTo_eq]
  rfl

/-- What a taken REFILL leaves (R125, R131). -/
structure State.Refilled (s t : State) (n : Nat) : Prop where
  loader : t.loader = (s.refillTo n).loader
  announces : s.Announces t
  same : s.loaderStatus = t.loaderStatus → s.magazineLow = t.magazineLow → t.ports = s.ports
  moves : s.PortsMove ⟨[.loader, .magazineLow], false, false⟩ t
  frame : t = { s with loader := t.loader, ports := t.ports }

theorem State.refilled (s : State) (n : Nat) : s.Refilled (s.announcing (State.refillTo n)) n := by
  obtain ⟨l, refill⟩ := s.refillTo_frame n
  obtain ⟨q, frame⟩ := s.announcing_frame (State.refillTo n)
  have ports : (s.refillTo n).ports = s.ports := by rw [refill]
  have port : ∀ p, (s.refillTo n).port p = s.port p := fun p => by rw [refill]; rfl
  have engine : ∀ b, (s.refillTo n).engine b = s.engine b := fun b => by rw [refill]; rfl
  have feed : ∀ b, s.feedLine b = (s.refillTo n).feedLine b := fun b => by rw [refill]; rfl
  have lane : ∀ b, s.laneInStep b = (s.refillTo n).laneInStep b := fun b => by rw [refill]; rfl
  refine ⟨by rw [frame], ?_, fun loader low => ?_, ?_, by rw [frame, refill]⟩
  · refine State.offersSince_announces (fun p => by rw [port]) fun b => ?_
    rw [engine]
    exact .same _ _ _
  · refine (congrArg State.ports (State.offersSince_same feed lane ?_ ?_)).trans ports
    · rw [loader, frame]
      rfl
    · rw [low, frame]
      rfl
  · exact .trans (.of_ports ports (by rw [refill])) (.offersSince (fun b k => absurd (feed b) k)
      (fun b k => absurd (lane b) k) (fun _ => by simp) fun _ => by simp)

end

/-- Settles O45: the two expiries are one firing that falls due, and REFILL sets the magazine. -/
theorem loaderFiresAndRefills : Obligations.LoaderFiresAndRefills := by
  intro s c y x
  refine ⟨fun followed d which => ?_, fun takes => ⟨fun firing => ?_, fun calm => ?_⟩⟩
  · have run : exec c s = .next (s.event (State.fallsDue y d)) ∧ y ≠ .jammed := by
      rcases which with ⟨rfl, rfl, rfl⟩ | ⟨rfl, rfl, rfl⟩
      · exact ⟨rfl, nofun⟩
      · exact ⟨rfl, nofun⟩
    have pulse : exec .firePulseEnd s = .next (s.event fun s =>
        if expired firePulse s.loader.pulseTimer then s.setLoader { s.loader with fire := false, pulseTimer := none }
        else s) := rfl
    rw [run.1, pulse]
    refine ⟨fun waits => ?_, fun n held here timer past => ⟨fun loaded => ?_, fun empty => ?_⟩, fun waits => ?_,
      fun n held timer past => ?_⟩
    · rw [followed.fallsDue_waits waits]
    · rw [followed.fallsDue_fires held here run.2 timer past, State.fireLoader_loaded loaded]
      rfl
    · rw [followed.fallsDue_fires held here run.2 timer past, State.fireLoader_empty empty]
      rfl
    · refine congrArg _ ?_
      rcases waits with held | early
      · exact State.event_held held
      · exact followed.event_same (if_neg (not_expired early))
    · exact congrArg _ (followed.event_loader held (if_pos (expired_iff.2 ⟨n, timer, past⟩)) rfl rfl)
  · unfold Answers
    rw [exec_refill]
    exact State.command_refused takes (if_pos firing)
  · rw [exec_refill]
    have above : x ≠ 0x00 ↔ 0 < min 40 x.toNat := by
      have zero : (0x00 : Byte).toNat = 0 := rfl
      rw [ne_eq, BitVec.toNat_eq, zero]
      omega
    have code : decide (magazineTop < x.toNat) = true ↔ ¬ x.toNat ≤ 40 := by
      rw [decide_eq_true_iff, Nat.not_le]
      rfl
    obtain ⟨loader, announces, same, moves, frame⟩ := s.refilled (min 40 x.toNat)
    refine ⟨_, congrArg _ (State.command_answered takes _ ?_), ?_, fun before after => ?_, fun before after => ?_, same,
      moves.within, moves.kept rfl rfl, frame⟩
    · rw [← doneOr_not code]
      refine (if_neg calm).trans (congrArg (fun t => taken t _) ?_)
      exact State.announcing_setFrame_idle (s.refillTo_setFrame _ .C)
    · rw [loader, State.refillTo_eq]
      exact if_congr (and_congr_right' above.symm) rfl rfl
    · exact announces.posted (congrArg some before) (congrArg some after)
    · exact announces.posted (congrArg some before) (congrArg some after)

end Sys2Proof.Machine

/-! ### Verdicts of a boom's hole -/

namespace Sys2Proof.Machine

open Sys2Proof Sys2Proof.Machine

/-! ### The loader's moves -/

section
variable {s : State} {b c : Boom}

theorem State.grantLoader_unit (s : State) (b x : Boom) : (s.grantLoader b).unit x =
    if x = b then { s.unit b with cycle := .loading } else s.unit x := by
  show ((s.units.set b _).get x) = _
  rw [Pair.get_set]
  rfl

/-- The loader takes the oldest place of its queue, whose boom is LOADING then (R122). -/
theorem State.serveLoader_unit (s : State) (x : Boom) : s.serveLoader.unit x =
    if s.loader.queue.head? = some x then { s.unit x with cycle := .loading } else s.unit x := by
  unfold State.serveLoader
  cases queue : s.loader.queue with
  | nil => rfl
  | cons c rest =>
    refine (State.grantLoader_unit _ c x).trans ?_
    rw [List.head?_cons]
    by_cases own : x = c
    · subst own
      rw [if_pos rfl, if_pos rfl]
      rfl
    · rw [if_neg own, if_neg fun k => own (Option.some.inj k).symm]
      rfl

theorem State.serveLoader_loader (ended : s.loader.grant = none) : s.serveLoader.loader = s.loaderServed s.loader := by
  unfold State.serveLoader State.loaderServed
  cases queue : s.loader.queue with
  | nil =>
    show ({ s.loader with state := .idle, stageTimer := none } : Loader) =
      { s.loader with state := .idle, grant := none, queue := [], stageTimer := none }
    rw [← queue, ← ended]
  | cons c rest => rfl

theorem State.cancelLoader_free (h : s.LoaderFree b) : s.cancelLoader b = s := by
  have queue : (s.loader.queue.filter fun x => x != b) = s.loader.queue :=
    List.filter_eq_self.2 fun x hx => bne_iff_ne.2 fun own => h.queue (own ▸ hx)
  have other : ¬ s.loader.holderIs b = true := fun k => by
    obtain ⟨g, grant, own, live⟩ := Loader.holderIs_iff.1 k
    exact h.grant g grant live own
  unfold State.cancelLoader
  simp only [queue]
  exact if_neg other

/-- Giving up the loader leaves the boom's own unit alone, and may let the other boom load (R130). -/
theorem State.cancelLoader_unit (s : State) (b x : Boom) : (s.cancelLoader b).unit x = s.unit x ∨
    (x = b.other ∧ (s.cancelLoader b).unit x = { s.unit x with cycle := .loading } ∧ x ∈ s.loader.queue) := by
  unfold State.cancelLoader
  simp only []
  split
  · split
    · exact .inl rfl
    · exact .inl rfl
    · rw [State.serveLoader_unit]
      split
      · rename_i head
        obtain ⟨queued, other⟩ := List.mem_filter.1 (List.mem_of_head? head)
        refine .inr ⟨(Boom.eq_or_eq_other b x).resolve_left (bne_iff_ne.1 other), rfl, queued⟩
      · exact .inl rfl
  · exact .inl rfl

theorem State.cancelLoader_unit_own (s : State) (b : Boom) : (s.cancelLoader b).unit b = s.unit b := by
  rcases s.cancelLoader_unit b b with same | ⟨other, _⟩
  · exact same
  · exact absurd other (Boom.ne_other b)

end

theorem State.serveLoader_magazine (s : State) : s.serveLoader.loader.magazine = s.loader.magazine := by
  unfold State.serveLoader
  split <;> rfl

theorem State.cancelLoader_magazine (s : State) (b : Boom) :
    (s.cancelLoader b).loader.magazine = s.loader.magazine := by
  unfold State.cancelLoader
  simp only []
  split
  · split
    · rfl
    · rfl
    · exact State.serveLoader_magazine _
  · rfl

/-! ### The effects of a verdict -/

/-- What a verdict does before the booms are brought in step (R60). -/
structure State.VerdictDone (s w : State) (b : Boom) (i : Slot) (v : VerdictReason) (next : CycleState) : Prop where
  slots : w.slots = (s.tableVerdict i v).slots
  rows : w.rows = (s.tableVerdict i v).rows
  backlog : w.backlog = (s.tableVerdict i v).backlog
  unit : w.unit b = { s.unit b with
    cycle := next, claimHeld := false, workSlot := if next = .idle ∨ next = .halted then none else (s.unit b).workSlot }
  otherUnit : w.unit b.other = s.unit b.other ∨
    (w.unit b.other = { s.unit b.other with cycle := .loading } ∧ b.other ∈ s.loader.queue)
  free : s.LoaderFree b → w.loader = s.loader ∧ w.unit b.other = s.unit b.other
  magazine : w.loader.magazine = s.loader.magazine
  arbiter : w.arbiter = s.arbiter.release b
  moves : s.PortsMove ⟨[.verdict b, .stage .A, .stage .B, .flow .A, .flow .B, .table, .row], true, false⟩ w
  verdict : w.Posted (.verdict b)
  stage : w.Posted (.stage b)
  frame : w = { s with
    slots := w.slots, rows := w.rows, backlog := w.backlog, units := w.units, loader := w.loader, arbiter := w.arbiter
    ports := w.ports }

section
variable {s : State} {b : Boom} {i : Slot} {e : Entry}

theorem State.verdictDone (claim : s.claimedEntry b = some (i, e)) (v : VerdictReason) (next : CycleState) :
    s.VerdictDone (s.boomVerdict b v next) b i v next := by
  obtain ⟨x, r, l, p, table⟩ := s.tableVerdict_frame i v
  obtain ⟨a, p', release⟩ := ((s.tableVerdict i v).modUnit b fun u => { u with claimHeld := false }).releaseFlow_frame b
  have arbiter := ((s.tableVerdict i v).modUnit b fun u => { u with claimHeld := false }).releaseFlow_arbiter b
  have eq := State.boomVerdict_some claim v next
  generalize released : ((s.tableVerdict i v).modUnit b fun u => { u with claimHeld := false }).releaseFlow b = z at *
  obtain ⟨d, u, p'', cancel⟩ := z.cancelLoader_frame b
  have own : z.unit b = { s.unit b with claimHeld := false } := by
    rw [release, table]
    exact Pair.get_set_same s.units b _
  have other : z.unit b.other = s.unit b.other := by
    rw [release, table]
    exact Pair.get_set_other s.units b _
  have loader : z.loader = s.loader := by
    rw [release, table]
    rfl
  have moves : s.PortsMove ⟨[.verdict b, .stage .A, .stage .B, .flow .A, .flow .B, .table, .row], true, false⟩
      (s.boomVerdict b v next) :=
    .boomVerdict (fun c => by cases c <;> simp) (fun c => by cases c <;> simp) (by simp) (by simp) rfl (by simp) s v next
  have frame : s.boomVerdict b v next = { s with
      slots := x, rows := r, backlog := l, units := (s.boomVerdict b v next).units, loader := (z.cancelLoader b).loader
      arbiter := a, ports := (s.boomVerdict b v next).ports } := by
    rw [eq, cancel, release, table]
    rfl
  refine ⟨by rw [frame, table], by rw [frame, table], by rw [frame, table], ?_, ?_, fun free => ?_, ?_, ?_, moves, ?_, ?_, ?_⟩
  · rw [eq, State.setCycle, State.unit_post, State.modUnit, State.unit_setUnit_same, State.unit_post,
      State.cancelLoader_unit_own, own]
  · rw [eq, State.setCycle, State.unit_post, State.modUnit, State.unit_setUnit_other, State.unit_post, ← other, ← loader]
    exact (z.cancelLoader_unit b b.other).imp_right fun k => k.2
  · have same : z.cancelLoader b = z := State.cancelLoader_free ⟨loader ▸ free.queue, loader ▸ free.grant⟩
    refine ⟨?_, ?_⟩
    · rw [frame, same, loader]
    · rw [eq, State.setCycle, State.unit_post, State.modUnit, State.unit_setUnit_other, State.unit_post, same, other]
  · rw [frame]
    exact (z.cancelLoader_magazine b).trans (by rw [loader])
  · rw [frame]
    have released_arbiter := (congrArg State.arbiter release).symm.trans arbiter
    refine released_arbiter.trans ?_
    rw [table]
    rfl
  · rw [eq]
    exact (State.PortsMove.setCycle (R := .all) (mem_allPairs _) _ next).posted (State.post_posted _ _)
  · rw [eq]
    exact State.post_posted _ _
  · rw [frame]

end

/-! ### A verdict as an action -/

/-- The rights of a verdict taken as an action: its own notices, the permit lines, and LOADER. -/
def PortRights.verdict (b : Boom) : PortRights :=
  ⟨[.verdict b, .stage .A, .stage .B, .flow .A, .flow .B, .permit .A, .permit .B, .table, .row, .loader], true, false⟩

/-- More rights allow the same moves. -/
theorem State.PortsMove.mono {R Q : PortRights} {s t : State} (h : s.PortsMove R t)
    (notices : ∀ n ∈ R.notices, n ∈ Q.notices) (writes : R.writes = true → Q.writes = true)
    (empties : R.empties = true → Q.empties = true) : s.PortsMove Q t := by
  refine ⟨h.1, fun p => Relation.ReflTransGen.mono (fun q q' move => ?_) _ _ (h.2 p)⟩
  cases move with
  | record n hn => exact .record _ n (notices n hn)
  | written i hw => exact .written _ i (writes hw)
  | emptied i he => exact .emptied _ i (empties he)

section
variable {s : State} {f : State → State} {b : Boom} {i : Slot} {v : VerdictReason} {next : CycleState}

theorem State.VerdictDone.laneInStep {w : State} (done : s.VerdictDone w b i v next) (c : Boom) :
    w.laneInStep c = s.laneInStep c := by
  rw [done.frame]
  rfl

theorem State.VerdictDone.engine {w : State} (done : s.VerdictDone w b i v next) (c : Boom) :
    w.engine c = s.engine c := by
  rw [done.frame]
  rfl

/-- The action of a verdict moves the ports as R60 says, and offers the permit lines and LOADER where they change. -/
theorem State.VerdictDone.acting_moves (done : s.VerdictDone (f s) b i v next) :
    s.PortsMove (.verdict b) (s.acting f) := by
  refine .ofActing (done.moves.mono (fun n hn => ?_) id id) (fun c _ => ?_)
    (fun c changed => absurd (done.laneInStep c).symm changed) (fun _ => ?_) fun changed => absurd ?_ changed
  · simp only [List.mem_cons, List.not_mem_nil, or_false] at hn
    simp only [PortRights.verdict, List.mem_cons, List.not_mem_nil, or_false]
    tauto
  · cases c <;> simp [PortRights.verdict]
  · simp [PortRights.verdict]
  · unfold State.magazineLow
    rw [done.magazine, done.frame]

/-- The other boom's engine is kept: a release only lets booms run (R153). -/
theorem State.VerdictDone.otherEngine (done : s.VerdictDone (f s) b i v next) (h : s.Followed) :
    (s.acting f).engine b.other = s.engine b.other := by
  refine (h b.other).acting_engine_kept (done.engine _) fun torquing present => ?_
  rcases done.otherUnit with same | ⟨loading, _⟩
  · refine ⟨same ▸ torquing, State.present_of_fewer (by rw [same]) torquing (done.laneInStep _) ?_ present⟩
    rw [done.arbiter]
    exact s.arbiter.release_queue b
  · rw [loading] at torquing
    exact absurd torquing nofun

theorem State.VerdictDone.given (done : s.VerdictDone (f s) b i v next)
    (ends : next = .idle ∨ next = .halted ∨ next = .withdrawing) :
    VerdictGiven s (s.acting f) b i v next := by
  have rest : ((f s).unit b).cycle.atRest = true := by
    rw [done.unit]
    rcases ends with rfl | rfl | rfl <;> rfl
  obtain ⟨u, g, q, whole⟩ := s.acting_frame f
  have frame := done.frame
  constructor
  · rw [State.acting_slots, done.slots]
  · rw [State.acting_rows, done.rows]
  · rw [State.acting_backlog, done.backlog]
  · rw [State.acting_unit_atRest rest, done.unit]
    rcases ends with rfl | rfl | rfl <;> rfl
  · rw [State.acting_arbiter, done.arbiter, State.releaseFlow_arbiter]
  · intro agrees loading await
    obtain ⟨loader, other⟩ := done.free ((agrees.boom b).loaderFree await loading)
    rw [State.acting_loader, State.acting_unit, other]
    exact ⟨loader, BoomUnit.follow_sameWork _ _ _, BoomUnit.follow_timersRunOn _ _ _⟩
  · exact done.otherEngine
  · exact (s.acting_moves f).posted done.verdict
  · exact (s.acting_moves f).posted done.stage
  · exact s.acting_followed f
  · rw [State.acting_lanes, frame]
  · rw [State.acting_params, frame]
  · rw [State.acting_protection, frame]
  · exact done.acting_moves.beside rfl
  · exact done.acting_moves.within
  · rw [whole, frame]
    exact ⟨rfl, rfl, rfl, rfl, rfl, rfl⟩

theorem State.VerdictDone.acting_engines (done : s.VerdictDone (f s) b i v next) (h : s.Followed)
    (rest : next.atRest = true) : (s.acting f).engines = s.engines := by
  refine State.engines_eq b ?_ (done.otherEngine h)
  rw [State.acting_engine_of_ne, done.engine]
  rw [done.unit]
  exact CycleState.ne_torquing_of_atRest rest

/-- An action that goes through another state with the same statuses is the rest of it, made there. -/
theorem State.acting_through {s z : State} (units : z.units = s.units) (lanes : z.lanes = s.lanes)
    (loader : z.loader = s.loader) (params : z.params = s.params) {f g : State → State} (h : f s = g z) :
    s.acting f = z.acting g := by
  have since : ∀ w : State, w.offersSince s = w.offersSince z := fun w => by
    unfold State.offersSince State.feedLine State.laneInStep State.loaderStatus State.magazineLow State.unit State.lane
    rw [units, lanes, loader, params]
  unfold State.acting
  rw [h, since]

end

end Sys2Proof.Machine

/-! ### BIT OUT -/

namespace Sys2Proof.Machine

open Sys2Proof Sys2Proof.Machine

/-! ### A boom that goes to rest -/

/-- What a change of a boom's cycle state from rest to rest leaves. -/
structure State.Parked (s t : State) (b : Boom) (c : CycleState) : Prop where
  unit : t.unit b = { s.unit b with
    cycle := c, workSlot := if c = .idle ∨ c = .halted then none else (s.unit b).workSlot }
  otherUnit : t.unit b.other = s.unit b.other
  posted : t.Posted (.stage b)
  moves : s.PortsMove ⟨[.stage b], false, false⟩ t
  frame : t = { s with units := t.units, ports := t.ports }

section
variable {s : State} {b : Boom}

theorem State.setCycle_unit (s : State) (b : Boom) (c : CycleState) : (s.setCycle b c).unit b = { s.unit b with
    cycle := c, workSlot := if c = .idle ∨ c = .halted then none else (s.unit b).workSlot } :=
  Pair.get_set_same s.units b _

theorem State.setCycle_unit_other (s : State) (b : Boom) (c : CycleState) :
    (s.setCycle b c).unit b.other = s.unit b.other := Pair.get_set_other s.units b _

theorem State.setCycle_beside (s : State) (b : Boom) (c : CycleState) : s.BesideBoom (s.setCycle b c) b :=
  ⟨s.setCycle_unit_other b c, rfl, rfl, rfl, rfl, rfl, rfl⟩

theorem State.Followed.parked (h : s.Followed) {c : CycleState} (before : (s.unit b).cycle.atRest = true)
    (after : c.atRest = true) : s.Parked (s.acting fun s => s.setCycle b c) b c := by
  have beside := s.setCycle_beside b c
  have rest : ((s.setCycle b c).unit b).cycle.atRest = true := by
    rw [State.setCycle_unit]
    exact after
  have unit : (s.acting fun s => s.setCycle b c).unit b = { s.unit b with
      cycle := c, workSlot := if c = .idle ∨ c = .halted then none else (s.unit b).workSlot } := by
    rw [State.acting_unit_atRest rest, State.setCycle_unit, ← (h b).rested_eq before]
    rfl
  have engines := beside.acting_engines (f := fun s => s.setCycle b c) h (CycleState.ne_torquing_of_atRest rest)
  refine ⟨unit, beside.acting_unit_other (f := fun s => s.setCycle b c) h,
    (s.acting_moves fun s => s.setCycle b c).posted (State.post_posted _ _),
    beside.acting_moves (f := fun s => s.setCycle b c) h (.setCycle (List.mem_singleton.2 rfl) s c)
      fun changed => absurd (by rw [unit]) changed, ?_⟩
  obtain ⟨u, g, q, whole⟩ := s.acting_frame fun s => s.setCycle b c
  rw [whole] at engines ⊢
  rw [show g = s.engines from engines]
  rfl

end

/-! ### The end of the withdrawal -/

section
variable {s : State} {b : Boom} {i : Slot} {e : Entry} {r : Result}

theorem State.claimedEntry_none (h : (s.unit b).claimHeld = false) : s.claimedEntry b = none :=
  if_neg (Bool.eq_false_iff.1 h)

theorem State.setEntry_entry (h : s.entry i = some e) : s.setEntry i (some e) = s := by
  have same : s.slots.set i (some e) = s.slots := by
    rw [← h]
    exact Vector.set_getElem_self i.isLt
  unfold State.setEntry
  rw [same]

theorem State.updateResult_some (claim : s.claimedEntry b = some (i, e)) (f : Result → Result) :
    s.updateResult b f = s.setEntry i (some { e with result := e.result.map f }) :=
  State.updateClaimed_some claim _

theorem State.endWithdrawal_unclaimed (h : (s.unit b).claimHeld = false) :
    State.endWithdrawal b s = s.setCycle b .idle := by
  unfold State.endWithdrawal
  rw [State.claimedEntry_none h]

theorem State.endWithdrawal_claimed (claim : s.claimedEntry b = some (i, e)) (drilled : e.result = some r) :
    State.endWithdrawal b s = if (s.unit b).dry then s.endDryRun b (cartridgeCount (s.active b) r)
      else s.beginResin b (cartridgeCount (s.active b) r) := by
  unfold State.endWithdrawal
  simp only [claim, drilled]

/-- The entry of a hole that goes to the loader (R54, R118). -/
def Entry.resinPlanned (e : Entry) (r : Result) (n : Nat) : Entry :=
  { e with result := some { r with cartPlanned := some n, cartDelivered := some 0 } }

/-- The effects of BIT OUT for a hole that goes to the loader. -/
def State.resinBegun (s : State) (b : Boom) (i : Slot) (e : Entry) (r : Result) (n : Nat) : State :=
  ((s.setEntry i (some (e.resinPlanned r n))).setCycle b .awaitResin).requestLoader b

theorem State.beginResin_eq (claim : s.claimedEntry b = some (i, e)) (drilled : e.result = some r) {n : Nat}
    (room : n ≤ (s.active b).maxCartridges) : s.beginResin b n = s.resinBegun b i e r n := by
  unfold State.beginResin State.resinBegun
  rw [if_pos room, State.updateResult_some claim, drilled]
  rfl

section
variable (claim : s.claimedEntry b = some (i, e)) (n : Nat)
include claim

theorem State.resinBegun_idle (idle : s.loader.state = .idle) :
    (s.resinBegun b i e r n).unit b = { s.unit b with cycle := .loading } ∧
    (s.resinBegun b i e r n).loader = { s.loader with
      state := .diverting, divert := b, stageTimer := some 0, grant := some ⟨b, n, 0, 0, false⟩ } := by
  obtain ⟨held, slot, _⟩ := State.claimedEntry_eq_some.1 claim
  have awaiting : ((s.setEntry i (some (e.resinPlanned r n))).setCycle b .awaitResin).unit b =
      { s.unit b with cycle := .awaitResin } := State.setCycle_unit _ b _
  have claim' : ((s.setEntry i (some (e.resinPlanned r n))).setCycle b .awaitResin).claimedEntry b =
      some (i, e.resinPlanned r n) :=
    State.claimedEntry_eq_some.2 ⟨by rw [awaiting]; exact held, by rw [awaiting]; exact slot,
      State.entry_setEntry_same s i _⟩
  have planned : ((s.setEntry i (some (e.resinPlanned r n))).setCycle b .awaitResin).plannedFor b = n := by
    unfold State.plannedFor
    rw [claim']
    rfl
  have granted : s.resinBegun b i e r n =
      ((s.setEntry i (some (e.resinPlanned r n))).setCycle b .awaitResin).grantLoader b := if_pos idle
  rw [granted]
  refine ⟨?_, ?_⟩
  · rw [State.grantLoader_unit, if_pos rfl, awaiting]
  · unfold State.grantLoader
    rw [planned]
    rfl

omit claim in
theorem State.resinBegun_busy (busy : s.loader.state ≠ .idle) :
    (s.resinBegun b i e r n).unit b = { s.unit b with cycle := .awaitResin } ∧
    (s.resinBegun b i e r n).loader = { s.loader with queue := s.loader.queue ++ [b] } := by
  have queued : s.resinBegun b i e r n = ((s.setEntry i (some (e.resinPlanned r n))).setCycle b .awaitResin).setLoader
      { s.loader with queue := s.loader.queue ++ [b] } := if_neg busy
  rw [queued]
  exact ⟨State.setCycle_unit _ b _, rfl⟩

omit claim in
theorem State.resinBegun_beside (s : State) (b : Boom) (i : Slot) (e : Entry) (r : Result) (n : Nat) :
    s.BesideBoom (s.resinBegun b i e r n) b := by
  have other : (s.resinBegun b i e r n).unit b.other = s.unit b.other := by
    unfold State.resinBegun State.requestLoader
    split
    · rw [State.grantLoader_unit, if_neg (Boom.other_ne b), State.setCycle_unit_other]
      rfl
    · exact State.setCycle_unit_other _ b _
  have frame := ((s.setEntry i (some (e.resinPlanned r n))).setCycle b .awaitResin).requestLoader_frame b
  refine ⟨other, ?_, ?_, ?_, ?_, ?_, ?_⟩
  · rw [State.resinBegun, frame]
    rfl
  · rw [State.resinBegun, frame]
    rfl
  · rw [State.resinBegun, frame]
    rfl
  · rw [State.resinBegun, frame]
    rfl
  · unfold State.resinBegun State.requestLoader
    split
    · rename_i idle
      show (LoaderState.diverting == .jammed || s.loader.magazine == 0) = (s.loader.state == .jammed || s.loader.magazine == 0)
      rw [show s.loader.state = .idle from idle]
      rfl
    · rfl
  · unfold State.resinBegun State.requestLoader
    split <;> rfl

theorem State.resinBegun_atRest : ((s.resinBegun b i e r n).unit b).cycle.atRest = true := by
  by_cases idle : s.loader.state = .idle
  · rw [(State.resinBegun_idle claim n idle).1]
    rfl
  · rw [(State.resinBegun_busy n idle).1]
    rfl

end

/-- What BIT OUT leaves of a hole that goes to the loader (R54, R118, R121). -/
structure State.ResinBegun (s t : State) (b : Boom) (i : Slot) (e : Entry) (r : Result) (n : Nat) : Prop where
  entry : t.entry i = some (e.resinPlanned r n)
  others : ∀ j, j ≠ i → t.entry j = s.entry j
  granted : s.loader.state = .idle → t.unit b = { s.unit b with cycle := .loading } ∧ t.loader = { s.loader with
    state := .diverting, divert := b, stageTimer := some 0, grant := some ⟨b, n, 0, 0, false⟩ }
  queued : s.loader.state ≠ .idle → t.unit b = { s.unit b with cycle := .awaitResin } ∧
    t.loader = { s.loader with queue := s.loader.queue ++ [b] }
  otherUnit : t.unit b.other = s.unit b.other
  posted : t.Posted (.stage b)
  moves : s.PortsMove ⟨[.stage b], false, false⟩ t
  frame : t = { s with slots := t.slots, units := t.units, loader := t.loader, ports := t.ports }

theorem State.Followed.resinBegun (h : s.Followed) (claim : s.claimedEntry b = some (i, e))
    (here : (s.unit b).cycle.atRest = true) {n : Nat} {f : State → State} (hf : f s = s.resinBegun b i e r n) :
    s.ResinBegun (s.acting f) b i e r n := by
  have beside : s.BesideBoom (f s) b := hf ▸ s.resinBegun_beside b i e r n
  have rest : ((f s).unit b).cycle.atRest = true := hf ▸ State.resinBegun_atRest claim n
  have unit : ∀ c : CycleState, (f s).unit b = { s.unit b with cycle := c } →
      (s.acting f).unit b = { s.unit b with cycle := c } := fun c k => by
    rw [State.acting_unit_atRest rest, k, ← (h b).rested_eq here]
    rfl
  have frame := ((s.setEntry i (some (e.resinPlanned r n))).setCycle b .awaitResin).requestLoader_frame b
  have entries : ∀ j, (s.acting f).entry j = (s.setEntry i (some (e.resinPlanned r n))).entry j := fun j => by
    rw [State.entry_acting, hf, State.resinBegun, State.entry_requestLoader]
    rfl
  have engines := beside.acting_engines h (CycleState.ne_torquing_of_atRest rest)
  refine ⟨?_, fun j apart => ?_, fun idle => ?_, fun busy => ?_, beside.acting_unit_other h, ?_, ?_, ?_⟩
  · rw [entries, State.entry_setEntry_same]
  · rw [entries, State.entry_setEntry_ne _ apart]
  · obtain ⟨own, loader⟩ := State.resinBegun_idle (r := r) claim n idle
    rw [← hf] at own loader
    exact ⟨unit _ own, by rw [State.acting_loader, loader]⟩
  · obtain ⟨own, loader⟩ := State.resinBegun_busy (b := b) (i := i) (e := e) (r := r) n busy
    rw [← hf] at own loader
    exact ⟨unit _ own, by rw [State.acting_loader, loader]⟩
  · refine (s.acting_moves f).posted ?_
    rw [hf]
    exact (State.PortsMove.requestLoader (R := .all) (mem_allPairs _) _).posted (State.post_posted _ _)
  · refine beside.acting_moves h ?_ fun changed => absurd ?_ changed
    · rw [hf]
      exact .trans (.trans (.of_ports rfl rfl) (.setCycle (by simp) (s.setEntry i (some (e.resinPlanned r n))) _))
        (.requestLoader (by simp) _)
    · by_cases idle : s.loader.state = .idle
      · obtain ⟨own, _⟩ := State.resinBegun_idle (r := r) claim n idle
        rw [unit _ (hf ▸ own)]
      · obtain ⟨own, _⟩ := State.resinBegun_busy (b := b) (i := i) (e := e) (r := r) n idle
        rw [unit _ (hf ▸ own)]
  · obtain ⟨u, g, q, whole⟩ := s.acting_frame f
    rw [whole] at engines ⊢
    rw [show g = s.engines from engines, hf, State.resinBegun, frame]
    rfl

end

end Sys2Proof.Machine

/-! ### BIT OUT: its answers -/

namespace Sys2Proof.Machine

open Sys2Proof Sys2Proof.Machine

@[simp] theorem State.endDryRun_setFrame_idle (s : State) (p : Port) (b : Boom) (n : Nat) :
    (s.setFrame p .idle).endDryRun b n = (s.endDryRun b n).setFrame p .idle := by
  unfold State.endDryRun
  rw [State.active_setFrame]
  split <;> simp

@[simp] theorem State.beginResin_setFrame_idle (s : State) (p : Port) (b : Boom) (n : Nat) :
    (s.setFrame p .idle).beginResin b n = (s.beginResin b n).setFrame p .idle := by
  unfold State.beginResin
  rw [State.active_setFrame]
  split <;> simp

theorem State.endWithdrawal_setFrame_idle (s : State) (p : Port) (b : Boom) :
    State.endWithdrawal b (s.setFrame p .idle) = (State.endWithdrawal b s).setFrame p .idle := by
  unfold State.endWithdrawal
  simp only [State.claimedEntry_setFrame, State.active_setFrame, State.unit_setFrame, State.endDryRun_setFrame_idle,
    State.beginResin_setFrame_idle, State.setCycle_setFrame_idle]
  cases s.claimedEntry b with
  | none => rfl
  | some c =>
    obtain ⟨i, e⟩ := c
    cases result : e.result with
    | none => simp only [result]
    | some r =>
      simp only [result]
      split <;> rfl

section
variable {s : State} {b : Boom} {i : Slot} {e : Entry} {r : Result} {f : State → State} {v : VerdictReason}
  {next : CycleState}

/-- A verdict of a boom that neither loads nor waits for resin leaves the loader and the other boom's work. -/
theorem VerdictGiven.apart {t : State} (given : VerdictGiven s t b i v next) (agrees : s.StagesAgree)
    (loading : (s.unit b).cycle ≠ .loading) (await : (s.unit b).cycle ≠ .awaitResin) :
    t.loader = s.loader ∧ (s.unit b.other).SameWork (t.unit b.other) := by
  obtain ⟨loader, work, _⟩ := given.beside agrees loading await
  exact ⟨loader, work⟩

/-- The state on which a dry run's verdict is given: its planned cartridges written where they are in range (R66). -/
def State.dryPlanned (s : State) (b : Boom) (i : Slot) (e : Entry) (r : Result) : State :=
  s.setEntry i (some { e with result := some { r with
    cartPlanned := if cartridgeCount (s.active b) r ≤ (s.active b).maxCartridges then
      some (cartridgeCount (s.active b) r) else r.cartPlanned } })

theorem State.dryPlanned_frame (s : State) (b : Boom) (i : Slot) (e : Entry) (r : Result) :
    s.dryPlanned b i e r = { s with slots := (s.dryPlanned b i e r).slots } := rfl

theorem State.endDryRun_eq (claim : s.claimedEntry b = some (i, e)) (drilled : e.result = some r) :
    s.endDryRun b (cartridgeCount (s.active b) r) = (s.dryPlanned b i e r).boomVerdict b .dry .idle := by
  obtain ⟨_, _, here⟩ := State.claimedEntry_eq_some.1 claim
  unfold State.endDryRun State.dryPlanned
  by_cases room : cartridgeCount (s.active b) r ≤ (s.active b).maxCartridges
  · rw [if_pos room, if_pos room, State.updateResult_some claim, drilled]
    rfl
  · have same : { e with result := some { r with cartPlanned := r.cartPlanned } } = e := by
      show { e with result := some r } = e
      rw [← drilled]
    rw [if_neg room, if_neg room, same, State.setEntry_entry here]

end

/-- Settles O37: the report ends the withdrawal in one of its four ways. -/
theorem bitOutEndsWithdrawal : Obligations.BitOutEndsWithdrawal := by
  intro p boom b s takes may
  have bitOut : exec (.bitOut p boom) s =
      .next (s.command p .bitOut fun s => s.report p boom .withdrawing State.endWithdrawal) := rfl
  unfold Answers
  rw [bitOut]
  refine ⟨fun other => State.command_refused takes (State.report_state (s := s.setFrame p .idle) may other),
    fun here followed => ?_⟩
  have taken : s.command p .bitOut (fun s => s.report p boom .withdrawing State.endWithdrawal) =
      (s.acting (State.endWithdrawal b)).answered p .bitOut .done (s.unit b).workSlot := by
    refine State.command_answered takes _ ((State.report_taken (s := s.setFrame p .idle) may here).trans ?_)
    rw [State.acting_setFrame_idle (s.endWithdrawal_setFrame_idle p b), State.unit_setFrame]
  rw [taken]
  have rest : (s.unit b).cycle.atRest = true := by
    rw [here]
    rfl
  have loading : (s.unit b).cycle ≠ .loading := here ▸ nofun
  have await : (s.unit b).cycle ≠ .awaitResin := here ▸ nofun
  refine ⟨fun unclaimed => ?_, fun i e r held slot entry drilled => ?_⟩
  · have eq : s.acting (State.endWithdrawal b) = s.acting fun s => s.setCycle b .idle :=
      State.acting_through rfl rfl rfl rfl (State.endWithdrawal_unclaimed unclaimed)
    obtain ⟨unit, otherUnit, posted, moves, frame⟩ := followed.parked rest (c := .idle) rfl
    exact ⟨_, rfl, eq ▸ unit, eq ▸ otherUnit, eq ▸ posted, eq ▸ moves.within, eq ▸ moves.kept rfl rfl, eq ▸ frame⟩
  · have claim : s.claimedEntry b = some (i, e) := State.claimedEntry_eq_some.2 ⟨held, slot, entry⟩
    have ends := State.endWithdrawal_claimed claim drilled
    rw [slot]
    refine ⟨fun room wet => ?_, fun full wet => ?_, fun dry => ?_⟩
    · rw [wet, if_neg Bool.false_ne_true, State.beginResin_eq claim drilled room] at ends
      obtain ⟨own, others, granted, queued, otherUnit, posted, moves, frame⟩ := followed.resinBegun claim rest ends
      exact ⟨_, rfl, own, others, granted, queued, otherUnit, posted, moves.within, moves.kept rfl rfl, frame⟩
    · have refused : State.endWithdrawal b s = s.boomVerdict b .unbondable .idle := by
        rw [ends, wet, if_neg Bool.false_ne_true]
        exact if_neg (Nat.not_le.2 full)
      have done := State.verdictDone claim .unbondable .idle
      rw [← refused] at done
      exact ⟨_, rfl, done.given (.inl rfl), done.acting_engines followed rfl,
        fun agrees => (done.given (.inl rfl)).apart agrees loading await⟩
    · rw [dry, if_pos rfl, State.endDryRun_eq claim drilled] at ends
      have eq : s.acting (State.endWithdrawal b) =
          (s.dryPlanned b i e r).acting fun z => z.boomVerdict b .dry .idle := by
        have frame := s.dryPlanned_frame b i e r
        exact State.acting_through (by rw [frame]) (by rw [frame]) (by rw [frame]) (by rw [frame]) ends
      have planned : (s.dryPlanned b i e r).claimedEntry b = some (i, _) :=
        State.claimedEntry_eq_some.2 ⟨held, slot, State.entry_setEntry_same s i _⟩
      have done := State.verdictDone planned .dry .idle
      have given := State.VerdictDone.given (f := fun z => z.boomVerdict b .dry .idle) done (.inl rfl)
      have stays : (s.dryPlanned b i e r).Followed := followed.congr rfl rfl (fun _ => rfl) rfl rfl
      rw [eq]
      exact ⟨_, rfl, given, done.acting_engines (f := fun z => z.boomVerdict b .dry .idle) stays rfl,
        fun agrees => given.apart (State.SameStages.stagesAgree (s := s) (.of rfl rfl rfl) agrees) loading await⟩

end Sys2Proof.Machine

/-! ### The loader delivers, jams, and is cleared -/

namespace Sys2Proof.Machine

open Sys2Proof Sys2Proof.Machine

/-! ### Verdicts of the table, whatever stands beside it -/

/-- The state `x` with the Hole Table, the ports and the parameters of `s`. -/
def State.tableIn (s x : State) : State :=
  { x with
    slots := s.slots, rows := s.rows, backlog := s.backlog, ports := s.ports, params := s.params, resetLow := s.resetLow }

section
variable (s x : State)

theorem State.ite_tableIn {c : Prop} [Decidable c] {u v u' v' : State} (h : u' = u.tableIn x) (k : v' = v.tableIn x) :
    (if c then u' else v') = (if c then u else v).tableIn x := by
  rw [h, k]
  exact (apply_ite (State.tableIn · x) _ _ _).symm

theorem State.closingCheck_tableIn (y : Byte) : (s.tableIn x).closingCheck y = (s.closingCheck y).tableIn x := by
  unfold State.closingCheck
  rw [show (s.tableIn x).row y = s.row y from rfl]
  cases s.row y with
  | none => rfl
  | some r =>
    exact State.ite_tableIn x (u := (s.modRow y fun r => { r with state := .closed }).post .row) (v := s) rfl rfl

theorem State.writeSlot_tableIn (i : Slot) (e : Entry) :
    (s.tableIn x).writeSlot i e = (s.writeSlot i e).tableIn x := by
  unfold State.writeSlot
  exact State.ite_tableIn x rfl rfl

theorem State.handleSupplement_tableIn (i : Slot) :
    (s.tableIn x).handleSupplement i = (s.handleSupplement i).tableIn x := by
  have marked : ∀ f : Entry → Entry, (s.tableIn x).modEntry i f = (s.modEntry i f).tableIn x := fun f => by
    unfold State.modEntry
    rw [show (s.tableIn x).entry i = s.entry i from rfl]
    cases s.entry i <;> rfl
  have written : (s.tableIn x).writeSupplement i = (s.writeSupplement i).tableIn x := by
    unfold State.writeSupplement
    rw [show (s.tableIn x).entry i = s.entry i from rfl, show (s.tableIn x).nextFree = s.nextFree from rfl]
    cases s.nextFree with
    | none => rfl
    | some j => cases s.entry i with
      | none => rfl
      | some e => exact s.writeSlot_tableIn x j _
  unfold State.handleSupplement
  rw [show (s.tableIn x).entry i = s.entry i from rfl]
  cases s.entry i with
  | none => rfl
  | some e =>
    simp only [marked, written]
    rw [apply_ite (State.tableIn · x), apply_ite (State.tableIn · x), apply_ite (State.tableIn · x)]
    rfl

theorem State.tableVerdict_tableIn (i : Slot) (v : VerdictReason) :
    (s.tableIn x).tableVerdict i v = (s.tableVerdict i v).tableIn x := by
  unfold State.tableVerdict
  rw [show (s.tableIn x).entry i = s.entry i from rfl]
  cases s.entry i with
  | none => rfl
  | some e =>
    cases v.supplementDue with
    | false =>
      exact ((s.setEntry i (some (e.withVerdict v))).modRow e.row fun r => r.withVerdict v.final).closingCheck_tableIn
        x e.row
    | true =>
      exact (congrArg (fun t : State => t.closingCheck e.row) (((s.setEntry i (some (e.withVerdict v))).modRow e.row
        fun r => r.withVerdict v.final).handleSupplement_tableIn x i)).trans (State.closingCheck_tableIn _ x e.row)

/-- The table's verdict leaves every other entry that there is. -/
theorem State.entry_tableVerdict_occupied {s : State} {i k : Slot} {e f : Entry} (h : s.entry i = some e)
    (v : VerdictReason) (other : k ≠ i) (occupied : s.entry k = some f) : (s.tableVerdict i v).entry k = some f := by
  have written := State.verdictEntries h v
  rw [State.tableVerdict_eq v h, State.entry_closingCheck, ← occupied]
  by_cases due : v.supplementDue = true ∧ e.generation < 2 ∧ s.nextFree.isSome = true
  · obtain ⟨j, free⟩ := Option.isSome_iff_exists.1 due.2.2
    refine (written.supplement j due.1 due.2.1 free).2 k other fun same => ?_
    rw [same, State.nextFree_empty free] at occupied
    exact Option.some_ne_none f occupied.symm
  · refine written.others ?_ k other
    rcases Bool.eq_false_or_eq_true v.supplementDue with yes | no
    · refine .inr ((Nat.lt_or_ge e.generation 2).symm.imp_right fun young => ?_)
      exact Option.not_isSome_iff_eq_none.1 fun some => due ⟨yes, young, some⟩
    · exact .inl no

end

/-! ### Actions of the loader alone -/

/-- Effects that keep every boom at its work, or take it from rest to rest. -/
structure State.LoaderWorks (s w : State) : Prop where
  unit : ∀ b, w.unit b = s.unit b ∨ ((s.unit b).cycle.atRest = true ∧ ∃ c : CycleState, c.atRest = true ∧
    w.unit b = { s.unit b with cycle := c })
  moves : s.PortsMove ⟨[.stage .A, .stage .B], false, false⟩ w
  frame : w = { s with slots := w.slots, units := w.units, loader := w.loader, ports := w.ports }

/-- An action of the loader, whole: its effects, and the offers of LOADER and MAGAZINE_LOW. -/
structure State.LoaderActed (s w t : State) : Prop where
  same : t = { w with ports := t.ports }
  announces : s.Announces t
  kept : ∀ n, w.Posted n → t.Posted n
  offers : ∀ R : PortRights, s.PortsMove R w → .loader ∈ R.notices →
    (s.loader.magazine ≠ w.loader.magazine → .magazineLow ∈ R.notices) → s.PortsMove R t

section
variable {s : State} {f : State → State}

theorem State.LoaderWorks.followed {w : State} (works : s.LoaderWorks w) (h : s.Followed) : w.Followed := by
  intro b
  rcases works.unit b with same | ⟨before, c, after, unit⟩
  · exact (h b).congr same (by rw [works.frame]) (by rw [works.frame]; rfl) (by rw [works.frame]; rfl)
      fun _ => by rw [works.frame]; rfl
  · refine .ofRested (by rw [unit]; exact after) ?_
    rw [unit]
    conv_rhs => rw [← (h b).rested_eq before]
    rfl

theorem State.LoaderWorks.acted (works : s.LoaderWorks (f s)) (h : s.Followed) : s.LoaderActed (f s) (s.acting f) := by
  have frame := works.frame
  have eq : s.acting f = (f s).offersSince s := by
    unfold State.acting
    rw [(works.followed h).sync_eq]
  have feed : ∀ b, (f s).feedLine b = s.feedLine b := fun b => by
    unfold State.feedLine
    rcases works.unit b with same | ⟨_, c, _, unit⟩
    · rw [same]
    · rw [unit]
  have lane : ∀ b, (f s).laneInStep b = s.laneInStep b := fun b => by rw [frame]; rfl
  have offers : ∀ R : PortRights, .loader ∈ R.notices → (s.loader.magazine ≠ (f s).loader.magazine →
      .magazineLow ∈ R.notices) → (f s).PortsMove R ((f s).offersSince s) := fun R loader low =>
    .offersSince (fun b k => absurd (feed b).symm k) (fun b k => absurd (lane b).symm k) (fun _ => loader) fun changed =>
      low fun same => changed (by unfold State.magazineLow; rw [same, frame])
  obtain ⟨p, since⟩ := (f s).offersSince_frame s
  rw [eq]
  refine ⟨by rw [since], ?_, fun n posted => ?_, ?_⟩
  · refine State.offersSince_announces works.moves.edges fun b => ?_
    rw [show (f s).engine b = s.engine b by rw [frame]; rfl]
    exact .same _ _ _
  · exact (offers .all (mem_allPairs _) fun _ => mem_allPairs _).posted posted
  · exact fun R own loader low => .trans own (offers R loader low)

theorem State.LoaderActed.moves {w t : State} (acted : s.LoaderActed w t) (works : s.LoaderWorks w) :
    s.PortsMove ⟨[.stage .A, .stage .B, .loader, .magazineLow], false, false⟩ t :=
  acted.offers _ (works.moves.mono (by simp) id id) (by simp) fun _ => by simp

theorem State.LoaderActed.frame {w t : State} (acted : s.LoaderActed w t) (works : s.LoaderWorks w) :
    t = { s with slots := t.slots, units := t.units, loader := t.loader, ports := t.ports } := by
  rw [acted.same, works.frame]

end

/-! ### The queue served -/

section
variable {s z : State} {b : Boom} {i : Slot} {e : Entry}

/-- The number planned for a boom is in the entry that it has claimed. -/
theorem State.plannedFor_congr (same : z.claimedEntry b = s.claimedEntry b) : z.plannedFor b = s.plannedFor b := by
  unfold State.plannedFor
  rw [same]

theorem State.loaderServed_congr {l : Loader} (planned : ∀ c ∈ l.queue, z.plannedFor c = s.plannedFor c) :
    z.loaderServed l = s.loaderServed l := by
  unfold State.loaderServed
  cases queue : l.queue with
  | nil => rfl
  | cons c rest => simp only [planned c (queue ▸ List.mem_cons_self)]

/-- A served queue leaves nothing but the loader and the boom that it grants. -/
theorem State.serveLoader_works (resin : ∀ c ∈ z.loader.queue, (s.unit c).cycle = .awaitResin)
    (works : s.LoaderWorks z) (waits : ∀ c ∈ z.loader.queue, z.unit c = s.unit c) : s.LoaderWorks z.serveLoader := by
  refine ⟨fun c => ?_, .trans works.moves (.serveLoader (fun b => by cases b <;> simp) z), ?_⟩
  · rw [State.serveLoader_unit]
    split
    · rename_i head
      have queued := List.mem_of_head? head
      refine .inr ⟨by rw [resin c queued]; rfl, .loading, rfl, ?_⟩
      rw [waits c queued]
    · exact works.unit c
  · obtain ⟨u, l, p, served⟩ : ∃ u l p, z.serveLoader = { z with units := u, loader := l, ports := p } :=
      ⟨_, _, _, z.serveLoader_frame⟩
    rw [served, works.frame]

end

end Sys2Proof.Machine

/-! ### DONE, JAM and CLEAR JAM -/

namespace Sys2Proof.Machine

open Sys2Proof Sys2Proof.Machine

/-! ### A cartridge delivered -/

section
variable {s : State} {g : LoaderGrant} {i : Slot} {e : Entry} {r : Result}

/-- The entry of a hole with one cartridge more (R124). -/
def Entry.delivered (e : Entry) (r : Result) (g : LoaderGrant) : Entry :=
  { e with
    holeState := if g.delivered + 1 = g.planned then .resined else e.holeState
    result := some { r with cartDelivered := some (g.delivered + 1) } }

theorem State.loaderDone_more (grant : s.loader.grant = some g) (live : g.cancelled = false)
    (claim : s.claimedEntry g.boom = some (i, e)) (drilled : e.result = some r) (more : g.delivered + 1 ≠ g.planned) :
    s.loaderDone = (s.setEntry i (some (e.delivered r g))).setLoader { s.loader with
      magazine := s.loader.magazine - 1, state := .gap, stageTimer := some 0
      grant := some { g with delivered := g.delivered + 1 } } := by
  have claim' : s.spendCartridge.claimedEntry g.boom = some (i, e) := claim
  unfold State.loaderDone
  rw [show s.spendCartridge.loader.grant = some g from grant]
  simp only [live, Bool.false_eq_true, if_false, State.deliver, if_neg more, State.updateResult_some claim', drilled]
  unfold Entry.delivered
  rw [if_neg more]
  rfl

/-- The state in which the last delivery serves the loader's queue. -/
def State.lastDelivered (s : State) (g : LoaderGrant) (i : Slot) (e : Entry) (r : Result) : State :=
  ((s.setEntry i (some (e.delivered r g))).setLoader { s.loader with
    magazine := s.loader.magazine - 1, grant := none, stageTimer := none }).setCycle g.boom .awaitBolt

theorem State.loaderDone_last (grant : s.loader.grant = some g) (live : g.cancelled = false)
    (claim : s.claimedEntry g.boom = some (i, e)) (drilled : e.result = some r) (last : g.delivered + 1 = g.planned) :
    s.loaderDone = (s.lastDelivered g i e r).serveLoader := by
  obtain ⟨held, slot, _⟩ := State.claimedEntry_eq_some.1 claim
  have claim' : s.spendCartridge.claimedEntry g.boom = some (i, e) := claim
  have counted : ((s.spendCartridge.updateResult g.boom fun r => { r with
      cartDelivered := some (g.delivered + 1) }).updateClaimed g.boom fun e => { e with holeState := .resined }) =
      s.spendCartridge.setEntry i (some (e.delivered r g)) := by
    have again : (s.spendCartridge.setEntry i (some { e with
        result := some { r with cartDelivered := some (g.delivered + 1) } })).claimedEntry g.boom = some (i, _) :=
      State.claimedEntry_eq_some.2 ⟨held, slot, State.entry_setEntry_same _ i _⟩
    rw [State.updateResult_some claim', drilled, Option.map_some, State.updateClaimed_some again]
    unfold Entry.delivered
    rw [if_pos last]
    exact congrArg (fun x => { s.spendCartridge with slots := x }) (Vector.set_set ..)
  unfold State.loaderDone
  rw [show s.spendCartridge.loader.grant = some g from grant]
  simp only [live, Bool.false_eq_true, if_false, State.deliver, if_pos last, counted]
  rfl

theorem State.loaderDone_cancelled (grant : s.loader.grant = some g) (dead : g.cancelled = true) :
    s.loaderDone = s.spendCartridge.endGrant.serveLoader := by
  unfold State.loaderDone
  rw [show s.spendCartridge.loader.grant = some g from grant]
  exact if_pos dead

theorem State.loaderJam_eq (grant : s.loader.grant = some g) : s.loaderJam = s.setLoader { s.loader with
    magazine := s.loader.magazine - 1, state := .jammed, stageTimer := none
    grant := if g.cancelled then none else some { g with jams := g.jams + 1 } } := by
  unfold State.loaderJam
  simp only [show s.spendCartridge.loader.grant = some g from grant]
  cases g.cancelled <;> rfl

end

/-! ### What the loader does, as actions -/

section
variable {s : State} {g : LoaderGrant} {i : Slot} {e : Entry} {r : Result}

/-- Another boom that works at its claim has it in another slot. -/
theorem State.ClaimsAgree.slot_ne (agrees : s.ClaimsAgree) {b c : Boom} (apart : c ≠ b) {j : Slot}
    (held : (s.unit b).claimHeld = true) (slot : (s.unit b).workSlot = some i) (held' : (s.unit c).claimHeld = true)
    (slot' : (s.unit c).workSlot = some j) : j ≠ i := by
  rintro rfl
  obtain ⟨_, _, k, f, at_k, here, named⟩ := agrees.working b held
  obtain ⟨_, _, k', f', at_k', here', named'⟩ := agrees.working c held'
  obtain rfl : k = k' := Option.some.inj ((at_k.symm.trans slot).trans (slot'.symm.trans at_k'))
  obtain rfl : f = f' := Option.some.inj (here.symm.trans here')
  exact apart (Option.some.inj (named'.symm.trans named))

/-- A change of one boom's claimed entry leaves what the other has claimed. -/
theorem State.ClaimsAgree.claimedEntry_other (agrees : s.ClaimsAgree) {b c : Boom} (apart : c ≠ b)
    (held : (s.unit b).claimHeld = true) (slot : (s.unit b).workSlot = some i) {z : State} (unit : z.unit c = s.unit c)
    (entries : ∀ j f, j ≠ i → s.entry j = some f → z.entry j = some f) : z.claimedEntry c = s.claimedEntry c := by
  cases claim : s.claimedEntry c with
  | some x =>
    obtain ⟨j, f⟩ := x
    obtain ⟨held', slot', here⟩ := State.claimedEntry_eq_some.1 claim
    exact State.claimedEntry_eq_some.2 ⟨unit ▸ held', unit ▸ slot',
      entries j f (agrees.slot_ne apart held slot held' slot') here⟩
  | none =>
    rcases Bool.eq_false_or_eq_true (s.unit c).claimHeld with yes | no
    · obtain ⟨_, _, j, f, at_j, here, _⟩ := agrees.working c yes
      rw [State.claimedEntry_eq_some.2 ⟨yes, at_j, here⟩] at claim
      exact absurd claim (Option.some_ne_none _)
    · exact State.claimedEntry_none (unit ▸ no)

/-- Effects on the loader's own block alone. -/
theorem State.LoaderWorks.setLoader (s : State) (l : Loader) : s.LoaderWorks (s.setLoader l) :=
  ⟨fun _ => .inl rfl, .of_ports rfl rfl, rfl⟩

theorem State.LoaderWorks.more (s : State) (x : Option Entry) (l : Loader) :
    s.LoaderWorks ((s.setEntry i x).setLoader l) := ⟨fun _ => .inl rfl, .of_ports rfl rfl, rfl⟩

theorem State.lastDelivered_unit (s : State) (g : LoaderGrant) (i : Slot) (e : Entry) (r : Result) :
    (s.lastDelivered g i e r).unit g.boom = { s.unit g.boom with cycle := .awaitBolt } ∧
      ∀ c, c ≠ g.boom → (s.lastDelivered g i e r).unit c = s.unit c :=
  ⟨State.setCycle_unit _ g.boom _, fun c other => (Pair.get_set s.units g.boom c _).trans (if_neg other)⟩

theorem State.LoaderWorks.last (loading : (s.unit g.boom).cycle = .loading) :
    s.LoaderWorks (s.lastDelivered g i e r) := by
  obtain ⟨own, others⟩ := s.lastDelivered_unit g i e r
  refine ⟨fun b => ?_, .trans (.of_ports rfl rfl) (.setCycle (by cases g.boom <;> simp) _ _), rfl⟩
  by_cases same : b = g.boom
  · subst same
    exact .inr ⟨by rw [loading]; rfl, .awaitBolt, rfl, own⟩
  · exact .inl (others b same)

theorem State.loaderServed_ended (s : State) (l : Loader) :
    s.loaderServed { l with grant := none, stageTimer := none } = s.loaderServed l := by
  unfold State.loaderServed
  cases l.queue <;> rfl

/-- The boom of a live grant waits for no other. -/
theorem State.StagesAgree.waits_apart (agrees : s.StagesAgree) (grant : s.loader.grant = some g)
    (live : g.cancelled = false) : ∀ c ∈ s.loader.queue, c ≠ g.boom := fun c queued same => by
  have waiting := agrees.resin c queued
  rw [same, agrees.loading g grant live] at waiting
  exact CycleState.noConfusion waiting

/-- What a served queue leaves, as an action of the loader. -/
structure State.QueueServed (s t : State) (z : State) (l : Loader) : Prop where
  loader : t.loader = s.loaderServed l
  unit : ∀ b, t.unit b = if s.loader.queue.head? = some b then { s.unit b with cycle := .loading } else z.unit b
  slots : t.slots = z.slots
  posted : ∀ n, z.Posted n → t.Posted n
  offers : ∀ R : PortRights, s.PortsMove R z → (∀ b, .stage b ∈ R.notices) → .loader ∈ R.notices →
    (s.loader.magazine ≠ l.magazine → .magazineLow ∈ R.notices) → s.PortsMove R t
  frame : t = { s with slots := t.slots, units := t.units, loader := t.loader, ports := t.ports }

theorem State.LoaderWorks.served {z : State} {f : State → State} {l : Loader} (works : s.LoaderWorks z)
    (h : s.Followed) (agrees : s.StagesAgree) (eq : f s = z.serveLoader)
    (loader : z.loader = { l with grant := none, stageTimer := none }) (same_queue : l.queue = s.loader.queue)
    (waits : ∀ c ∈ s.loader.queue, z.unit c = s.unit c ∧ z.plannedFor c = s.plannedFor c) :
    s.QueueServed (s.acting f) z l := by
  have queue : z.loader.queue = s.loader.queue := by
    rw [loader]
    exact same_queue
  have serving : s.LoaderWorks (f s) := eq ▸ State.serveLoader_works (by rw [queue]; exact agrees.resin) works
    (fun c queued => (waits c (queue ▸ queued)).1)
  have acted := serving.acted h
  have same : ∀ b, (s.acting f).unit b = (f s).unit b := fun b => by
    rw [acted.same]
    rfl
  refine ⟨?_, fun b => ?_, ?_, fun n posted => acted.kept n ?_, fun R own stage loader' low => ?_, acted.frame serving⟩
  · have ended : z.loader.grant = none := by rw [loader]
    rw [acted.same, eq, State.serveLoader_loader ended,
      State.loaderServed_congr fun c queued => (waits c (queue ▸ queued)).2, loader, State.loaderServed_ended]
  · rw [same, eq, State.serveLoader_unit, queue]
    split
    · rename_i head
      rw [(waits b (List.mem_of_head? head)).1]
    · rfl
  · rw [State.acting_slots, eq, State.serveLoader_slots]
  · rw [eq]
    exact (State.PortsMove.serveLoader (R := .all) (fun _ => mem_allPairs _) z).posted posted
  · refine acted.offers R ?_ loader' fun changed => low fun same => changed ?_
    · rw [eq]
      exact .trans own (.serveLoader stage z)
    · rw [eq, State.serveLoader_magazine, loader]
      exact same

theorem State.QueueServed.moves {t z : State} {l : Loader} (served : s.QueueServed t z l) (works : s.LoaderWorks z) :
    s.PortsMove ⟨[.stage .A, .stage .B, .loader, .magazineLow], false, false⟩ t :=
  served.offers _ (works.moves.mono (by simp) id id) (fun b => by cases b <;> simp) (by simp) fun _ => by simp

end

/-- Settles O46: the cases of DONE, and the jam, each as an action of the loader. -/
theorem loaderDeliversAndJams : Obligations.LoaderDeliversAndJams := by
  intro s followed claims agrees
  have done : exec .doneEdge s = .next (s.event fun s => if s.loader.state = .firing then s.loaderDone else s) := rfl
  have jam : exec .jamEdge s = .next (s.event fun s => if s.loader.state = .firing then s.loaderJam else s) := rfl
  have timeout : exec .doneTimeoutExpiry s = .next (s.event fun s =>
    if s.loader.state = .firing ∧ expired doneTimeout s.loader.stageTimer = true then s.loaderJam else s) := rfl
  rw [done, jam, timeout]
  refine ⟨fun quiet => ?_, fun early => ?_, fun g up firing grant => ⟨fun i e r live held slot here drilled => ?_,
    fun dead => ?_, fun c which => ?_⟩⟩
  · rcases quiet with held | calm
    · exact ⟨congrArg _ (State.event_held held), congrArg _ (State.event_held held), congrArg _ (State.event_held held)⟩
    · exact ⟨congrArg _ (followed.event_same (if_neg calm)), congrArg _ (followed.event_same (if_neg calm)),
        congrArg _ (followed.event_same (if_neg fun due => calm due.1))⟩
  · exact congrArg _ (followed.event_same (if_neg fun due => not_expired early due.2))
  · have claim : s.claimedEntry g.boom = some (i, e) := State.claimedEntry_eq_some.2 ⟨held, slot, here⟩
    rw [State.event_runs up]
    generalize run : (fun s : State => if s.loader.state = .firing then s.loaderDone else s) = f
    have fires : f s = s.loaderDone := by
      rw [← run]
      exact if_pos firing
    refine ⟨_, rfl, ?_⟩
    by_cases last : g.delivered + 1 = g.planned
    · have ends := fires.trans (State.loaderDone_last grant live claim drilled last)
      obtain ⟨own, others⟩ := s.lastDelivered_unit g i e r
      have entry : ∀ j, (s.lastDelivered g i e r).entry j = (s.setEntry i (some (e.delivered r g))).entry j :=
        fun _ => rfl
      have works : s.LoaderWorks (s.lastDelivered g i e r) := .last (agrees.loading g grant live)
      have served := works.served (l := s.spendCartridge.loader) followed agrees ends rfl rfl
        fun c queued => by
          have apart := agrees.waits_apart grant live c queued
          refine ⟨others c apart, State.plannedFor_congr ?_⟩
          exact claims.claimedEntry_other apart held slot (others c apart)
            fun j f other occupied => (entry j).trans ((State.entry_setEntry_ne s other _).trans occupied)
      have entries : ∀ j, (s.acting f).entry j = (s.setEntry i (some (e.delivered r g))).entry j := fun j => by
        rw [State.entry, served.slots]
        rfl
      refine ⟨?_, fun j other => ?_, fun more => absurd last more, fun _ => ⟨?_, served.loader, ?_, ?_⟩,
        (served.moves works).within, (served.moves works).kept rfl rfl, served.frame⟩
      · rw [entries, State.entry_setEntry_same]
        rfl
      · rw [entries, State.entry_setEntry_ne _ other]
      · rw [served.unit, own, if_neg fun head => agrees.waits_apart grant live _ (List.mem_of_head? head) rfl]
      · rw [served.unit, others _ (Boom.other_ne _)]
        cases queue : s.loader.queue with
        | nil => rfl
        | cons c rest =>
          have other : c = g.boom.other := (Boom.eq_or_eq_other g.boom c).resolve_left
            (agrees.waits_apart grant live c (queue ▸ List.mem_cons_self))
          rw [if_pos (by rw [other]; rfl), if_neg (List.cons_ne_nil c rest)]
      · exact served.posted _ (State.post_posted _ _)
    · have eq := fires.trans (State.loaderDone_more grant live claim drilled last)
      have works : s.LoaderWorks (f s) := eq ▸ .more s _ _
      have acted := works.acted followed
      have entry : ∀ j, (s.acting f).entry j = (s.setEntry i (some (e.delivered r g))).entry j := fun j => by
        rw [State.entry_acting, eq]
        rfl
      refine ⟨?_, fun j other => ?_, fun _ => ⟨?_, ?_⟩, fun now => absurd now last, (acted.moves works).within,
        (acted.moves works).kept rfl rfl, acted.frame works⟩
      · rw [entry, State.entry_setEntry_same]
        rfl
      · rw [entry, State.entry_setEntry_ne _ other]
      · rw [acted.same, eq]
        rfl
      · rw [acted.same, eq]
        rfl
  · rw [State.event_runs up]
    have ends : (fun s : State => if s.loader.state = .firing then s.loaderDone else s) s =
        s.spendCartridge.endGrant.serveLoader := (if_pos firing).trans (State.loaderDone_cancelled grant dead)
    have works : s.LoaderWorks s.spendCartridge.endGrant := .setLoader s _
    have served := works.served (f := fun s => if s.loader.state = .firing then s.loaderDone else s)
      (l := s.spendCartridge.loader) followed agrees ends rfl rfl fun c _ => ⟨rfl, rfl⟩
    have frame := served.frame
    exact ⟨_, rfl, served.loader, served.unit, (served.moves works).within, (served.moves works).kept rfl rfl, by
      rw [served.slots] at frame
      exact frame⟩
  · have jams : ∀ f : State → State, f s = s.loaderJam → ∃ t, s.event f = t ∧
        t.loader = { s.loader with
          magazine := s.loader.magazine - 1, state := .jammed, stageTimer := none
          grant := if g.cancelled then none else some { g with jams := g.jams + 1 } } ∧
        (s.loaderStatus = false → t.Posted .loader) ∧ s.NoticesWithin t [.loader, .magazineLow] ∧
        s.PortsKept t none ∧ t = { s with loader := t.loader, ports := t.ports } := fun f fires => by
      have eq := fires.trans (State.loaderJam_eq grant)
      have works : s.LoaderWorks (f s) := eq ▸ .setLoader s _
      have acted := works.acted followed
      have moves : s.PortsMove ⟨[.loader, .magazineLow], false, false⟩ (s.acting f) :=
        acted.offers _ (eq ▸ .of_ports rfl rfl) (by simp) fun _ => by simp
      have loader : (s.acting f).loader = (f s).loader := by rw [acted.same]
      refine ⟨_, State.event_runs up, loader.trans (congrArg State.loader eq), fun before => ?_, moves.within,
        moves.kept rfl rfl, ?_⟩
      · refine acted.announces.posted (congrArg some before) (congrArg some ?_)
        unfold State.loaderStatus
        rw [loader, eq]
        rfl
      · have same := acted.same
        rw [eq] at same loader
        rw [same]
        rfl
    rcases which with rfl | ⟨rfl, n, timer, past⟩
    · obtain ⟨t, run, jammed⟩ := jams (fun s => if s.loader.state = .firing then s.loaderJam else s) (if_pos firing)
      exact ⟨t, congrArg _ run, jammed⟩
    · have due : s.loader.state = .firing ∧ expired doneTimeout s.loader.stageTimer = true :=
        ⟨firing, expired_iff.2 ⟨n, timer, past⟩⟩
      obtain ⟨t, run, jammed⟩ := jams (fun s =>
        if s.loader.state = .firing ∧ expired doneTimeout s.loader.stageTimer = true then s.loaderJam else s)
        (if_pos due)
      exact ⟨t, congrArg _ run, jammed⟩

end Sys2Proof.Machine

/-! ### CLEAR JAM -/

namespace Sys2Proof.Machine

open Sys2Proof Sys2Proof.Machine

theorem State.clearLoader_setFrame_idle (s : State) (p : Port) :
    (s.setFrame p .idle).clearLoader = s.clearLoader.setFrame p .idle := by
  unfold State.clearLoader
  simp only [State.setFrame_loader, State.endGrant_setFrame, State.serveLoader_setFrame_idle,
    State.boomVerdict_setFrame_idle, State.setLoader_setFrame]
  split
  · rfl
  · split
    · rfl
    · split <;> rfl

section
variable {s : State} {g : LoaderGrant} {i : Slot} {e : Entry}

theorem State.clearLoader_none (none : s.loader.grant = none) : s.clearLoader = s.serveLoader := by
  unfold State.clearLoader
  rw [none]

theorem State.clearLoader_cancelled (grant : s.loader.grant = some g) (dead : g.cancelled = true) :
    s.clearLoader = s.endGrant.serveLoader := by
  unfold State.clearLoader
  rw [grant]
  exact if_pos dead

theorem State.clearLoader_again (grant : s.loader.grant = some g) (live : g.cancelled = false) (first : g.jams < 2) :
    s.clearLoader = s.setLoader { s.loader with state := .gap, stageTimer := some 0 } := by
  unfold State.clearLoader
  rw [grant]
  exact (if_neg (Bool.eq_false_iff.1 live)).trans (if_neg (Nat.not_le.2 first))

theorem State.clearLoader_second (grant : s.loader.grant = some g) (live : g.cancelled = false) (second : 2 ≤ g.jams) :
    s.clearLoader = (s.endGrant.boomVerdict g.boom .jam .idle).serveLoader := by
  unfold State.clearLoader
  rw [grant]
  exact (if_neg (Bool.eq_false_iff.1 live)).trans (if_pos second)

/-- What the rejection of a hole after a second jam does: a verdict of the boom, and the queue served (R128). -/
structure State.SecondJam (s w : State) (g : LoaderGrant) (i : Slot) : Prop where
  done : s.VerdictDone w g.boom i .jam .idle
  loader : w.loader = s.loaderServed s.loader
  next : ∀ c rest, s.loader.queue = c :: rest → (w.unit c).cycle = .loading ∧ w.Posted (.stage c)

theorem State.secondJam (agrees : s.StagesAgree) (claims : s.ClaimsAgree) (grant : s.loader.grant = some g)
    (live : g.cancelled = false) (claim : s.claimedEntry g.boom = some (i, e)) :
    s.SecondJam (s.endGrant.boomVerdict g.boom .jam .idle).serveLoader g i := by
  obtain ⟨held, slot, here⟩ := State.claimedEntry_eq_some.1 claim
  have apart := agrees.waits_apart grant live
  have claim' : s.endGrant.claimedEntry g.boom = some (i, e) := claim
  have done := State.verdictDone claim' .jam .idle
  have table : s.endGrant.tableVerdict i .jam = (s.tableVerdict i .jam).tableIn s.endGrant :=
    s.tableVerdict_tableIn s.endGrant i .jam
  obtain ⟨loader, other⟩ := done.free ⟨fun queued => apart _ queued rfl, nofun⟩
  have slots := done.slots
  have rows := done.rows
  have backlog := done.backlog
  rw [table] at slots rows backlog
  have queue : (s.endGrant.boomVerdict g.boom .jam .idle).loader.queue = s.loader.queue := by
    rw [loader]
    rfl
  have moves : s.PortsMove ⟨[.verdict g.boom, .stage .A, .stage .B, .flow .A, .flow .B, .table, .row], true, false⟩
      (s.endGrant.boomVerdict g.boom .jam .idle) := done.moves
  have entries : ∀ k f, k ≠ i → s.entry k = some f → (s.endGrant.boomVerdict g.boom .jam .idle).entry k = some f :=
    fun k f other occupied => by
      refine Eq.trans ?_ (State.entry_tableVerdict_occupied here .jam other occupied)
      unfold State.entry
      rw [slots]
      rfl
  generalize s.endGrant.boomVerdict g.boom .jam .idle = w at *
  have served : s.PortsMove ⟨[.verdict g.boom, .stage .A, .stage .B, .flow .A, .flow .B, .table, .row], true, false⟩
      w.serveLoader := .trans moves (.serveLoader (fun b => by cases b <;> simp) w)
  have posted : ∀ n, w.Posted n → w.serveLoader.Posted n := fun n =>
    (State.PortsMove.serveLoader (R := .all) (fun _ => mem_allPairs _) w).posted
  have waits : ∀ c ∈ s.loader.queue, w.unit c = s.unit c ∧ w.plannedFor c = s.plannedFor c := fun c queued => by
    have unit : w.unit c = s.unit c :=
      (Boom.eq_or_eq_other g.boom c).resolve_left (apart c queued) ▸ other
    exact ⟨unit, State.plannedFor_congr (claims.claimedEntry_other (apart c queued) held slot unit entries)⟩
  refine ⟨?_, ?_, fun c rest waiting => ?_⟩
  rotate_left
  · rw [State.serveLoader_loader (by rw [loader]; rfl), State.loaderServed_congr fun c queued => (waits c (queue ▸ queued)).2,
      loader]
    exact s.loaderServed_ended s.loader
  · refine ⟨?_, ?_⟩
    · rw [State.serveLoader_unit, queue, waiting, if_pos List.head?_cons]
    · unfold State.serveLoader
      rw [queue, waiting]
      exact State.post_posted _ _
  refine ⟨w.serveLoader_slots.trans slots, w.serveLoader_rows.trans rows, w.serveLoader_backlog.trans backlog, ?_, ?_,
    fun free => absurd rfl (free.grant g grant live), ?_, ?_, served, posted _ done.verdict, posted _ done.stage, ?_⟩
  · rw [State.serveLoader_unit, queue, if_neg fun head => apart _ (List.mem_of_head? head) rfl, done.unit]
    rfl
  · rw [State.serveLoader_unit, queue, other]
    split
    · rename_i head
      exact .inr ⟨rfl, List.mem_of_head? head⟩
    · exact .inl rfl
  · rw [State.serveLoader_magazine, loader]
    rfl
  · rw [State.serveLoader_arbiter, done.arbiter]
    rfl
  · have frame := done.frame
    obtain ⟨u, l, p, serve⟩ : ∃ u l p, w.serveLoader = { w with units := u, loader := l, ports := p } :=
      ⟨_, _, _, w.serveLoader_frame⟩
    rw [serve, frame]
    rfl

theorem State.serveLoader_endGrant (none : s.loader.grant = none) : s.endGrant.serveLoader = s.serveLoader := by
  unfold State.serveLoader
  rw [show s.endGrant.loader.queue = s.loader.queue from rfl]
  cases s.loader.queue with
  | cons c rest => rfl
  | nil =>
    show s.setLoader { s.loader with state := .idle, grant := Option.none, stageTimer := Option.none } =
      s.setLoader { s.loader with state := .idle, stageTimer := Option.none }
    rw [← none]

/-- The rights of CLEAR JAM (R128). -/
def PortRights.jamCleared : PortRights :=
  ⟨[.verdict .A, .verdict .B, .stage .A, .stage .B, .flow .A, .flow .B, .permit .A, .permit .B, .table, .row, .loader],
    true, false⟩

theorem State.clearLoader_own (s : State) : s.PortsMove .jamCleared s.clearLoader := by
  have stage : ∀ b, NoticePair.stage b ∈ PortRights.jamCleared.notices := fun b => by cases b <;> decide
  unfold State.clearLoader
  split
  · exact .serveLoader stage s
  · split
    · exact .trans (.of_ports rfl rfl) (.serveLoader stage s.endGrant)
    · split
      · rename_i g _ _ _
        exact .trans (.trans (.of_ports rfl rfl) (.boomVerdict stage (fun b => by cases b <;> decide) (by decide)
          (by decide) rfl (by cases g.boom <;> decide) s.endGrant .jam .idle)) (.serveLoader stage _)
      · exact .of_ports rfl rfl

/-- CLEAR JAM moves no lane, no parameter and no cartridge. -/
theorem State.clearLoader_still (s : State) : s.clearLoader.lanes = s.lanes ∧ s.clearLoader.params = s.params ∧
    s.clearLoader.loader.magazine = s.loader.magazine := by
  have served : ∀ z : State, z.serveLoader.lanes = z.lanes ∧ z.serveLoader.params = z.params ∧
      z.serveLoader.loader.magazine = z.loader.magazine := fun z =>
    ⟨z.serveLoader_lanes, by rw [z.serveLoader_frame], z.serveLoader_magazine⟩
  unfold State.clearLoader
  split
  · exact served s
  · rename_i g grant
    split
    · exact served s.endGrant
    · split
      · obtain ⟨lanes, params, magazine⟩ := served (s.endGrant.boomVerdict g.boom .jam .idle)
        rw [lanes, params, magazine]
        cases claim : s.endGrant.claimedEntry g.boom with
        | none =>
          unfold State.boomVerdict
          rw [claim]
          exact ⟨rfl, rfl, rfl⟩
        | some x =>
          have done := State.verdictDone claim .jam .idle
          have frame := done.frame
          exact ⟨by rw [frame]; rfl, by rw [frame]; rfl, done.magazine⟩
      · exact ⟨rfl, rfl, rfl⟩

theorem State.clearLoader_move (s : State) : s.PortsMove .jamCleared (s.acting State.clearLoader) := by
  obtain ⟨lanes, params, magazine⟩ := s.clearLoader_still
  refine .ofActing s.clearLoader_own (fun b _ => by cases b <;> decide) (fun b changed => absurd ?_ changed)
    (fun _ => by decide) fun changed => absurd ?_ changed
  · unfold State.laneInStep State.lane
    rw [lanes]
  · unfold State.magazineLow
    rw [params, magazine]

end

/-- Settles O47: the four cases of the grant. -/
theorem jamCleared : Obligations.JamCleared := by
  intro s takes
  have clear : exec (.clearJam .C) s = .next (s.command .C .clearJam fun s =>
      if s.loader.state = .jammed then taken (s.acting State.clearLoader) .done else refuse s .state) := rfl
  unfold Answers
  rw [clear]
  refine ⟨fun free => State.command_refused takes (if_neg free), fun jammed followed claims agrees => ?_⟩
  have run : s.command .C .clearJam (fun s =>
      if s.loader.state = .jammed then taken (s.acting State.clearLoader) .done else refuse s .state) =
      (s.acting State.clearLoader).answered .C .clearJam .done none := by
    refine State.command_answered takes _ ((if_pos jammed).trans ?_)
    rw [State.acting_setFrame_idle (s.clearLoader_setFrame_idle .C)]
    rfl
  refine ⟨s.acting State.clearLoader, congrArg _ run, s.acting_followed _, ?_⟩
  rw [← and_assoc]
  refine ⟨⟨s.clearLoader_move.beside rfl, s.clearLoader_move.within⟩, fun idle => ?_, fun g grant live =>
    ⟨fun first => ?_, fun i e second held slot here => ?_⟩⟩
  · have ends : s.clearLoader = s.endGrant.serveLoader := by
      rcases idle with absent | ⟨g, grant, dead⟩
      · rw [State.clearLoader_none absent, State.serveLoader_endGrant absent]
      · exact State.clearLoader_cancelled grant dead
    have works : s.LoaderWorks s.endGrant := .setLoader s _
    have served := works.served (l := s.loader) followed agrees ends rfl rfl fun c _ => ⟨rfl, rfl⟩
    have frame := served.frame
    exact ⟨served.loader, ⟨served.slots, by rw [frame], by rw [frame], by rw [frame]⟩, by rw [frame], served.unit⟩
  · have eq := State.clearLoader_again grant live first
    have works : s.LoaderWorks s.clearLoader := eq ▸ .setLoader s _
    have same := (works.acted followed).same
    rw [eq] at same
    rw [same]
    exact ⟨⟨rfl, rfl, rfl, rfl⟩, rfl, rfl, rfl⟩
  · obtain ⟨done, loader, next⟩ := s.secondJam agrees claims grant live
      (State.claimedEntry_eq_some.2 ⟨held, slot, here⟩)
    rw [← State.clearLoader_second grant live second] at done loader next
    refine ⟨done.given (.inl rfl), done.acting_engines followed rfl, by rw [State.acting_loader, loader],
      fun c rest queue => ?_⟩
    obtain ⟨loading, posted⟩ := next c rest queue
    refine ⟨?_, (s.acting_moves _).posted posted⟩
    rw [State.acting_unit]
    exact loading

end Sys2Proof.Machine

/-! ### ABORT and CLEAR -/

namespace Sys2Proof.Machine

open Sys2Proof Sys2Proof.Machine

/-! ### The loader given up, whatever stands beside it -/

/-- The loader without a place of boom `b` in its queue (R130). -/
def Loader.withoutPlace (l : Loader) (b : Boom) : Loader := { l with queue := l.queue.filter fun x => x != b }

/-- The boom holds the grant in a state that lets the loader go on at once (R130). -/
def Loader.letsGo (l : Loader) (b : Boom) : Bool := l.holderIs b && l.state != .firing && l.state != .jammed

section
variable {s z : State} {b : Boom}

theorem State.cancelLoader_goes (h : (s.loader.withoutPlace b).letsGo b = true) :
    s.cancelLoader b = (s.setLoader (s.loader.withoutPlace b)).endGrant.serveLoader := by
  unfold Loader.letsGo at h
  simp only [Bool.and_eq_true, bne_iff_ne] at h
  obtain ⟨⟨holder, firing⟩, jammed⟩ := h
  refine (if_pos holder).trans ?_
  cases state : s.loader.state with
  | firing => exact absurd state firing
  | jammed => exact absurd state jammed
  | _ => simp only [State.setLoader_loader, state]; rfl

theorem State.cancelLoader_stays (h : (s.loader.withoutPlace b).letsGo b = false) : s.cancelLoader b = s.setLoader
    (if (s.loader.withoutPlace b).holderIs b then
      { s.loader.withoutPlace b with grant := s.loader.grant.map LoaderGrant.cancel }
    else s.loader.withoutPlace b) := by
  rcases Bool.eq_false_or_eq_true ((s.loader.withoutPlace b).holderIs b) with holder | free
  · unfold Loader.letsGo at h
    rw [holder, Bool.true_and] at h
    rw [if_pos holder]
    refine (if_pos holder).trans ?_
    cases state : s.loader.state with
    | firing => simp only [State.setLoader_loader, Loader.withoutPlace, state]; rfl
    | jammed => simp only [State.setLoader_loader, Loader.withoutPlace, state]; rfl
    | _ => exact absurd h (by rw [show (s.loader.withoutPlace b).state = s.loader.state from rfl, state]; nofun)
  · rw [if_neg (Bool.eq_false_iff.1 free)]
    exact if_neg (Bool.eq_false_iff.1 free)

/-- Giving up the loader depends on the loader, on the other boom's planned figure, and on its unit. -/
theorem State.cancelLoader_congr (loader : z.loader = s.loader) (unit : z.unit b.other = s.unit b.other)
    (planned : z.plannedFor b.other = s.plannedFor b.other) :
    (z.cancelLoader b).loader = (s.cancelLoader b).loader ∧
      (z.cancelLoader b).unit b.other = (s.cancelLoader b).unit b.other := by
  have others : ∀ c ∈ (s.loader.withoutPlace b).queue, c = b.other := fun c queued =>
    (Boom.eq_or_eq_other b c).resolve_left (bne_iff_ne.1 (List.mem_filter.1 queued).2)
  rcases Bool.eq_false_or_eq_true ((s.loader.withoutPlace b).letsGo b) with goes | stays
  · rw [State.cancelLoader_goes goes, State.cancelLoader_goes (loader ▸ goes), loader]
    refine ⟨?_, ?_⟩
    · rw [State.serveLoader_loader rfl, State.serveLoader_loader rfl]
      exact State.loaderServed_congr fun c queued => others c queued ▸ planned
    · rw [State.serveLoader_unit, State.serveLoader_unit]
      show (if _ then { z.unit b.other with cycle := .loading } else z.unit b.other) = _
      rw [unit]
      rfl
  · rw [State.cancelLoader_stays stays, State.cancelLoader_stays (loader ▸ stays), loader]
    exact ⟨rfl, unit⟩

/-- Giving up the loader changes neither of its statuses (R131). -/
theorem State.cancelLoader_status (s : State) (b : Boom) : (s.cancelLoader b).loaderStatus = s.loaderStatus := by
  have still : ((s.cancelLoader b).loader.state == .jammed) = (s.loader.state == .jammed) := by
    rcases Bool.eq_false_or_eq_true ((s.loader.withoutPlace b).letsGo b) with goes | stays
    · rw [State.cancelLoader_goes goes]
      unfold Loader.letsGo at goes
      simp only [Bool.and_eq_true, bne_iff_ne] at goes
      rw [beq_false_of_ne (show s.loader.state ≠ .jammed from goes.2)]
      unfold State.serveLoader
      split <;> rfl
    · rw [State.cancelLoader_stays stays]
      show ((if _ then _ else _ : Loader).state == _) = _
      split <;> rfl
  unfold State.loaderStatus
  rw [still, State.cancelLoader_magazine]

end

/-! ### The hole disposed of, and the boom halted -/

/-- What giving up the flow and the loader does to a state `z` that differs from `s` in its table, and in the claim of
the boom itself. -/
structure State.Released (s z w : State) (b : Boom) : Prop where
  own : w.unit b = z.unit b
  otherUnit : w.unit b.other = (s.cancelLoader b).unit b.other
  loader : w.loader = (s.cancelLoader b).loader
  arbiter : w.arbiter = s.arbiter.release b
  moves : z.PortsMove ⟨[.verdict b, .stage .A, .stage .B, .flow .A, .flow .B], false, false⟩ w
  frame : w = { z with units := w.units, loader := w.loader, arbiter := w.arbiter, ports := w.ports }

section
variable {s z : State} {b : Boom}

theorem State.released (arbiter : z.arbiter = s.arbiter) (loader : z.loader = s.loader)
    (unit : z.unit b.other = s.unit b.other) (planned : z.plannedFor b.other = s.plannedFor b.other) :
    s.Released z ((z.releaseFlow b).cancelLoader b) b := by
  obtain ⟨a, p, release⟩ := z.releaseFlow_frame b
  have flow := z.releaseFlow_arbiter b
  have moves : z.PortsMove ⟨[.verdict b, .stage .A, .stage .B, .flow .A, .flow .B], false, false⟩
      ((z.releaseFlow b).cancelLoader b) :=
    .trans (.releaseFlow (fun c => by cases c <;> simp) z b) (.cancelLoader (fun c => by cases c <;> simp) _ b)
  generalize z.releaseFlow b = y at *
  obtain ⟨d, u, p', cancel⟩ := y.cancelLoader_frame b
  have same : y.loader = s.loader ∧ y.unit b.other = s.unit b.other ∧ y.plannedFor b.other = s.plannedFor b.other := by
    rw [release]
    exact ⟨loader, unit, planned⟩
  obtain ⟨given, other⟩ := State.cancelLoader_congr same.1 same.2.1 same.2.2
  refine ⟨?_, other, given, ?_, moves, ?_⟩
  · rw [State.cancelLoader_unit_own, release]
    rfl
  · rw [cancel]
    exact flow.trans (by rw [arbiter])
  · rw [cancel, release]

/-- What the disposal of ABORT leaves (R64). -/
structure State.HaltDone (s w : State) (b : Boom) : Prop where
  unit : ∃ held, w.unit b = { s.unit b with cycle := .halted, workSlot := none, claimHeld := held }
  otherUnit : w.unit b.other = (s.cancelLoader b).unit b.other
  loader : w.loader = (s.cancelLoader b).loader
  arbiter : w.arbiter = s.arbiter.release b
  stage : w.Posted (.stage b)
  moves : s.PortsMove ⟨[.verdict b, .stage .A, .stage .B, .flow .A, .flow .B, .table, .row], true, false⟩ w
  frame : w = { s with
    slots := w.slots, rows := w.rows, backlog := w.backlog, units := w.units, loader := w.loader, arbiter := w.arbiter
    ports := w.ports }

section
variable {w : State} (done : s.Released z w b)
include done

/-- A released boom halted. -/
theorem State.Released.halted (own : ∃ held, z.unit b = { s.unit b with claimHeld := held })
    (table : s.PortsMove ⟨[.verdict b, .stage .A, .stage .B, .flow .A, .flow .B, .table, .row], true, false⟩ z)
    (frame : z = { s with slots := z.slots, rows := z.rows, backlog := z.backlog, units := z.units, ports := z.ports }) :
    s.HaltDone (w.setCycle b .halted) b := by
  obtain ⟨held, own⟩ := own
  refine ⟨⟨held, ?_⟩, ?_, done.loader, done.arbiter, State.post_posted _ _, ?_, ?_⟩
  · rw [State.setCycle_unit, done.own, own]
    rfl
  · rw [State.setCycle_unit_other, done.otherUnit]
  · exact .trans (.trans table (done.moves.mono (by simp) nofun nofun))
      (.setCycle (by cases b <;> simp) w .halted)
  · have released := done.frame
    rw [frame] at released
    rw [released]
    rfl

theorem State.Released.post_verdict : s.Released z (w.post (.verdict b)) b := by
  refine ⟨done.own, done.otherUnit, done.loader, done.arbiter, .trans done.moves (.post (by simp) w), ?_⟩
  obtain ⟨u, l, a, p, frame⟩ : ∃ u l a p, w = { z with units := u, loader := l, arbiter := a, ports := p } :=
    ⟨_, _, _, _, done.frame⟩
  rw [frame]
  rfl

end

/-! ### The three disposals -/

section
variable {i : Slot} {e : Entry}

theorem State.haltDone_unclaimed (h : s.claimedEntry b = none) : s.HaltDone (s.disposeAbort b) b := by
  unfold State.disposeAbort
  rw [h]
  exact (State.released rfl rfl rfl rfl).halted ⟨_, rfl⟩ (.refl _ s) rfl

theorem State.haltDone_back (claims : s.ClaimsAgree) (claim : s.claimedEntry b = some (i, e))
    (back : e.goesBack (s.engine b).currentDepth = true) :
    s.HaltDone (s.disposeAbort b) b ∧ (s.disposeAbort b).slots = (s.setEntry i (some e.returned)).slots ∧
      (s.disposeAbort b).rows = ((s.setEntry i (some e.returned)).closingCheck e.row).rows ∧
      (s.disposeAbort b).backlog = s.backlog := by
  obtain ⟨held, slot, here⟩ := State.claimedEntry_eq_some.1 claim
  have eq : s.disposeAbort b = (((s.returnEntry i).releaseFlow b).cancelLoader b).setCycle b .halted := by
    unfold State.disposeAbort
    rw [claim]
    exact if_pos back
  have returned : s.returnEntry i = (s.setEntry i (some e.returned)).closingCheck e.row := by
    unfold State.returnEntry
    rw [here]
  obtain ⟨r, p, frame⟩ : ∃ r p, (s.setEntry i (some e.returned)).closingCheck e.row =
      { s.setEntry i (some e.returned) with rows := r, ports := p } := ⟨_, _, State.closingCheck_frame _ e.row⟩
  have planned : (s.returnEntry i).plannedFor b.other = s.plannedFor b.other := by
    refine State.plannedFor_congr (claims.claimedEntry_other (Boom.other_ne b) held slot ?_ fun j f other occupied => ?_)
    · rw [returned, frame]
      rfl
    · rw [returned, State.entry_closingCheck, State.entry_setEntry_ne s other]
      exact occupied
  have released : s.Released (s.returnEntry i) (((s.returnEntry i).releaseFlow b).cancelLoader b) b := by
    refine State.released ?_ ?_ ?_ planned
    · rw [returned, frame]
      rfl
    · rw [returned, frame]
      rfl
    · rw [returned, frame]
      rfl
  have kept := released.frame
  rw [eq]
  refine ⟨released.halted ⟨(s.unit b).claimHeld, by rw [returned, frame]; rfl⟩ ?_ (by rw [returned, frame]; rfl), ?_, ?_, ?_⟩
  · rw [returned]
    exact .trans (.of_ports rfl rfl) ((State.closingCheck_move _ _).mono (by simp) nofun nofun)
  · have slots := congrArg State.slots kept
    refine Eq.trans slots ?_
    rw [returned, frame]
  · have rows := congrArg State.rows kept
    refine Eq.trans rows ?_
    rw [returned]
  · have backlog := congrArg State.backlog kept
    refine Eq.trans backlog ?_
    rw [returned, frame]
    rfl

/-- The entry whose drilled depth is written where ABORT or RESTART ends its drilling (R3). -/
def Entry.depthNoted (e : Entry) (depth : Nat) : Entry :=
  { e with result := e.result.map fun r =>
    if e.holeState = .drilling then { r with drilledDepth := some depth } else r }

theorem State.noteDepth_eq (claim : s.claimedEntry b = some (i, e)) :
    s.noteDepth b e = s.setEntry i (some (e.depthNoted (s.engine b).currentDepth)) := by
  obtain ⟨_, _, here⟩ := State.claimedEntry_eq_some.1 claim
  unfold State.noteDepth Entry.depthNoted
  split
  · unfold State.writeDrilledDepth
    rw [State.updateResult_some claim]
  · have same : (e.result.map fun r => r) = e.result := by cases e.result <;> rfl
    rw [same, State.setEntry_entry here]

theorem State.haltDone_rejected (claims : s.ClaimsAgree) (claim : s.claimedEntry b = some (i, e))
    (stays : e.goesBack (s.engine b).currentDepth = false) {u : State}
    (noted : u = s.setEntry i (some (e.depthNoted (s.engine b).currentDepth))) :
    s.HaltDone (s.disposeAbort b) b ∧ (s.disposeAbort b).Posted (.verdict b) ∧
      (s.disposeAbort b).slots = (u.tableVerdict i .aborted).slots ∧
      (s.disposeAbort b).rows = (u.tableVerdict i .aborted).rows ∧
      (s.disposeAbort b).backlog = (u.tableVerdict i .aborted).backlog := by
  obtain ⟨held, slot, here⟩ := State.claimedEntry_eq_some.1 claim
  have claim' : u.claimedEntry b = some (i, e.depthNoted (s.engine b).currentDepth) := by
    rw [noted]
    exact State.claimedEntry_eq_some.2 ⟨held, slot, State.entry_setEntry_same s i _⟩
  have eq : s.disposeAbort b = u.boomVerdict b .aborted .halted := by
    unfold State.disposeAbort
    rw [claim, noted, ← State.noteDepth_eq claim]
    exact if_neg (Bool.eq_false_iff.1 stays)
  rw [State.boomVerdict_some claim'] at eq
  have here' := (State.claimedEntry_eq_some.1 claim').2.2
  have unit : ∀ c, (u.tableVerdict i .aborted).unit c = s.unit c := fun c => by
    rw [State.unit_tableVerdict, noted]
    rfl
  have entries : ∀ j f, j ≠ i → s.entry j = some f → (u.tableVerdict i .aborted).entry j = some f :=
    fun j f other occupied => State.entry_tableVerdict_occupied here' .aborted other
      (by rw [noted, State.entry_setEntry_ne s other]; exact occupied)
  have planned : ((u.tableVerdict i .aborted).modUnit b fun u => { u with claimHeld := false }).plannedFor b.other =
      s.plannedFor b.other := by
    refine State.plannedFor_congr (claims.claimedEntry_other (Boom.other_ne b) held slot ?_ entries)
    exact (Pair.get_set_other _ b _).trans (unit b.other)
  obtain ⟨x, r, l, p, table⟩ := u.tableVerdict_frame i .aborted
  have moves : s.PortsMove ⟨[.verdict b, .stage .A, .stage .B, .flow .A, .flow .B, .table, .row], true, false⟩
      (u.tableVerdict i .aborted) :=
    .trans (.of_ports (by rw [noted]; rfl) (by rw [noted]; rfl)) (.tableVerdict (by simp) rfl (by simp) u i .aborted)
  have released := State.released (s := s)
    (z := (u.tableVerdict i .aborted).modUnit b fun u => { u with claimHeld := false }) (b := b)
    (by rw [table, noted]; rfl) (by rw [table, noted]; rfl) ((Pair.get_set_other _ b _).trans (unit b.other)) planned
  have kept := released.frame
  rw [eq]
  refine ⟨released.post_verdict.halted ⟨false, ?_⟩ (.trans moves (.of_ports rfl rfl)) (by rw [table, noted]; rfl), ?_, ?_, ?_, ?_⟩
  · rw [← unit b]
    exact Pair.get_set_same _ b _
  · exact (State.PortsMove.setCycle (R := .all) (mem_allPairs _) _ _).posted (State.post_posted _ _)
  · have slots := congrArg State.slots kept
    exact slots
  · have rows := congrArg State.rows kept
    exact rows
  · have backlog := congrArg State.backlog kept
    exact backlog

end

end

end Sys2Proof.Machine

/-! ### ABORT and CLEAR: their answers -/

namespace Sys2Proof.Machine

open Sys2Proof Sys2Proof.Machine

section
variable {s : State} {b : Boom}

theorem State.noteDepth_setFrame (s : State) (f : Frame) (p : Port) (b : Boom) (e : Entry) :
    (s.setFrame p f).noteDepth b e = (s.noteDepth b e).setFrame p f := by
  unfold State.noteDepth
  rw [State.writeDrilledDepth_setFrame]
  split <;> rfl

theorem State.disposeAbort_setFrame_idle (s : State) (p : Port) (b : Boom) :
    (s.setFrame p .idle).disposeAbort b = (s.disposeAbort b).setFrame p .idle := by
  unfold State.disposeAbort
  simp only [State.claimedEntry_setFrame, State.engine_setFrame, State.returnEntry_setFrame_idle,
    State.releaseFlow_setFrame_idle, State.cancelLoader_setFrame_idle, State.setCycle_setFrame_idle,
    State.noteDepth_setFrame, State.boomVerdict_setFrame_idle]
  split
  · split <;> rfl
  · rfl

theorem State.abortBoom_setFrame_idle (s : State) (p : Port) (b : Boom) :
    State.abortBoom b (s.setFrame p .idle) = (State.abortBoom b s).setFrame p .idle := by
  unfold State.abortBoom
  simp only [State.disposeAbort_setFrame_idle]
  rfl

/-- What the action of ABORT leaves, beside the table (R64). -/
structure State.Aborted (s t : State) (b : Boom) : Prop where
  unit : t.unit b = { BoomUnit.initial with
    cycle := .halted, activeSet := (s.unit b).activeSet, pendingSet := (s.unit b).pendingSet, dry := (s.unit b).dry }
  otherUnit : ((s.cancelLoader b).unit b.other).SameWork (t.unit b.other)
  arbiter : t.arbiter = (s.releaseFlow b).arbiter
  loader : t.loader = (s.cancelLoader b).loader
  stage : t.Posted (.stage b)
  engine : (s.engine b).RunDropped (t.engine b)
  otherEngine : t.engine b.other = s.engine b.other
  moves : s.PortsMove ⟨[.verdict b, .stage .A, .stage .B, .flow .A, .flow .B, .permit .A, .permit .B, .table, .row],
    true, false⟩ t
  frame : t = { s with
    slots := t.slots, rows := t.rows, backlog := t.backlog, units := t.units, engines := t.engines
    loader := t.loader, arbiter := t.arbiter, ports := t.ports }

theorem State.HaltDone.aborted (done : s.HaltDone (s.disposeAbort b) b) (h : s.Followed) :
    s.Aborted (s.acting (State.abortBoom b)) b := by
  obtain ⟨held, unit⟩ := done.unit
  have frame := done.frame
  have own : (State.abortBoom b s).unit b = ((s.disposeAbort b).unit b).cleared := Pair.get_set_same _ b _
  have other : (State.abortBoom b s).unit b.other = (s.cancelLoader b).unit b.other :=
    (Pair.get_set_other _ b _).trans done.otherUnit
  have rest : ((State.abortBoom b s).unit b).cycle.atRest = true := by
    rw [own, unit]
    rfl
  have engine : (State.abortBoom b s).engine b = (s.engine b).dropRun := by
    refine (Pair.get_set_same _ b _).trans ?_
    show ((s.disposeAbort b).engine b).dropRun = _
    rw [frame]
    rfl
  have engines : (State.abortBoom b s).engine b.other = s.engine b.other := by
    refine (Pair.get_set_other _ b _).trans ?_
    show (s.disposeAbort b).engine b.other = _
    rw [frame]
    rfl
  have lane : ∀ c, (State.abortBoom b s).laneInStep c = s.laneInStep c := fun c => by
    show (s.disposeAbort b).laneInStep c = _
    rw [frame]
    rfl
  have moves := done.moves
  refine ⟨?_, ?_, ?_, ?_, (s.acting_moves _).posted done.stage, ?_, ?_, ?_, ?_⟩
  · rw [State.acting_unit_atRest rest, own, unit]
    rfl
  · rw [State.acting_unit, other]
    exact BoomUnit.follow_sameWork _ _ _
  · rw [State.acting_arbiter, State.releaseFlow_arbiter]
    exact done.arbiter
  · rw [State.acting_loader]
    exact done.loader
  · rw [State.acting_engine_of_ne (CycleState.ne_torquing_of_atRest rest), engine]
    exact Engine.dropRun_runDropped _
  · refine (h b.other).acting_engine_kept engines fun torquing present => ?_
    rw [other] at torquing
    rcases s.cancelLoader_unit b b.other with same | ⟨_, loading, _⟩
    · refine ⟨same ▸ torquing, State.present_of_fewer (by rw [other, same]) (by rw [other]; exact torquing) (lane _) ?_ present⟩
      show (s.disposeAbort b).arbiter.queue.Sublist s.arbiter.queue
      rw [done.arbiter]
      exact s.arbiter.release_queue b
    · rw [loading] at torquing
      exact absurd torquing nofun
  · refine .ofActing (.trans (moves.mono (by simp) id id) (.of_ports rfl rfl)) (fun c _ => by cases c <;> simp)
      (fun c changed => absurd (lane c).symm changed) (fun changed => absurd ?_ changed) fun changed => absurd ?_ changed
    · rw [← s.cancelLoader_status b]
      show ((s.cancelLoader b).loader.state == _ || (s.cancelLoader b).loader.magazine == _) =
        ((s.disposeAbort b).loader.state == _ || (s.disposeAbort b).loader.magazine == _)
      rw [done.loader]
    · show decide (s.loader.magazine ≤ _) = decide ((s.disposeAbort b).loader.magazine ≤
        (s.disposeAbort b).params.settings.lowMark)
      rw [done.loader, State.cancelLoader_magazine, frame]
  · obtain ⟨u, g, q, whole⟩ := s.acting_frame (State.abortBoom b)
    obtain ⟨x, r, l, v, d, a, p, eq⟩ : ∃ x r l v d a p, s.disposeAbort b = { s with
        slots := x, rows := r, backlog := l, units := v, loader := d, arbiter := a, ports := p } :=
      ⟨_, _, _, _, _, _, _, frame⟩
    have parts : State.abortBoom b s = { s with
        slots := x, rows := r, backlog := l, units := v.set b ((v.get b).cleared), engines := (s.engines.set b
          (s.engines.get b).dropRun), loader := d, arbiter := a, ports := p } := by
      unfold State.abortBoom
      rw [eq]
      rfl
    rw [whole, parts]

end

theorem Entry.goesBack_iff {e : Entry} {d : Nat} : e.goesBack d = true ↔
    e.validity = .held ∨ e.holeState = .claimed ∨ (e.holeState = .drilling ∧ d < 100) := by
  unfold Entry.goesBack rejectDepth
  simp only [Bool.or_eq_true, Bool.and_eq_true, beq_iff_eq, decide_eq_true_iff, or_assoc]

/-- Settles O39: the three disposals of ABORT, and CLEAR. -/
theorem abortHaltsAndClearFrees : Obligations.AbortHaltsAndClearFrees := by
  intro boom s takes
  have abort : exec (.abort .C boom) s = .next (s.command .C .abort fun s => s.supervise .C boom fun b =>
      if (s.unit b).cycle = .idle ∨ (s.unit b).cycle = .halted then refuse s .state
      else ⟨s.acting (State.abortBoom b), .done, s.claimedSlot b⟩) := rfl
  have clear : exec (.clear .C boom) s = .next (s.command .C .clear fun s => s.supervise .C boom fun b =>
      if (s.unit b).cycle ≠ .halted then refuse s .state
      else taken (s.acting fun s => s.setCycle b .idle) .done) := rfl
  unfold Answers
  rw [abort, clear]
  refine ⟨fun none_named => ⟨State.command_refused takes (State.supervise_none none_named),
    State.command_refused takes (State.supervise_none none_named)⟩, ?_⟩
  rintro b rfl
  simp only [State.supervise_boom]
  refine ⟨fun quiet => State.command_refused takes (if_pos quiet), fun busy => State.command_refused takes (if_pos busy),
    fun halted followed => ?_, fun idle halted followed claims => ?_⟩
  · obtain ⟨unit, otherUnit, posted, moves, frame⟩ := followed.parked (c := .idle) (by rw [halted]; rfl) rfl
    refine ⟨_, congrArg _ (State.command_answered takes _ ((if_neg (not_not.2 halted)).trans ?_)), unit, otherUnit,
      posted, moves.within, moves.kept rfl rfl, frame⟩
    rw [State.acting_setFrame_idle (f := fun s => s.setCycle b .idle) (State.setCycle_setFrame_idle s .C b .idle)]
    rfl
  · have slot : s.claimedSlot b = if (s.unit b).claimHeld then (s.unit b).workSlot else none := by
      rcases Bool.eq_false_or_eq_true (s.unit b).claimHeld with yes | no
      · obtain ⟨_, _, i, e, slot, here, _⟩ := claims.working b yes
        unfold State.claimedSlot
        rw [State.claimedEntry_eq_some.2 ⟨yes, slot, here⟩, if_pos yes, slot]
        rfl
      · unfold State.claimedSlot
        rw [State.claimedEntry_none no, if_neg (Bool.eq_false_iff.1 no)]
        rfl
    have run := State.command_answered (c := .done) (slot := s.claimedSlot b) (t := s.acting (State.abortBoom b)) takes .abort
      (run := fun s => if (s.unit b).cycle = .idle ∨ (s.unit b).cycle = .halted then refuse s .state
        else ⟨s.acting (State.abortBoom b), .done, s.claimedSlot b⟩)
      ((if_neg (not_or.2 ⟨idle, halted⟩)).trans (by
        rw [State.acting_setFrame_idle (s.abortBoom_setFrame_idle .C b)]
        rfl))
    rw [slot] at run
    refine ⟨_, congrArg _ run, ?_⟩
    have whole : s.HaltDone (s.disposeAbort b) b → s.Aborted (s.acting (State.abortBoom b)) b := fun done =>
      done.aborted followed
    have table : (s.acting (State.abortBoom b)).slots = (s.disposeAbort b).slots ∧
        (s.acting (State.abortBoom b)).rows = (s.disposeAbort b).rows ∧
        (s.acting (State.abortBoom b)).backlog = (s.disposeAbort b).backlog :=
      ⟨by rw [State.acting_slots]; rfl, by rw [State.acting_rows]; rfl, by rw [State.acting_backlog]; rfl⟩
    obtain ⟨slots, rows, backlog⟩ := table
    rw [slots, rows, backlog]
    have done : s.HaltDone (s.disposeAbort b) b := by
      cases claim : s.claimedEntry b with
      | none => exact State.haltDone_unclaimed claim
      | some c =>
        obtain ⟨i, e⟩ := c
        rcases Bool.eq_false_or_eq_true (e.goesBack (s.engine b).currentDepth) with back | stays
        · exact (State.haltDone_back claims claim back).1
        · exact (State.haltDone_rejected claims claim stays rfl).1
    obtain ⟨unit, otherUnit, arbiter, loader, stage, engine, otherEngine, moves, frame⟩ := done.aborted followed
    refine ⟨unit, otherUnit, s.acting_followed _, arbiter, loader, stage, engine, otherEngine, moves.beside rfl,
      moves.within, ?_, fun unclaimed => ?_, fun i e held slot here => ⟨fun back => ?_, fun wet begun deep => ?_⟩⟩
    · rw [← slots, ← rows, ← backlog]
      exact frame
    · have none_claimed := State.claimedEntry_none unclaimed
      have eq : s.disposeAbort b = ((s.releaseFlow b).cancelLoader b).setCycle b .halted := by
        unfold State.disposeAbort
        rw [none_claimed]
      have released := (State.released (s := s) (z := s) (b := b) rfl rfl rfl rfl).frame
      rw [eq]
      have same_slots := congrArg State.slots released
      have same_rows := congrArg State.rows released
      have same_backlog := congrArg State.backlog released
      exact ⟨same_slots, same_rows, same_backlog⟩
    · exact (State.haltDone_back claims (State.claimedEntry_eq_some.2 ⟨held, slot, here⟩) (Entry.goesBack_iff.2 back)).2
    · have stays : e.goesBack (s.engine b).currentDepth = false := Bool.eq_false_iff.2 fun k => by
        rcases Entry.goesBack_iff.1 k with dry | claimed | ⟨drilling, shallow⟩
        · exact wet dry
        · exact begun claimed
        · exact absurd (deep drilling) (Nat.not_le.2 shallow)
      have claim : s.claimedEntry b = some (i, e) := State.claimedEntry_eq_some.2 ⟨held, slot, here⟩
      have posted := (State.haltDone_rejected claims claim stays rfl).2.1
      exact ⟨(s.acting_moves _).posted posted, fun u noted => (State.haltDone_rejected claims claim stays noted).2.2⟩

end Sys2Proof.Machine

/-! ### The expiries of the stage timers -/

namespace Sys2Proof.Machine

open Sys2Proof Sys2Proof.Machine

/-! ### Entry into TORQUING -/

/-- The unit of a boom that enters TORQUING with no other stage's timer (R58, R59). -/
theorem BoomUnit.follow_torquing {u : BoomUnit} (abandon : u.abandonTimer = none) (spin : u.spinTimer = none)
    (torque : u.torqueTimer = .notStarted) (feed : u.feed = false) (x : Holds) (held : Bool) :
    BoomUnit.follow { u with cycle := .torquing } x held = { u with
      cycle := .torquing, holds := x, setTimer := none
      turn := (BoomUnit.follow { u with cycle := .torquing } x held).turn
      torqueTimer := if (BoomUnit.follow { u with cycle := .torquing } x held).running then .running 0
        else .notStarted } := by
  cases present : x.present <;>
    simp [BoomUnit.follow, BoomUnit.nextAbandon, BoomUnit.nextSpin, BoomUnit.nextSet, BoomUnit.nextTorque,
      BoomUnit.feedCondition, BoomUnit.running, CycleState.holdable, abandon, spin, torque, feed, present]

section
variable {s : State} {b : Boom} {i : Slot} {e : Entry}

theorem State.enterTorquing_eq (claim : s.claimedEntry b = some (i, e)) : s.enterTorquing b =
    s.stageStarted b i e { s.unit b with cycle := .torquing } .torquing := by
  unfold State.enterTorquing State.stageStarted
  rw [State.setEntry_entry (State.claimedEntry_eq_some.1 claim).2.2]
  rfl

/-- What the entry into TORQUING leaves (R58, R59). -/
structure State.TorquingEntered (s t : State) (b : Boom) : Prop where
  unit : t.unit b = { s.unit b with
    cycle := .torquing, holds := (t.unit b).holds, setTimer := none, turn := (t.unit b).turn
    torqueTimer := if (t.unit b).running then .running 0 else .notStarted }
  engine : t.engine b = if (t.unit b).running then s.engine b else (s.engine b).dropTorqueRun
  otherEngine : t.engine b.other = s.engine b.other
  otherUnit : t.unit b.other = s.unit b.other
  arbiter : t.arbiter = if (s.unit b).dry then s.arbiter else (s.requestFlow ⟨b, .torquing, 40, 40⟩).arbiter
  posted : t.Posted (.stage b)
  moves : s.PortsMove ⟨[.stage b, .flow .A, .flow .B], false, false⟩ t
  frame : t = { s with units := t.units, engines := t.engines, arbiter := t.arbiter, ports := t.ports }

theorem State.Followed.torquingEntered (h : s.Followed) (here : (s.unit b).cycle = .setting)
    (claim : s.claimedEntry b = some (i, e)) {f : State → State} (hf : f s = s.enterTorquing b) :
    s.TorquingEntered (s.acting f) b := by
  have eq := hf.trans (State.enterTorquing_eq claim)
  have beside : s.BesideBoom (f s) b := eq ▸ s.stageStarted_beside b i e _ _
  have abandon : (s.unit b).abandonTimer = none :=
    Option.not_isSome_iff_eq_none.1 (by rw [(h b).abandon, here]; nofun)
  have feed : (s.unit b).feed = false := by
    rw [(h b).feed, here]
    rfl
  have unit := State.acting_unit_stage (s := s) (b := b) (f := f) beside.held
  rw [eq, State.stageStarted_unit] at unit
  have whole : (s.acting f).unit b = { s.unit b with
      cycle := .torquing, holds := ((s.acting f).unit b).holds, setTimer := none, turn := ((s.acting f).unit b).turn
      torqueTimer := if ((s.acting f).unit b).running then .running 0 else .notStarted } := by
    refine Eq.trans unit ((BoomUnit.follow_torquing abandon ((h b).spin (by rw [here]; nofun))
      ((h b).torque (by rw [here]; nofun) (by rw [here]; nofun)) feed _ _).trans ?_)
    rw [← unit]
  have holds : ((s.acting f).unit b).holds = (f s).holdConditions b := by
    rw [State.acting_unit]
    rfl
  refine ⟨whole, ?_, ?_, beside.acting_unit_other h, ?_, ?_, ?_, ?_⟩
  · have torquing : ((f s).unit b).cycle = .torquing := by rw [eq, State.stageStarted_unit]
    have running : ((s.acting f).unit b).running = !((s.acting f).unit b).holds.present := by
      rw [whole]
      rfl
    have engine : (f s).engine b = s.engine b := by
      rw [State.engine, beside.engines]
      rfl
    rw [State.acting_engine, running, ← holds, engine]
    cases present : ((s.acting f).unit b).holds.present <;> simp [torquing]
  · exact (h b.other).acting_engine beside.unit (by rw [State.engine, beside.engines]; rfl) beside.queue
      (beside.laneInStep _)
  · rw [State.acting_arbiter, eq]
    exact State.stageStarted_arbiter (u := { s.unit b with cycle := .torquing }) (x := .torquing) rfl
  · refine (s.acting_moves f).posted ?_
    rw [eq]
    exact s.stageStarted_posted b i e _ _
  · refine beside.acting_moves h ?_ fun changed => absurd (by rw [whole]) changed
    rw [eq]
    exact State.stageStarted_move (by simp) (by cases b <;> simp) fun _ => by cases b <;> simp [Boom.other]
  · obtain ⟨v, g, q, acted⟩ := s.acting_frame f
    obtain ⟨a, p, frame⟩ := s.stageStarted_frame b i e { s.unit b with cycle := .torquing } .torquing
    rw [acted, eq, frame, State.setEntry_entry (State.claimedEntry_eq_some.1 claim).2.2]

end

/-! ### The end of drilling -/

section
variable {s : State} {b : Boom} {i : Slot} {e : Entry} {r : Result}

/-- The state with the run of a drilling hole dropped, and its entry written. -/
def State.runDropped (s : State) (b : Boom) (i : Slot) (e : Entry) : State :=
  (s.setEntry i (some e)).setEngine b (s.engine b).dropRun

/-- A rejected drilling hole with its depth (R3, R53). -/
def Entry.depthWritten (e : Entry) (r : Result) (depth : Nat) : Entry :=
  { e with result := some { r with drilledDepth := some depth } }

/-- A drilled hole with its depth (R3, R52). -/
def Entry.drilledTo (e : Entry) (r : Result) (depth : Nat) : Entry :=
  { e with holeState := .drilled, result := some { r with drilledDepth := some depth } }

theorem State.rejectDrilling_wet (claim : s.claimedEntry b = some (i, e)) (drilled : e.result = some r)
    (wet : (s.unit b).dry = false) (v : VerdictReason) : s.rejectDrilling b v =
      (s.runDropped b i (e.depthWritten r (s.engine b).currentDepth)).boomVerdict b v .withdrawing := by
  unfold State.rejectDrilling State.writeDrilledDepth
  rw [if_neg (Bool.eq_false_iff.1 wet), State.updateResult_some claim, drilled]
  rfl

theorem State.endDrilling_eq (claim : s.claimedEntry b = some (i, e)) (drilled : e.result = some r) :
    s.endDrilling b = (s.runDropped b i (e.drilledTo r (s.engine b).currentDepth)).leaveStage b .withdrawing := by
  obtain ⟨held, slot, _⟩ := State.claimedEntry_eq_some.1 claim
  have again : (s.runDropped b i (e.depthWritten r (s.engine b).currentDepth)).claimedEntry b = some (i, _) :=
    State.claimedEntry_eq_some.2 ⟨held, slot, State.entry_setEntry_same s i _⟩
  have written : (s.writeDrilledDepth b).setEngine b (s.engine b).dropRun =
      s.runDropped b i (e.depthWritten r (s.engine b).currentDepth) := by
    unfold State.writeDrilledDepth
    rw [State.updateResult_some claim, drilled]
    rfl
  unfold State.endDrilling
  rw [written, State.updateClaimed_some again]
  unfold State.runDropped State.setEntry State.setEngine
  rw [Vector.set_set]
  rfl

theorem State.rejectDrilling_dry (dry : (s.unit b).dry = true) (v : VerdictReason) :
    s.rejectDrilling b v = s.endDrilling b := if_pos dry

end

end Sys2Proof.Machine

/-! ### Drilling ended, and verdicts from a sample or an expiry -/

namespace Sys2Proof.Machine

open Sys2Proof Sys2Proof.Machine

/-! ### A stage left -/

/-- A boom that has drilled has no timer but the lane abandon timer (R47, R56 to R59). -/
theorem BoomUnit.rested_drilled {u : BoomUnit} {c : CycleState} (spin : u.spinTimer = none) (set : u.setTimer = none)
    (torque : u.torqueTimer = .notStarted) : BoomUnit.rested { u with cycle := c } = { u with
      cycle := c, holds := ⟨false, false, false⟩, abandonTimer := none, feed := false, turn := false } := by
  obtain ⟨_, _, _, _, _, _, _, _, _, _, _, _, _, _, _⟩ := u
  subst spin set torque
  rfl

section
variable {s y : State} {b : Boom}

theorem State.leaveStage_frame_eq (y : State) (b : Boom) (c : CycleState) : ∃ a p, y.leaveStage b c =
    { y with units := (y.setCycle b c).units, arbiter := a, ports := p } := by
  obtain ⟨a, p, h⟩ := (y.setCycle b c).releaseFlow_frame b
  exact ⟨a, p, h⟩

theorem State.leaveStage_arbiter (y : State) (b : Boom) (c : CycleState) :
    (y.leaveStage b c).arbiter = y.arbiter.release b := (y.setCycle b c).releaseFlow_arbiter b

theorem State.leaveStage_unit (y : State) (b x : Boom) (c : CycleState) :
    (y.leaveStage b c).unit x = (y.setCycle b c).unit x := State.unit_releaseFlow _ b x

theorem State.leaveStage_move {R : PortRights} (stage : .stage b ∈ R.notices) (flow : ∀ c, .flow c ∈ R.notices)
    (y : State) (c : CycleState) : y.PortsMove R (y.leaveStage b c) :=
  .trans (.setCycle stage y c) (.releaseFlow flow _ b)

theorem State.leaveStage_posted (y : State) (b : Boom) (c : CycleState) : (y.leaveStage b c).Posted (.stage b) :=
  (State.PortsMove.releaseFlow (R := .all) (fun _ => mem_allPairs _) _ b).posted (State.post_posted _ _)

/-- The states that an action of boom `b` starts from: `s` with its own table, its engine and its notices written. -/
structure State.Written (s y : State) (b : Boom) : Prop where
  frame : y = { s with slots := y.slots, engines := y.engines, ports := y.ports }
  other : y.engine b.other = s.engine b.other

namespace State.Written
variable (k : s.Written y b)
include k

theorem unit (c : Boom) : y.unit c = s.unit c := by
  rw [k.frame]
  rfl

theorem laneInStep (c : Boom) : y.laneInStep c = s.laneInStep c := by
  rw [k.frame]
  rfl

theorem through {f g : State → State} (h : f s = g y) : s.acting f = y.acting g :=
  State.acting_through (by rw [k.frame]) (by rw [k.frame]) (by rw [k.frame]) (by rw [k.frame]) h

theorem follows (h : s.BoomFollows b.other) : y.BoomFollows b.other :=
  h.congr (k.unit _) (by rw [k.frame]) (k.laneInStep _) (by rw [k.frame]; rfl) fun _ => k.other

theorem stagesAgree (h : s.StagesAgree) : y.StagesAgree :=
  (State.SameStages.of (by rw [k.frame]) (by rw [k.frame]) (by rw [k.frame])).stagesAgree h

end State.Written

/-- A release may let the other boom run, and changes no more of its work; its engine is kept (R153). -/
theorem State.BoomFollows.otherEngine_kept {f : State → State} (h : y.BoomFollows b.other)
    (engine : (f y).engine b.other = y.engine b.other) (unit : (f y).unit b.other = y.unit b.other)
    (lane : (f y).laneInStep b.other = y.laneInStep b.other)
    (queue : (f y).arbiter.queue.Sublist y.arbiter.queue) : (y.acting f).engine b.other = y.engine b.other :=
  h.acting_engine_kept engine fun torquing present =>
    ⟨unit ▸ torquing, State.present_of_fewer (by rw [unit]) torquing lane queue present⟩

/-- What the end of drilling leaves, from the state `y` that its run was written in (R52, R67). -/
structure State.DrillingEnded (s y t : State) (b : Boom) : Prop where
  slots : t.slots = y.slots
  unit : t.unit b = { s.unit b with
    cycle := .withdrawing, holds := ⟨false, false, false⟩, abandonTimer := none, feed := false, turn := false }
  otherUnit : (s.unit b.other).SameWork (t.unit b.other)
  engine : t.engine b = y.engine b
  otherEngine : t.engine b.other = s.engine b.other
  arbiter : t.arbiter = (s.releaseFlow b).arbiter
  posted : t.Posted (.stage b)
  followed : t.Followed
  moves : y.PortsMove ⟨[.stage b, .flow .A, .flow .B, .permit .A, .permit .B], false, false⟩ t
  frame : t = { s with
    slots := t.slots, units := t.units, engines := t.engines, arbiter := t.arbiter, ports := t.ports }

theorem State.Followed.drillingEnded (h : s.Followed) (here : (s.unit b).cycle = .drilling) (k : s.Written y b)
    {f : State → State} (hf : f s = y.leaveStage b .withdrawing) : s.DrillingEnded y (s.acting f) b := by
  obtain ⟨a, p, frame⟩ := y.leaveStage_frame_eq b .withdrawing
  have own : (y.leaveStage b .withdrawing).unit b = { s.unit b with cycle := .withdrawing } := by
    rw [State.leaveStage_unit, State.setCycle_unit, k.unit]
    rfl
  have other : (y.leaveStage b .withdrawing).unit b.other = y.unit b.other := by
    rw [State.leaveStage_unit, State.setCycle_unit_other]
  have rest : ((y.leaveStage b .withdrawing).unit b).cycle.atRest = true := by
    rw [own]
    rfl
  have engines : (y.leaveStage b .withdrawing).engines = y.engines := by rw [frame]
  have arbiter : (y.leaveStage b .withdrawing).arbiter = s.arbiter.release b := by
    rw [State.leaveStage_arbiter, k.frame]
  rw [k.through (g := fun v => v.leaveStage b .withdrawing) hf]
  refine ⟨?_, ?_, ?_, ?_, ?_, ?_, ?_, y.acting_followed _, ?_, ?_⟩
  · rw [State.acting_slots, frame]
  · refine (State.acting_unit_atRest rest).trans ?_
    have spin := (h b).spin (by rw [here]; nofun)
    have set := (h b).set (by rw [here]; nofun)
    have torque := (h b).torque (by rw [here]; nofun) (by rw [here]; nofun)
    rw [own]
    exact BoomUnit.rested_drilled spin set torque
  · rw [State.acting_unit, other, k.unit]
    exact BoomUnit.follow_sameWork _ _ _
  · refine (State.acting_engine_of_ne (CycleState.ne_torquing_of_atRest rest)).trans ?_
    rw [State.engine, engines]
    rfl
  · refine Eq.trans ?_ k.other
    refine State.BoomFollows.otherEngine_kept (k.follows (h b.other)) (by rw [State.engine, engines]; rfl) other
      (by rw [frame]; rfl) ?_
    rw [arbiter, show y.arbiter = s.arbiter by rw [k.frame]]
    exact s.arbiter.release_queue b
  · rw [State.acting_arbiter, arbiter, State.releaseFlow_arbiter]
  · exact (y.acting_moves _).posted (y.leaveStage_posted b _)
  · refine .ofActing (State.leaveStage_move (by simp) (fun c => by cases c <;> simp) y .withdrawing)
      (fun c _ => by cases c <;> simp) (fun c changed => absurd ?_ changed) (fun changed => absurd ?_ changed)
      fun changed => absurd ?_ changed
    · rw [frame]
      rfl
    · rw [frame]
      rfl
    · rw [frame]
      rfl
  · obtain ⟨u, g, q, whole⟩ := y.acting_frame fun v => v.leaveStage b .withdrawing
    rw [whole, frame, k.frame]

end

/-! ### Verdicts on a state with its engine written -/

section
variable {z t : State} {b : Boom} {i : Slot} {e : Entry} {v : VerdictReason} {next : CycleState} {g : Engine}

/-- The engine of the boom itself is beside its verdict. -/
theorem VerdictGiven.ofSetEngine (given : VerdictGiven (z.setEngine b g) t b i v next)
    (other : z.BoomFollows b.other → t.engine b.other = z.engine b.other) : VerdictGiven z t b i v next := by
  have table : (z.setEngine b g).tableVerdict i v = (z.tableVerdict i v).tableIn (z.setEngine b g) :=
    z.tableVerdict_tableIn (z.setEngine b g) i v
  have slots := given.slots
  have rows := given.rows
  have backlog := given.backlog
  have arbiter := given.arbiter
  rw [table] at slots rows backlog
  rw [State.releaseFlow_arbiter] at arbiter
  exact ⟨slots, rows, backlog, given.unit, by rw [State.releaseFlow_arbiter]; exact arbiter,
    fun agrees => given.beside ((State.SameStages.setEngine z b g).stagesAgree agrees),
    fun follows => other (follows b.other), given.verdict, given.stage, given.followed, given.lanes, given.params,
    given.protection, given.ports, given.within, given.own⟩

/-- A verdict of boom `b`, given on `z` with its engine written. -/
structure State.VerdictActed (z t : State) (b : Boom) (i : Slot) (v : VerdictReason) (next : CycleState) (g : Engine) :
    Prop where
  given : VerdictGiven z t b i v next
  engine : t.engine b = g
  otherEngine : z.BoomFollows b.other → t.engine b.other = z.engine b.other

theorem State.verdictActed {s : State} {f : State → State} (claim : z.claimedEntry b = some (i, e))
    (ends : next = .idle ∨ next = .halted ∨ next = .withdrawing) (k : s.Written (z.setEngine b g) b)
    (hf : f s = (z.setEngine b g).boomVerdict b v next) : z.VerdictActed (s.acting f) b i v next g := by
  have claim' : (z.setEngine b g).claimedEntry b = some (i, e) := claim
  have done := State.verdictDone claim' v next
  have given := State.VerdictDone.given (f := fun y => y.boomVerdict b v next) done ends
  have rest : next.atRest = true := by
    rcases ends with rfl | rfl | rfl <;> rfl
  rw [k.through (g := fun y => y.boomVerdict b v next) hf]
  have other : z.BoomFollows b.other →
      ((z.setEngine b g).acting fun y => y.boomVerdict b v next).engine b.other = z.engine b.other := fun follows => by
    have still : (z.setEngine b g).engine b.other = z.engine b.other := Pair.get_set_other z.engines b g
    have follows' : (z.setEngine b g).BoomFollows b.other := follows.congr rfl rfl rfl rfl fun _ => still
    refine (follows'.acting_engine_kept (done.engine _) fun torquing present => ?_).trans still
    rcases done.otherUnit with same | ⟨loading, _⟩
    · refine ⟨same ▸ torquing, State.present_of_fewer (by rw [same]) torquing (done.laneInStep _) ?_ present⟩
      rw [done.arbiter]
      exact (z.setEngine b g).arbiter.release_queue b
    · rw [loading] at torquing
      exact absurd torquing nofun
  refine ⟨given.ofSetEngine other, ?_, other⟩
  refine (State.acting_engine_of_ne ?_).trans ((done.engine b).trans (Pair.get_set_same z.engines b g))
  rw [done.unit]
  exact CycleState.ne_torquing_of_atRest rest

end

end Sys2Proof.Machine

/-! ### The expiries of the stage timers: what they bring -/

namespace Sys2Proof.Machine

open Sys2Proof Sys2Proof.Machine

section
variable {s : State} {b : Boom} {i : Slot} {e : Entry} {r : Result}

theorem State.written_runDropped (s : State) (b : Boom) (i : Slot) (e : Entry) : s.Written (s.runDropped b i e) b :=
  ⟨rfl, Pair.get_set_other s.engines b _⟩

theorem State.setEntry_claimed (claim : s.claimedEntry b = some (i, e)) (f : Entry) :
    (s.setEntry i (some f)).claimedEntry b = some (i, f) := by
  obtain ⟨held, slot, _⟩ := State.claimedEntry_eq_some.1 claim
  exact State.claimedEntry_eq_some.2 ⟨held, slot, State.entry_setEntry_same s i _⟩

/-- A drilling hole rejected by an expiry, but in a dry run (R53). -/
theorem State.drillingRejected {f : State → State} (claim : s.claimedEntry b = some (i, e))
    (drilled : e.result = some r) (wet : (s.unit b).dry = false) {v : VerdictReason} (hf : f s = s.rejectDrilling b v) :
    (s.setEntry i (some (e.depthWritten r (s.engine b).currentDepth))).VerdictActed (s.acting f) b i v .withdrawing
      (s.engine b).dropRun :=
  State.verdictActed (State.setEntry_claimed claim _) (.inr (.inr rfl)) (s.written_runDropped b i _)
    (hf.trans (State.rejectDrilling_wet claim drilled wet v))

/-- A verdict of a boom with its engine as it was. -/
theorem State.verdictTaken {f : State → State} (claim : s.claimedEntry b = some (i, e)) {v : VerdictReason}
    (h : s.Followed) (hf : f s = s.boomVerdict b v .idle) :
    VerdictGiven s (s.acting f) b i v .idle ∧ (s.acting f).engines = s.engines := by
  have done := State.verdictDone claim v .idle
  rw [← hf] at done
  exact ⟨done.given (.inl rfl), done.acting_engines h rfl⟩

end

/-- Settles O51: each expiry, by the cycle state that it is met in. -/
theorem stageTimersExpire : Obligations.StageTimersExpire := by
  intro b s followed
  have abandon : exec (.laneAbandonExpiry b) s = .next (s.event fun s =>
      if (s.unit b).cycle = .drilling ∧ expired (s.active b).laneAbandon (s.unit b).abandonTimer = true then
        s.rejectDrilling b .laneLost else s) := rfl
  have spin : exec (.spinMaxExpiry b) s = .next (s.event fun s =>
      if (s.unit b).cycle = .spinning ∧ expired (s.active b).spinMax (s.unit b).spinTimer = true then
        s.boomVerdict b .spinShort .idle else s) := rfl
  have set : exec (.setTimerExpiry b) s = .next (s.event fun s =>
      if (s.unit b).cycle = .setting ∧ expired (s.active b).setTime (s.unit b).setTimer = true then s.enterTorquing b
      else s) := rfl
  have torque : exec (.torqueStageExpiry b) s = .next (s.event fun s =>
      if (s.unit b).cycle = .torquing ∧ expired (s.active b).torqueStage (s.unit b).torqueTimer.elapsed = true then
        s.boomVerdict b (if (s.engine b).seated then .torqueLow else .noSeat) .idle else s) := rfl
  rw [abandon, spin, set, torque]
  have waits : ∀ {c : CycleState} {d : Nat} {timer : Option Nat} {f : State → State},
      (s.isHeld = true ∨ (s.unit b).cycle ≠ c ∨ ∀ n, timer = some n → n < d) →
      (¬ ((s.unit b).cycle = c ∧ expired d timer = true) → f s = s) → s.event f = s := fun quiet same => by
    rcases quiet with held | other | early
    · exact State.event_held held
    · exact followed.event_same (same fun due => other due.1)
    · exact followed.event_same (same fun due => not_expired early due.2)
  refine ⟨⟨fun quiet => congrArg _ (waits quiet fun k => if_neg k), fun quiet => congrArg _ (waits quiet fun k => if_neg k),
    fun quiet => congrArg _ (waits quiet fun k => if_neg k), fun quiet => congrArg _ (waits ?_ fun k => if_neg k)⟩,
    fun i e r up held slot here drilled => ?_⟩
  · exact quiet.imp_right fun k => k.imp_right fun early n running => early n (TorqueTimer.elapsed_eq_some.1 running)
  have claim : s.claimedEntry b = some (i, e) := State.claimedEntry_eq_some.2 ⟨held, slot, here⟩
  simp only [State.event_runs up]
  refine ⟨fun n cycle timer past => ⟨_, rfl, ?_⟩, fun n cycle timer past => ⟨_, rfl, ?_⟩,
    fun n cycle timer past => ⟨_, rfl, ?_⟩, fun n cycle timer past => ⟨_, rfl, ?_⟩⟩
  · generalize run : (fun s : State => if (s.unit b).cycle = .drilling ∧
      expired (s.active b).laneAbandon (s.unit b).abandonTimer = true then s.rejectDrilling b .laneLost else s) = f
    have fires : f s = s.rejectDrilling b .laneLost := by
      rw [← run]
      exact if_pos ⟨cycle, expired_iff.2 ⟨n, timer, past⟩⟩
    rcases Bool.eq_false_or_eq_true (s.unit b).dry with dry | wet
    · have ended := followed.drillingEnded cycle (s.written_runDropped b i _)
        (fires.trans ((State.rejectDrilling_dry dry _).trans (State.endDrilling_eq claim drilled)))
      have frame := ended.frame
      have entries : ∀ j, (s.acting f).entry j = (s.setEntry i (some (e.drilledTo r (s.engine b).currentDepth))).entry j :=
        fun j => by
          rw [State.entry, ended.slots]
          rfl
      refine ⟨ended.engine.trans (Pair.get_set_same s.engines b _), ended.otherEngine, fun wet => ?_,
        fun _ => ⟨?_, fun j other => ?_, ended.unit, ended.arbiter, ended.posted, ended.followed, by rw [frame],
          by rw [frame], by rw [frame]⟩⟩
      · exact absurd (dry.symm.trans wet) nofun
      · rw [entries, State.entry_setEntry_same]
        rfl
      · rw [entries, State.entry_setEntry_ne s other]
    · have rejected := State.drillingRejected claim drilled wet fires
      refine ⟨rejected.engine, ?_, fun _ => rejected.given, fun dry => absurd (dry.symm.trans wet) nofun⟩
      exact rejected.otherEngine ((followed b.other).congr rfl rfl rfl rfl fun _ => rfl)
  · obtain ⟨given, engines⟩ := State.verdictTaken claim followed (v := .spinShort)
      (f := fun s => if (s.unit b).cycle = .spinning ∧ expired (s.active b).spinMax (s.unit b).spinTimer = true then
        s.boomVerdict b .spinShort .idle else s) (if_pos ⟨cycle, expired_iff.2 ⟨n, timer, past⟩⟩)
    exact ⟨given, engines, fun agrees => (given.apart agrees (cycle ▸ nofun) (cycle ▸ nofun)).1⟩
  · obtain ⟨unit, engine, otherEngine, otherUnit, arbiter, posted, moves, frame⟩ :=
      followed.torquingEntered cycle claim (f := fun s =>
        if (s.unit b).cycle = .setting ∧ expired (s.active b).setTime (s.unit b).setTimer = true then s.enterTorquing b
        else s) (if_pos ⟨cycle, expired_iff.2 ⟨n, timer, past⟩⟩)
    exact ⟨unit, engine, otherEngine, otherUnit, s.acting_followed _, arbiter, posted, moves.within, moves.kept rfl rfl,
      frame⟩
  · obtain ⟨given, engines⟩ := State.verdictTaken claim followed (v := if (s.engine b).seated then .torqueLow else .noSeat)
      (f := fun s => if (s.unit b).cycle = .torquing ∧
          expired (s.active b).torqueStage (s.unit b).torqueTimer.elapsed = true then
        s.boomVerdict b (if (s.engine b).seated then .torqueLow else .noSeat) .idle else s)
      (if_pos ⟨cycle, expired_iff.2 ⟨n, TorqueTimer.elapsed_eq_some.2 timer, past⟩⟩)
    exact ⟨given, engines, fun agrees => (given.apart agrees (cycle ▸ nofun) (cycle ▸ nofun)).1⟩

end Sys2Proof.Machine

/-! ### Samples in TORQUING -/

namespace Sys2Proof.Machine

open Sys2Proof Sys2Proof.Machine

section
variable {s : State} {b : Boom} {i : Slot} {e : Entry} {r : Result} {x : Sample}

/-- An action that writes only a boom's hole, its engine and its notices is no more than that, where the booms stay in
step. -/
theorem State.Followed.acting_written {f : State → State} (h : s.Followed) (k : s.Written (f s) b)
    (runs : (s.unit b).cycle = .torquing → (s.unit b).holds.present = false) : s.acting f = f s := by
  have frame := k.frame
  have follows : (f s).Followed := fun c => by
    have engine : (s.unit c).cycle = .torquing → (s.unit c).holds.present = true →
        (f s).engine c = s.engine c := fun torquing present => by
      rcases Boom.eq_or_eq_other b c with rfl | rfl
      · exact absurd ((runs torquing).symm.trans present) nofun
      · exact k.other
    have kept := h c
    have unit := k.unit c
    have lane := k.laneInStep c
    have arbiter : (f s).arbiter = s.arbiter := by rw [frame]
    have held : (f s).isHeld = s.isHeld := by
      rw [frame]
      rfl
    constructor
    · rw [unit, arbiter]; exact kept.flow
    · rw [unit, lane]; exact kept.lane
    · rw [unit]; exact kept.flush
    · rw [unit, held]; exact kept.feed
    · rw [unit, held]; exact kept.turn
    · rw [unit]; exact kept.abandon
    · rw [unit]; exact kept.spin
    · rw [unit]; exact kept.spinRuns
    · rw [unit]; exact kept.set
    · rw [unit]; exact kept.torque
    · rw [unit]; exact kept.torqueRuns
    · rw [unit]
      intro torquing present
      rw [engine torquing present]
      exact kept.runs torquing present
  unfold State.acting
  rw [follows.sync_eq]
  refine State.offersSince_same (fun c => ?_) (fun c => (k.laneInStep c).symm) ?_ ?_
  · unfold State.feedLine
    rw [k.unit]
  · rw [frame]
    rfl
  · rw [frame]
    rfl

/-- The state with a boom's record and engine written. -/
def State.recorded (s : State) (b : Boom) (i : Slot) (e : Entry) (r : Result) (g : Engine) : State :=
  (s.setEntry i (some { e with result := some r })).setEngine b g

theorem State.written_recorded (s : State) (b : Boom) (i : Slot) (e : Entry) (r : Result) (g : Engine) :
    s.Written (s.recorded b i e r g) b := ⟨rfl, Pair.get_set_other s.engines b g⟩

theorem State.judge_recorded (claim : s.claimedEntry b = some (i, e)) (drilled : e.result = some r) :
    s.judge b x = s.recorded b i e (r.judge (s.engine b) x) ((s.engine b).judge x) := by
  have claim' : (s.setEngine b ((s.engine b).judge x)).claimedEntry b = some (i, e) := claim
  unfold State.judge
  rw [State.updateResult_some claim', drilled]
  rfl

theorem State.recorded_setEngine (s : State) (b : Boom) (i : Slot) (e : Entry) (r : Result) (g h : Engine) :
    (s.recorded b i e r g).setEngine b h = s.recorded b i e r h := by
  unfold State.recorded State.setEngine
  rw [Pair.set_set]

theorem State.recorded_updateResult (claim : s.claimedEntry b = some (i, e)) (g : Engine) (f : Result → Result) :
    (s.recorded b i e r g).updateResult b f = s.recorded b i e (f r) g := by
  have claim' : (s.recorded b i e r g).claimedEntry b = some (i, { e with result := some r }) :=
    State.setEntry_claimed claim _
  rw [State.updateResult_some claim']
  unfold State.recorded State.setEntry State.setEngine
  rw [Vector.set_set]
  rfl

/-- A verdict that a judged sample gives, with the record and the engine that the judgement wrote. -/
theorem State.judgedEnds {f : State → State} (claim : s.claimedEntry b = some (i, e)) {u : Result} {g : Engine}
    {v : VerdictReason} (hf : f s = (s.recorded b i e u g).boomVerdict b v .idle) :
    VerdictGiven (s.setEntry i (some { e with result := some u })) (s.acting f) b i v .idle ∧
      (s.acting f).engine b = g := by
  have acted := State.verdictActed (State.setEntry_claimed claim _) (.inl rfl) (s.written_recorded b i e u g) hf
  exact ⟨acted.given, acted.engine⟩

end

/-! ### The judgement -/

section
variable {s : State} {b : Boom} {i : Slot} {e : Entry} {r : Result} {x : Sample}
  (claim : s.claimedEntry b = some (i, e)) (drilled : e.result = some r)
include claim drilled

theorem State.torqueSample_target (past : (s.active b).targetTorque ≤ x.torque) : s.torqueSample b x =
    (s.recorded b i e { r.judge (s.engine b) x with finalTorque := some x.torque }
      ((s.engine b).judge x)).boomVerdict b (targetReason (s.active b) (s.engine b).weakAnchor x.torque) .idle := by
  rw [State.torqueSample_eq, if_pos past, State.judge_recorded claim drilled, State.recorded_updateResult claim]

theorem State.torqueSample_spun (below : x.torque < (s.active b).targetTorque) (seated : (s.engine b).seated = true)
    (past : (s.active b).maxTurn < turnAngle ((s.engine b).turned x)) : s.torqueSample b x =
    (s.recorded b i e (r.judge (s.engine b) x) ((s.engine b).judge x)).boomVerdict b .anchorSpin .idle := by
  rw [State.torqueSample_eq, if_neg (Nat.not_le.2 below), if_pos seated, if_pos past,
    State.judge_recorded claim drilled]

theorem State.torqueSample_slip (below : x.torque < (s.active b).targetTorque) (seated : (s.engine b).seated = true)
    (short : turnAngle ((s.engine b).turned x) ≤ (s.active b).maxTurn) {g : Engine}
    (slip : ((s.engine b).judge x).slip (s.active b) x.torque (raisePeak (s.engine b).peak x.torque) = g) :
    s.torqueSample b x = if 3 ≤ g.slipRun then
      (s.recorded b i e (r.judge (s.engine b) x) g).boomVerdict b .anchorSlip .idle
    else s.recorded b i e (r.judge (s.engine b) x) g := by
  rw [State.torqueSample_eq, if_neg (Nat.not_le.2 below), if_pos seated, if_neg (Nat.not_lt.2 short)]
  simp only [slip, State.judge_recorded claim drilled, State.recorded_setEngine]
  rfl

theorem State.torqueSample_seat (below : x.torque < (s.active b).targetTorque) (loose : (s.engine b).seated = false)
    {g : Engine} (seat : ((s.engine b).judge x).seatTest (s.active b) x.torque = g) : s.torqueSample b x =
    if g.seated then s.recorded b i e { r.judge (s.engine b) x with turnAfterSeat := some 0 } g
    else s.recorded b i e (r.judge (s.engine b) x) g := by
  rw [State.torqueSample_eq, if_neg (Nat.not_le.2 below), if_neg (Bool.eq_false_iff.1 loose)]
  simp only [seat, State.judge_recorded claim drilled, State.recorded_setEngine, State.recorded_updateResult claim]

end

end Sys2Proof.Machine

/-! ### Samples in TORQUING: their outcomes -/

namespace Sys2Proof.Machine

open Sys2Proof Sys2Proof.Machine

section
variable {s : State} {b : Boom} {x : Sample}

/-- An action that does nothing changes nothing. -/
theorem State.Followed.acting_same {f : State → State} (h : s.Followed) (same : f s = s) : s.acting f = s := by
  unfold State.acting
  rw [same, h.sync_eq]
  exact State.offersSince_self rfl rfl rfl rfl

theorem State.engineSample_torquing (cycle : (s.unit b).cycle = .torquing) :
    s.engineSample b x = if (s.unit b).holds.present then s else s.torqueSample b x := by
  unfold State.engineSample
  rw [cycle]
  show s.torquingSample b x = _
  unfold State.torquingSample BoomUnit.running
  rw [cycle]
  cases (s.unit b).holds.present <;> rfl

end

/-! ### The slip test and the seat test -/

section
variable {g : Engine} {p : ParamSet} {t peak : Nat}

theorem Engine.slip_slack (engaged : g.engaged = true) (slack : t * 4 < peak * 3) :
    g.slip p t peak = { g with slipRun := min 3 (g.slipRun + 1) } := (if_pos engaged).trans (if_pos slack)

theorem Engine.slip_tight (engaged : g.engaged = true) (tight : peak * 3 ≤ t * 4) :
    g.slip p t peak = { g with slipRun := 0 } := (if_pos engaged).trans (if_neg (Nat.not_lt.2 tight))

theorem Engine.slip_free (free : g.engaged = false) (none_yet : g.slipRun = 0) :
    g.slip p t peak = { g with engaged := decide (p.seatTorque ≤ t) } := by
  refine (if_neg (Bool.eq_false_iff.1 free)).trans ?_
  by_cases seat : p.seatTorque ≤ t
  · rw [if_pos seat, decide_eq_true seat, ← none_yet]
  · rw [if_neg seat, decide_eq_false seat, ← free]

theorem Engine.seatTest_below (below : t < p.seatTorque) : g.seatTest p t = { g with seatRun := 0 } := by
  unfold Engine.seatTest
  rw [if_neg (Nat.not_le.2 below)]
  exact if_neg (by decide)

theorem Engine.seatTest_runs (at_seat : p.seatTorque ≤ t) (short : g.seatRun < 2) :
    g.seatTest p t = { g with seatRun := g.seatRun + 1 } := by
  unfold Engine.seatTest
  rw [if_pos at_seat]
  exact if_neg (Nat.not_le.2 (Nat.succ_lt_succ short))

theorem Engine.seatTest_seats (at_seat : p.seatTorque ≤ t) (long : 2 ≤ g.seatRun) :
    g.seatTest p t = { g with seatRun := g.seatRun + 1, seated := true, engaged := true } := by
  unfold Engine.seatTest
  rw [if_pos at_seat]
  exact if_pos (Nat.succ_le_succ long)

/-- Before the seat no turn is counted. -/
theorem Engine.judge_loose {x : Sample} (loose : g.seated = false) :
    g.judge x = { g with peak := some (raisePeak g.peak x.torque) } := by
  unfold Engine.judge Engine.turned
  rw [loose]
  rfl

end

/-- Settles O56: the branches of R138, in its order. -/
theorem torqueSamplesJudged : Obligations.TorqueSamplesJudged := by
  rintro b x s t i e r p g peak turn u followed cycle held slot here drilled rfl rfl rfl rfl rfl rfl
  have claim : s.claimedEntry b = some (i, e) := State.claimedEntry_eq_some.2 ⟨held, slot, here⟩
  refine ⟨fun present => ?_, fun runs => ?_⟩
  · have same : s.engineSample b x = s := (State.engineSample_torquing cycle).trans (if_pos present)
    exact followed.acting_same same
  have taken : s.engineSample b x = s.torqueSample b x :=
    (State.engineSample_torquing cycle).trans (if_neg (Bool.eq_false_iff.1 runs))
  have goesOn : ∀ {u : Result} {g : Engine}, s.torqueSample b x = s.recorded b i e u g →
      s.acting (fun v => v.engineSample b x) = (s.setEntry i (some { e with result := some u })).setEngine b g :=
    fun {u g} eq => by
      have written : s.engineSample b x = s.recorded b i e u g := taken.trans eq
      refine (followed.acting_written (f := fun v => v.engineSample b x) ?_ fun _ => runs).trans written
      exact written ▸ s.written_recorded b i e u g
  have ends : ∀ {u : Result} {g : Engine} {v : VerdictReason},
      s.torqueSample b x = (s.recorded b i e u g).boomVerdict b v .idle →
      VerdictGiven (s.setEntry i (some { e with result := some u })) (s.acting fun v => v.engineSample b x) b i v .idle ∧
        (s.acting fun v => v.engineSample b x).engine b = g := fun eq => State.judgedEnds claim (taken.trans eq)
  refine ⟨fun past => ends (State.torqueSample_target claim drilled past), fun below seated past =>
    ends (State.torqueSample_spun claim drilled below seated past), fun below seated short => ?_,
    fun below loose => ?_⟩
  · have slip := fun {g} => State.torqueSample_slip claim drilled below seated short (g := g)
    refine ⟨fun engaged slack long => ?_, fun engaged slack early => ?_, fun engaged tight => ?_, fun free none_yet => ?_⟩
    · have run : min 3 (((s.engine b).judge x).slipRun + 1) = 3 := Nat.min_eq_left (Nat.succ_le_succ long)
      have eq := slip (Engine.slip_slack (g := (s.engine b).judge x) engaged slack)
      rw [run] at eq
      exact ends (eq.trans (if_pos (le_refl 3)))
    · have run : min 3 (((s.engine b).judge x).slipRun + 1) = (s.engine b).slipRun + 1 :=
        Nat.min_eq_right (show (s.engine b).slipRun + 1 ≤ 3 by omega)
      have eq := slip (Engine.slip_slack (g := (s.engine b).judge x) engaged slack)
      rw [run] at eq
      exact goesOn (eq.trans (if_neg (Nat.not_le.2 (Nat.succ_lt_succ early))))
    · exact goesOn ((slip (Engine.slip_tight (g := (s.engine b).judge x) engaged tight)).trans (if_neg (Nat.not_succ_le_zero 2)))
    · refine goesOn ((slip (Engine.slip_free (g := (s.engine b).judge x) free none_yet)).trans (if_neg ?_))
      show ¬ 3 ≤ (s.engine b).slipRun
      rw [none_yet]
      decide
  · have seat := fun {g} => State.torqueSample_seat claim drilled below loose (g := g)
    have judged := Engine.judge_loose (x := x) loose
    rw [judged] at seat
    refine ⟨fun under => ?_, fun at_seat short => ?_, fun at_seat long => ?_⟩
    · exact goesOn ((seat (Engine.seatTest_below under)).trans (if_neg (Bool.eq_false_iff.1 loose)))
    · exact goesOn ((seat (Engine.seatTest_runs at_seat short)).trans (if_neg (Bool.eq_false_iff.1 loose)))
    · exact goesOn ((seat (Engine.seatTest_seats at_seat long)).trans (if_pos rfl))

end Sys2Proof.Machine

/-! ### Samples in SPINNING and SETTING -/

namespace Sys2Proof.Machine

open Sys2Proof Sys2Proof.Machine

/-! ### Work of one boom that gives its flow back -/

theorem State.present_of_any {s w : State} {c : Boom} (cycle : (w.unit c).cycle = (s.unit c).cycle)
    (torquing : (w.unit c).cycle = .torquing) (lane : w.laneInStep c = s.laneInStep c)
    (queue : (w.arbiter.queue.any fun r => r.boom == c) = true → (s.arbiter.queue.any fun r => r.boom == c) = true)
    (h : (w.holdConditions c).present = true) : (s.holdConditions c).present = true := by
  unfold State.holdConditions at h ⊢
  rw [← cycle, torquing, ← lane]
  rw [torquing] at h
  simp only [CycleState.holdable, if_true, Holds.present, Bool.or_eq_true, Bool.not_eq_true', reduceCtorEq,
    Bool.and_eq_true, beq_iff_eq, false_and, or_false] at h ⊢
  exact h.imp_left queue

/-- The effects of a move of boom `b` to another stage, from the state `y` with its record written: its unit, its flow,
and the notices. -/
structure State.StageMoved (y w : State) (b : Boom) : Prop where
  other : w.unit b.other = y.unit b.other
  queue : (w.arbiter.queue.any fun r => r.boom == b.other) = true →
    (y.arbiter.queue.any fun r => r.boom == b.other) = true
  posted : w.Posted (.stage b)
  moves : y.PortsMove ⟨[.stage b, .flow .A, .flow .B], false, false⟩ w
  frame : ∃ u a p, w = { y with units := u, arbiter := a, ports := p }

/-- Such a move, as an action. -/
structure State.StageActed (s y t : State) (b : Boom) : Prop where
  slots : t.slots = y.slots
  otherUnit : (s.unit b.other).SameWork (t.unit b.other)
  otherTimers : (s.unit b.other).TimersRunOn (t.unit b.other)
  otherEngine : t.engine b.other = s.engine b.other
  posted : t.Posted (.stage b)
  followed : t.Followed
  moves : y.PortsMove ⟨[.stage b, .flow .A, .flow .B, .permit .A, .permit .B], false, false⟩ t
  frame : t = { s with
    slots := t.slots, units := t.units, engines := t.engines, arbiter := t.arbiter, ports := t.ports }

section
variable {s y : State} {b : Boom}

theorem State.Followed.stageActed (h : s.Followed) (k : s.Written y b) {g : State → State}
    (moved : y.StageMoved (g y) b) : s.StageActed y (y.acting g) b := by
  obtain ⟨u, a, p, frame⟩ := moved.frame
  have lane : (g y).laneInStep b.other = y.laneInStep b.other := by
    rw [frame]
    rfl
  refine ⟨?_, ?_, ?_, ?_, (y.acting_moves g).posted moved.posted, y.acting_followed g, ?_, ?_⟩
  · rw [State.acting_slots, frame]
  · rw [State.acting_unit, moved.other, k.unit]
    exact BoomUnit.follow_sameWork _ _ _
  · rw [State.acting_unit, moved.other, k.unit]
    exact BoomUnit.follow_timersRunOn _ _ _
  · refine Eq.trans ?_ k.other
    refine (k.follows (h b.other)).acting_engine_kept (by rw [frame]; rfl) fun torquing present => ?_
    refine ⟨moved.other ▸ torquing, ?_⟩
    exact State.present_of_any (by rw [moved.other]) torquing lane moved.queue present
  · refine .ofActing (moved.moves.mono (by simp) id id) (fun c _ => by cases c <;> simp)
      (fun c changed => absurd ?_ changed) (fun changed => absurd ?_ changed) fun changed => absurd ?_ changed
    · rw [frame]
      rfl
    · rw [frame]
      rfl
    · rw [frame]
      rfl
  · obtain ⟨v, e, q, whole⟩ := y.acting_frame g
    rw [whole, frame, k.frame]

/-! ### The spin complete -/

/-- A boom that leaves SPINNING for SETTING (R57). -/
def State.spun (y : State) (b : Boom) : State := (y.leaveStage b .setting).modUnit b fun u => { u with setTimer := some 0 }

theorem State.spinComplete_eq (y : State) (b : Boom) :
    y.spinComplete b = if (y.active b).setTime = 0 then (y.spun b).enterTorquing b else y.spun b := rfl

theorem State.spun_unit (y : State) (b : Boom) :
    (y.spun b).unit b = { y.unit b with cycle := .setting, setTimer := some 0 } := by
  refine (Pair.get_set_same _ b _).trans ?_
  rw [State.leaveStage_unit, State.setCycle_unit]
  rfl

theorem State.spun_arbiter (y : State) (b : Boom) : (y.spun b).arbiter = y.arbiter.release b :=
  y.leaveStage_arbiter b .setting

theorem State.spun_moved (y : State) (b : Boom) : y.StageMoved (y.spun b) b := by
  obtain ⟨u, a, p, frame⟩ : ∃ u a p, y.leaveStage b .setting = { y with units := u, arbiter := a, ports := p } :=
    ⟨_, y.leaveStage_frame_eq b .setting⟩
  refine ⟨?_, ?_, y.leaveStage_posted b _, ?_, u.set b { u.get b with setTimer := some 0 }, a, p, ?_⟩
  · refine (Pair.get_set_other _ b _).trans ?_
    exact (y.leaveStage_unit b b.other _).trans (State.setCycle_unit_other _ _ _)
  · rw [State.spun_arbiter]
    exact (y.arbiter.release_queue b).any_imp
  · exact .trans (State.leaveStage_move (by simp) (fun c => by cases c <;> simp) y _) (.of_ports rfl rfl)
  · unfold State.spun
    rw [frame]
    rfl

theorem State.spun_torquing_unit (y : State) (b : Boom) :
    ((y.spun b).enterTorquing b).unit b = { y.unit b with cycle := .torquing, setTimer := some 0 } := by
  rw [State.enterTorquing, State.unit_requestStage, State.setCycle_unit, State.spun_unit]
  rfl

theorem State.spun_torquing_arbiter (y : State) (b : Boom) : ((y.spun b).enterTorquing b).arbiter =
    if (y.unit b).dry then y.arbiter.release b else (y.arbiter.release b).request ⟨b, .torquing, 40, 40⟩ := by
  rw [State.enterTorquing, State.requestStage_arbiter, State.setCycle_unit, State.spun_unit]
  show (if (y.unit b).dry then (y.spun b).arbiter else (y.spun b).arbiter.request _) = _
  rw [State.spun_arbiter]
  rfl

theorem State.spun_torquing_moved (y : State) (b : Boom) : y.StageMoved ((y.spun b).enterTorquing b) b := by
  obtain ⟨other, queue, _, moves, u, a, p, frame⟩ := y.spun_moved b
  obtain ⟨a', p', request⟩ := ((y.spun b).setCycle b .torquing).requestStage_frame b .torquing
  have requested : y.PortsMove ⟨[.stage b, .flow .A, .flow .B], false, false⟩ ((y.spun b).enterTorquing b) :=
    .trans (.trans moves (.setCycle (by simp) _ _)) (.requestStage (by cases b <;> simp)
      (fun _ => by cases b <;> simp [Boom.other]) _)
  refine ⟨?_, fun any => queue ?_, ?_, requested, ((y.spun b).setCycle b .torquing).units, a', p', ?_⟩
  · rw [State.enterTorquing, State.unit_requestStage, State.setCycle_unit_other]
    exact other
  · rw [State.enterTorquing, State.queued_requestStage_other] at any
    exact any
  · exact (State.PortsMove.requestStage (R := .all) (mem_allPairs _) (fun _ => mem_allPairs _) _).posted
      (State.post_posted _ _)
  · rw [State.enterTorquing, request]
    show { y.spun b with units := ((y.spun b).setCycle b .torquing).units, arbiter := a', ports := p' } = _
    rw [frame]

end

/-- The unit of a boom that has left SPINNING for SETTING (R57, R58). -/
theorem BoomUnit.follow_spun {u : BoomUnit} (abandon : u.abandonTimer = none) (torque : u.torqueTimer = .notStarted)
    (feed : u.feed = false) (held : Bool) :
    BoomUnit.follow { u with cycle := .setting, setTimer := some 0 } Holds.none held = { u with
      cycle := .setting, holds := ⟨false, false, false⟩, spinTimer := none, setTimer := some 0, turn := false } := by
  simp [BoomUnit.follow, BoomUnit.nextAbandon, BoomUnit.nextSpin, BoomUnit.nextSet, BoomUnit.nextTorque,
    BoomUnit.feedCondition, BoomUnit.turnCondition, BoomUnit.running, CycleState.holdable, Holds.none, abandon, torque,
    feed]

/-- The unit of a boom that has left SPINNING for TORQUING (R57, R58). -/
theorem BoomUnit.follow_spun_torquing {u : BoomUnit} (abandon : u.abandonTimer = none) (set : u.setTimer = none)
    (torque : u.torqueTimer = .notStarted) (feed : u.feed = false) (x : Holds) (held : Bool) :
    BoomUnit.follow { u with cycle := .torquing, setTimer := some 0 } x held = { u with
      cycle := .torquing, holds := x, spinTimer := none
      turn := (BoomUnit.follow { u with cycle := .torquing, setTimer := some 0 } x held).turn
      torqueTimer := if (BoomUnit.follow { u with cycle := .torquing, setTimer := some 0 } x held).running then .running 0
        else .notStarted } := by
  cases present : x.present <;>
    simp [BoomUnit.follow, BoomUnit.nextAbandon, BoomUnit.nextSpin, BoomUnit.nextSet, BoomUnit.nextTorque,
      BoomUnit.feedCondition, BoomUnit.running, CycleState.holdable, abandon, set, torque, feed, present]

end Sys2Proof.Machine

/-! ### Samples in SPINNING and SETTING: their outcomes -/

namespace Sys2Proof.Machine

open Sys2Proof Sys2Proof.Machine

section
variable {s : State} {b : Boom} {i : Slot} {e : Entry} {r : Result} {x : Sample}

/-- A sample in SPINNING: the record and the revolution sum, and then the completion test (R134, R135). -/
theorem State.spinSample_eq (claim : s.claimedEntry b = some (i, e)) (drilled : e.result = some r) {n : Nat}
    {y : State} (sum : n = min 1048575 ((s.engine b).revolutionSum + x.speed))
    (recorded : y = s.recorded b i e { r with spinRevs := some (n / 6000) } { s.engine b with revolutionSum := n }) :
    s.spinSample b x = if (s.active b).spinRevs * 6000 ≤ n then y.spinComplete b else y := by
  have written : (s.setEngine b { s.engine b with revolutionSum := n }).updateResult b
      (fun r => { r with spinRevs := some (n / revolution) }) = y := by
    have claim' : (s.setEngine b { s.engine b with revolutionSum := n }).claimedEntry b = some (i, e) := claim
    rw [State.updateResult_some claim', drilled, recorded]
    rfl
  rw [← written, sum]
  rfl

theorem State.engineSample_spinning (cycle : (s.unit b).cycle = .spinning) : s.engineSample b x = s.spinSample b x := by
  unfold State.engineSample
  rw [cycle]

theorem State.engineSample_setting (cycle : (s.unit b).cycle = .setting) :
    s.engineSample b x = if 20 < x.speed then s.boomVerdict b .setDisturbed .idle else s := by
  unfold State.engineSample
  rw [cycle]
  rfl

end

/-- The unit of a boom in step, out of its stage, has none of that stage's timers. -/
theorem State.BoomFollows.spinning_unit {s : State} {b : Boom} (h : s.BoomFollows b)
    (here : (s.unit b).cycle = .spinning) : (s.unit b).abandonTimer = none ∧ (s.unit b).setTimer = none ∧
      (s.unit b).torqueTimer = .notStarted ∧ (s.unit b).feed = false := by
  refine ⟨Option.not_isSome_iff_eq_none.1 (by rw [h.abandon, here]; nofun), h.set (by rw [here]; nofun),
    h.torque (by rw [here]; nofun) (by rw [here]; nofun), ?_⟩
  rw [h.feed, here]
  rfl

/-- Settles O55: the completion test of the spin, and the disturbance of the set. -/
theorem spinAndSetSamples : Obligations.SpinAndSetSamples := by
  rintro b x s t i e r followed held slot here drilled rfl
  have claim : s.claimedEntry b = some (i, e) := State.claimedEntry_eq_some.2 ⟨held, slot, here⟩
  refine ⟨?_, fun cycle => ⟨fun slow => ?_, fun fast => ?_⟩⟩
  · rintro cycle n g f sum rfl rfl
    have sample := (State.engineSample_spinning (x := x) cycle).trans (State.spinSample_eq claim drilled sum rfl)
    generalize recorded : s.recorded b i e { r with spinRevs := some (n / 6000) } { s.engine b with
      revolutionSum := n } = y at sample
    have written : s.Written y b := recorded ▸ s.written_recorded b i e _ _
    have entries : ∀ j, y.entry j = (s.setEntry i (some { e with
        result := some { r with spinRevs := some (n / 6000) } })).entry j := fun j => by rw [← recorded]; rfl
    have engine : y.engine b = { s.engine b with revolutionSum := n } := by
      rw [← recorded]
      exact Pair.get_set_same s.engines b _
    have active : y.active b = s.active b := by rw [← recorded]; rfl
    have arbiter : y.arbiter = s.arbiter := by rw [written.frame]
    obtain ⟨abandon, set, torque, feed⟩ := (followed b).spinning_unit cycle
    refine ⟨fun short => ?_, fun long => ?_⟩
    · have eq : s.engineSample b x = y := sample.trans (if_neg (Nat.not_le.2 short))
      refine (followed.acting_written (b := b) (f := fun v => v.engineSample b x) ?_ fun torquing => ?_).trans (eq.trans recorded.symm)
      · exact eq ▸ written
      · exact absurd (cycle.symm.trans torquing) nofun
    · have ends : s.engineSample b x = y.spinComplete b := sample.trans (if_pos long)
      have eq : s.acting (fun u => u.engineSample b x) = y.acting fun v => v.spinComplete b := written.through ends
      rw [State.spinComplete_eq, active] at ends
      have acted : s.StageActed y (y.acting fun v => v.spinComplete b) b := by
        refine followed.stageActed written ?_
        show y.StageMoved (y.spinComplete b) b
        rw [State.spinComplete_eq]
        split
        · exact y.spun_torquing_moved b
        · exact y.spun_moved b
      have whole : s.PortsMove ⟨[.stage b, .flow .A, .flow .B, .permit .A, .permit .B], false, false⟩
          (y.acting fun v => v.spinComplete b) := .trans (.of_ports (by rw [← recorded]; rfl) (by rw [← recorded]; rfl)) acted.moves
      rw [eq]
      refine ⟨?_, fun j other => ?_, fun waits => ?_, fun through => ?_, acted.otherEngine, acted.otherUnit,
        acted.otherTimers, acted.followed, acted.posted, whole.within, whole.kept rfl rfl, acted.frame⟩
      · rw [State.entry, acted.slots]
        exact (entries i).trans (State.entry_setEntry_same s i _)
      · rw [State.entry, acted.slots]
        exact (entries j).trans (State.entry_setEntry_ne s other _)
      · have left : y.spinComplete b = y.spun b := by
          rw [State.spinComplete_eq, active, if_neg (Nat.pos_iff_ne_zero.1 waits)]
        refine ⟨?_, ?_, ?_⟩
        · have none_held : (y.spun b).holdConditions b = Holds.none := by
            unfold State.holdConditions
            rw [State.spun_unit]
            rfl
          rw [State.acting_unit, left, State.spun_unit, none_held, written.unit]
          exact BoomUnit.follow_spun abandon torque feed _
        · refine (State.acting_engine_of_ne ?_).trans ?_
          · rw [left, State.spun_unit]
            nofun
          · rw [left]
            obtain ⟨_, _, _, frame⟩ := (y.spun_moved b).frame
            rw [frame]
            exact engine
        · rw [State.acting_arbiter, left, State.spun_arbiter, arbiter, State.releaseFlow_arbiter]
      · have left : y.spinComplete b = (y.spun b).enterTorquing b := by
          rw [State.spinComplete_eq, active, if_pos through]
        obtain ⟨_, _, _, frame⟩ := (y.spun_torquing_moved b).frame
        have own : (y.spinComplete b).unit b = { s.unit b with cycle := .torquing, setTimer := some 0 } := by
          rw [left, State.spun_torquing_unit, written.unit]
        have unit : (y.acting fun v => v.spinComplete b).unit b =
            BoomUnit.follow { s.unit b with cycle := .torquing, setTimer := some 0 }
              ((y.acting fun v => v.spinComplete b).unit b).holds y.isHeld := by
          rw [← own]
          exact State.acting_unit_stage (f := fun v => v.spinComplete b) (by rw [left, frame]; rfl)
        have torquing := unit.trans (BoomUnit.follow_spun_torquing abandon set torque feed _ _)
        rw [← unit] at torquing
        refine ⟨torquing, ?_, ?_⟩
        · have running : ((y.acting fun v => v.spinComplete b).unit b).running =
              !((y.acting fun v => v.spinComplete b).unit b).holds.present := by
            rw [torquing]
            rfl
          have holds : ((y.acting fun v => v.spinComplete b).unit b).holds = (y.spinComplete b).holdConditions b := by
            rw [State.acting_unit]
            rfl
          have kept : (y.spinComplete b).engine b = { s.engine b with revolutionSum := n } := by
            rw [left, frame]
            exact engine
          rw [running, State.acting_engine, kept, own, ← holds]
          cases present : ((y.acting fun v => v.spinComplete b).unit b).holds.present with
          | true => exact if_pos ⟨rfl, rfl⟩
          | false => exact if_neg fun k => nomatch k.2
        · rw [State.acting_arbiter, left, State.spun_torquing_arbiter, arbiter, written.unit, State.requestFlow_arbiter,
            State.releaseFlow_arbiter]
  · exact followed.acting_same ((State.engineSample_setting cycle).trans (if_neg (Nat.not_lt.2 slow)))
  · exact State.verdictTaken claim followed (f := fun u => u.engineSample b x)
      ((State.engineSample_setting cycle).trans (if_pos fast))

end Sys2Proof.Machine

/-! ### Lanes: faults, marks, transfers and the loss -/

namespace Sys2Proof.Machine

open Sys2Proof Sys2Proof.Machine

/-! ### Faults and marks -/

section
variable (s : State) (b : Boom) (n : Nat)

theorem State.setEngine_own : s.setEngine b (s.engine b) = s := by
  unfold State.setEngine State.engine
  cases b <;> rfl

theorem State.setLane_own : s.setLane b (s.lane b) = s := by
  unfold State.setLane State.lane
  cases b <;> rfl

theorem State.countFaults_frame : s.countFaults b n = { s with
    lanes := s.lanes.set b { s.lane b with faults := min 65535 ((s.lane b).faults + n) }
    ports := (s.countFaults b n).ports } := by
  unfold State.countFaults
  simp only []
  split <;> rfl

theorem State.countFaults_lane : (s.countFaults b n).lane b =
    { s.lane b with faults := min 65535 ((s.lane b).faults + n) } := by
  rw [State.countFaults_frame]
  exact Pair.get_set_same s.lanes b _

theorem State.countFaults_lane_other : (s.countFaults b n).lane b.other = s.lane b.other := by
  rw [State.countFaults_frame]
  exact Pair.get_set_other s.lanes b _

theorem State.countFaults_move : s.PortsMove ⟨[.countOver b], false, false⟩ (s.countFaults b n) :=
  .countFaults s fun _ _ => List.mem_singleton.2 rfl

variable {s b n}

theorem State.countFaults_counted (below : (s.lane b).faults < 65535) (reached : 65535 ≤ (s.lane b).faults + n) :
    (s.countFaults b n).Posted (.countOver b) := by
  unfold State.countFaults
  rw [if_pos ⟨below, reached⟩]
  exact State.post_posted _ _

theorem State.countFaults_quiet (h : ¬ ((s.lane b).faults < 65535 ∧ 65535 ≤ (s.lane b).faults + n)) :
    (s.countFaults b n).ports = s.ports := by
  have calm : s.countFaults b n = _ := if_neg h
  rw [calm]
  rfl

/-- The engine with a lane-fault mark (R95). -/
def Engine.marked (g : Engine) : Engine := { g with openIncomplete := true }

theorem State.laneMark_eq (s : State) (b : Boom) : s.laneMark b =
    s.setEngine b (if (s.unit b).cycle = .drilling then (s.engine b).marked else s.engine b) := by
  unfold State.laneMark
  split
  · rfl
  · exact (s.setEngine_own b).symm

end

/-- An action that leaves alone what the booms follow, and every status, is no more than its effects. -/
theorem State.Followed.acting_quiet {s : State} {f : State → State} (h : s.Followed) (units : (f s).units = s.units)
    (step : ∀ c, (f s).laneInStep c = s.laneInStep c)
    (engine : ∀ c, (s.unit c).cycle = .torquing → (f s).engine c = s.engine c) (arbiter : (f s).arbiter = s.arbiter)
    (held : (f s).isHeld = s.isHeld) (loader : (f s).loaderStatus = s.loaderStatus)
    (low : (f s).magazineLow = s.magazineLow) : s.acting f = f s := by
  have unit : ∀ c, (f s).unit c = s.unit c := fun c => by
    unfold State.unit
    rw [units]
  have follows : (f s).Followed := fun c =>
    (h c).congr (unit c) (by rw [arbiter]) (step c) held fun torquing => engine c torquing
  unfold State.acting
  rw [follows.sync_eq]
  exact State.offersSince_same (fun c => by unfold State.feedLine; rw [unit]) (fun c => (step c).symm) loader.symm low.symm

theorem State.laneInStep_setLane {s : State} {b : Boom} {l : Lane} (health : l.health = (s.lane b).health) (c : Boom) :
    (s.setLane b l).laneInStep c = s.laneInStep c := by
  have lane : (s.setLane b l).lane c = if c = b then l else s.lane c := Pair.get_set s.lanes b c l
  unfold State.laneInStep
  rw [lane]
  split
  · rename_i own
    rw [own, health]
  · rfl

/-! ### The loss of a lane -/

/-- The lane of a boom, lost (R78). -/
def Lane.lost (l : Lane) : Lane :=
  { l with
    health := .lost, faults := min 65535 (l.faults + 1), windowCount := 0, windowTally := 0, lossTimer := none
    lastSeq := none, lastPosition := none }

section
variable {s : State} {b : Boom}

theorem State.loseLane_frame (s : State) (b : Boom) : ∃ p, s.loseLane b = { s with
    lanes := s.lanes.set b (s.lane b).lost, ports := p
    engines := s.engines.set b (if (s.unit b).cycle = .drilling then (s.engine b).marked else s.engine b) } := by
  refine ⟨(s.loseLane b).ports, ?_⟩
  unfold State.loseLane
  rw [State.laneMark_eq, State.countFaults_frame]
  simp only [State.setLane, State.lane, Pair.set_set, Pair.get_set_same]
  rfl

theorem State.loseLane_move (s : State) (b : Boom) : s.PortsMove ⟨[.countOver b], false, false⟩ (s.loseLane b) := by
  unfold State.loseLane
  rw [State.laneMark_eq]
  exact .blocks (.trans (.of_ports rfl rfl) (State.countFaults_move (s.setLane b _) b 1)) (by rfl) (by rfl)

/-- What the loss of a lane leaves (R78). -/
structure State.LaneLost (s t : State) (b : Boom) : Prop where
  lane : t.lane b = (s.lane b).lost
  otherLane : t.lane b.other = s.lane b.other
  engine : t.engine b = match (s.unit b).cycle with
    | .drilling => { s.engine b with openIncomplete := true }
    | .torquing => { s.engine b with seatRun := 0, engaged := false, slipRun := 0 }
    | _ => s.engine b
  otherEngine : t.engine b.other = s.engine b.other
  otherUnit : t.unit b.other = s.unit b.other
  unit : (s.unit b).SameWork (t.unit b)
  holds : (t.unit b).holds.lane = (s.unit b).cycle.holdable
  moves : s.PortsMove ⟨[.countOver b, .lane b, .permit b], false, false⟩ t
  frame : t = { s with units := t.units, lanes := t.lanes, engines := t.engines, ports := t.ports }

theorem State.Followed.laneLost (h : s.Followed) {f : State → State} (hf : f s = s.loseLane b) :
    s.LaneLost (s.acting f) b := by
  obtain ⟨p, frame⟩ := s.loseLane_frame b
  have own := s.loseLane_move b
  rw [frame] at hf own
  have unit : ∀ c, (f s).unit c = s.unit c := fun c => by
    rw [hf]
    rfl
  have lane : (f s).lane b = (s.lane b).lost := by
    rw [hf]
    exact Pair.get_set_same s.lanes b _
  have other : (f s).lane b.other = s.lane b.other := by
    rw [hf]
    exact Pair.get_set_other s.lanes b _
  have step : (f s).laneInStep b = false := by
    unfold State.laneInStep
    rw [lane]
    rfl
  have otherStep : (f s).laneInStep b.other = s.laneInStep b.other := by
    unfold State.laneInStep
    rw [other]
  have engine : (f s).engine b = if (s.unit b).cycle = .drilling then (s.engine b).marked else s.engine b := by
    rw [hf]
    exact Pair.get_set_same s.engines b _
  have otherEngine : (f s).engine b.other = s.engine b.other := by
    rw [hf]
    exact Pair.get_set_other s.engines b _
  have queue : (f s).arbiter = s.arbiter := by rw [hf]
  have otherUnit : (s.acting f).unit b.other = s.unit b.other :=
    (h b.other).acting_unit (unit _) (by rw [hf]; rfl) (by rw [queue]) otherStep
  have follows := s.acting_followed f
  refine ⟨?_, ?_, ?_, ?_, otherUnit, ?_, ?_, ?_, ?_⟩
  · rw [State.lane_acting, lane]
  · rw [State.lane_acting, other]
  · have held : (s.unit b).cycle = .torquing → ((f s).holdConditions b).present = true := fun torquing => by
      unfold State.holdConditions
      rw [unit, torquing, step]
      simp [CycleState.holdable, Holds.present]
    rw [State.acting_engine, engine, unit]
    cases cycle : (s.unit b).cycle with
    | torquing => exact if_pos ⟨rfl, held cycle⟩
    | _ => rfl
  · exact (h b.other).acting_engine (unit _) otherEngine (by rw [queue]) otherStep
  · rw [State.acting_unit, unit]
    exact BoomUnit.follow_sameWork _ _ _
  · rw [(follows b).lane, State.laneInStep_acting, step, State.acting_unit, unit]
    exact Bool.and_true _
  · refine .ofActing (hf ▸ own.mono (by simp) id id) (fun c changed => ?_) (fun c changed => ?_)
      (fun changed => absurd (by rw [hf]; rfl) changed) fun changed => absurd (by rw [hf]; rfl) changed
    · rcases Boom.eq_or_eq_other b c with rfl | rfl
      · simp
      · exact absurd (by rw [otherUnit]) changed
    · rcases Boom.eq_or_eq_other b c with rfl | rfl
      · simp
      · exact absurd otherStep.symm changed
  · obtain ⟨u, g, q, whole⟩ := s.acting_frame f
    rw [whole, hf]

end

/-! ### The report -/

section
variable {s : State} {b : Boom}

theorem reportModeOf_byte (m : ReportMode) : reportModeOf m.byte = some m := by cases m <;> rfl

theorem reportModeOf_eq_none {x : Byte} (h : 1 < x.toNat) : reportModeOf x = none := by
  unfold reportModeOf
  rw [if_neg, if_neg]
  · rintro rfl
    exact absurd h (by decide)
  · rintro rfl
    exact absurd h (by decide)

theorem State.reported_eq (s : State) (b : Boom) :
    ((s.transferCount b).setLane b ((s.transferCount b).lane b).restartReport) =
      (s.setLane b { s.lane b with reportValue := (s.lane b).faults, faults := 0, reportTimer := some 0 }).post
        (.report b) := by
  unfold State.transferCount State.post State.mapPorts State.setLane State.lane
  simp only [Pair.set_set, Pair.get_set_same]
  rfl

end

/-- Settles O50: the commands, and the two expiries. -/
theorem laneCountsAndLoss : Obligations.LaneCountsAndLoss := by
  intro x y b s
  have take : exec (.takeCount .C x) s = .next (s.command .C .takeCount fun s =>
      match boomOf x with
      | none => refuse s .state
      | some b => if (s.lane b).reportMode = .auto then refuse s .state else taken (s.transferCount b) .done) := rfl
  have set : exec (.setReportMode .C x y) s = .next (s.command .C .setReportMode fun s =>
      match boomOf x, reportModeOf y with
      | some b, some m => taken (s.setLane b ((s.lane b).withMode m)) .done
      | _, _ => refuse s .state) := rfl
  have period : exec (.reportPeriodExpiry b) s = .next (s.event fun s =>
      if expired reportPeriod (s.lane b).reportTimer then
        (s.transferCount b).setLane b ((s.transferCount b).lane b).restartReport else s) := rfl
  have loss : exec (.lossTimerExpiry b) s = .next (s.event fun s =>
      if expired lossTime (s.lane b).lossTimer then s.loseLane b else s) := rfl
  unfold Answers
  rw [take, set, period, loss]
  refine ⟨fun takes none_named => ?_, fun takes none_named => ?_, fun takes named => ?_, fun held => ?_,
    fun followed up => ⟨fun early => ?_, fun n timer past => ?_, fun early => ?_, fun n timer past => ?_⟩⟩
  · refine State.command_refused takes ?_
    rw [boomOf_eq_none none_named]
  · refine State.command_refused takes ?_
    rcases none_named with boom | mode
    · rw [boomOf_eq_none boom]
    · rw [reportModeOf_eq_none mode]
      cases boomOf x <;> rfl
  · subst named
    rw [boomOf_boomCode]
    refine ⟨fun auto => State.command_refused takes (if_pos auto), fun manual => ?_, fun m mode => ?_⟩
    · refine congrArg _ (State.command_answered takes _ ((if_neg ?_).trans ?_))
      · rw [State.lane_setFrame, manual]
        nofun
      · rw [State.transferCount_setFrame_idle]
        rfl
    · subst mode
      rw [reportModeOf_byte]
      exact congrArg _ (State.command_answered takes _ rfl)
  · exact ⟨congrArg _ (State.event_held held), congrArg _ (State.event_held held)⟩
  · exact congrArg _ (followed.event_same (if_neg (not_expired early)))
  · refine congrArg _ ?_
    generalize run : (fun s : State => if expired reportPeriod (s.lane b).reportTimer then
      (s.transferCount b).setLane b ((s.transferCount b).lane b).restartReport else s) = f
    have eq : f s = (s.setLane b { s.lane b with
        reportValue := (s.lane b).faults, faults := 0, reportTimer := some 0 }).post (.report b) := by
      rw [← run, ← State.reported_eq]
      exact if_pos (expired_iff.2 ⟨n, timer, past⟩)
    rw [State.event_runs up, ← eq]
    refine followed.acting_quiet (by rw [eq]; rfl) (fun c => ?_) (fun c _ => by rw [eq]; rfl) (by rw [eq]; rfl)
      (by rw [eq]; rfl) (by rw [eq]; rfl) (by rw [eq]; rfl)
    rw [eq]
    exact State.laneInStep_setLane (l := { s.lane b with
      reportValue := (s.lane b).faults, faults := 0, reportTimer := some 0 }) rfl c
  · exact congrArg _ (followed.event_same (if_neg (not_expired early)))
  · rw [State.event_runs up]
    obtain ⟨lane, otherLane, engine, otherEngine, otherUnit, unit, holds, moves, frame⟩ := followed.laneLost
      (f := fun s => if expired lossTime (s.lane b).lossTimer then s.loseLane b else s)
      (if_pos (expired_iff.2 ⟨n, timer, past⟩))
    exact ⟨_, rfl, lane, otherLane, engine, otherEngine, otherUnit, unit, holds, s.acting_followed _, moves.within,
      moves.kept rfl rfl, frame⟩

end Sys2Proof.Machine

/-! ### Samples, whatever the lanes and the ports hold -/

namespace Sys2Proof.Machine

open Sys2Proof Sys2Proof.Machine

/-- Two states that differ in their lanes and their ports alone. -/
def State.Alike (s t : State) : Prop := ∃ l p, t = { s with lanes := l, ports := p }

namespace State.Alike

theorem refl (s : State) : s.Alike s := ⟨s.lanes, s.ports, rfl⟩

theorem of_ports {s t : State} (h : ∃ p, t = { s with ports := p }) : s.Alike t := by
  obtain ⟨p, rfl⟩ := h
  exact ⟨s.lanes, p, rfl⟩

variable {s t u : State}

theorem symm (h : s.Alike t) : t.Alike s := by
  obtain ⟨l, p, rfl⟩ := h
  exact ⟨s.lanes, s.ports, rfl⟩

theorem trans (h : s.Alike t) (k : t.Alike u) : s.Alike u := by
  obtain ⟨l, p, rfl⟩ := h
  obtain ⟨l', p', rfl⟩ := k
  exact ⟨l', p', rfl⟩

theorem post (s : State) (n : NoticePair) : s.Alike (s.post n) := .of_ports ⟨_, rfl⟩

/-- Both sides post what they like. -/
theorem posted (h : s.Alike t) (n m : NoticePair) : (s.post n).Alike (t.post m) :=
  ((post s n).symm.trans h).trans (post t m)

section
variable (h : s.Alike t) (b : Boom)
include h

theorem unit : t.unit b = s.unit b := by
  obtain ⟨l, p, rfl⟩ := h
  rfl

theorem engine : t.engine b = s.engine b := by
  obtain ⟨l, p, rfl⟩ := h
  rfl

theorem active : t.active b = s.active b := by
  obtain ⟨l, p, rfl⟩ := h
  rfl

theorem claimedEntry : t.claimedEntry b = s.claimedEntry b := by
  obtain ⟨l, p, rfl⟩ := h
  rfl

theorem plannedFor : t.plannedFor b = s.plannedFor b := by
  obtain ⟨l, p, rfl⟩ := h
  rfl

theorem loader : t.loader = s.loader := by
  obtain ⟨l, p, rfl⟩ := h
  rfl

theorem arbiter : t.arbiter = s.arbiter := by
  obtain ⟨l, p, rfl⟩ := h
  rfl

theorem entry (i : Slot) : t.entry i = s.entry i := by
  obtain ⟨l, p, rfl⟩ := h
  rfl

/-! #### Writes -/

theorem setEntry (i : Slot) (e : Option Entry) : (s.setEntry i e).Alike (t.setEntry i e) := by
  obtain ⟨l, p, rfl⟩ := h
  exact ⟨l, p, rfl⟩

theorem setEngine (g : Engine) : (s.setEngine b g).Alike (t.setEngine b g) := by
  obtain ⟨l, p, rfl⟩ := h
  exact ⟨l, p, rfl⟩

theorem modUnit (f : BoomUnit → BoomUnit) : (s.modUnit b f).Alike (t.modUnit b f) := by
  obtain ⟨l, p, rfl⟩ := h
  exact ⟨l, p, rfl⟩

theorem setLoader (x : Loader) : (s.setLoader x).Alike (t.setLoader x) := by
  obtain ⟨l, p, rfl⟩ := h
  exact ⟨l, p, rfl⟩

theorem modRow (y : Byte) (f : RowRecord → RowRecord) : (s.modRow y f).Alike (t.modRow y f) := by
  obtain ⟨l, p, rfl⟩ := h
  exact ⟨l, p, rfl⟩

theorem setBacklog (x : List Slot) : (s.setBacklog x).Alike (t.setBacklog x) := by
  obtain ⟨l, p, rfl⟩ := h
  exact ⟨l, p, rfl⟩

theorem withArbiter (a : Arbiter) {s' t' : State} (hs : ∃ p, s' = { s with arbiter := a, ports := p })
    (ht : ∃ p, t' = { t with arbiter := a, ports := p }) : s'.Alike t' := by
  obtain ⟨p, rfl⟩ := hs
  obtain ⟨q, rfl⟩ := ht
  obtain ⟨l, r, rfl⟩ := h
  exact ⟨l, q, rfl⟩

theorem updateClaimed (f : Entry → Entry) : (s.updateClaimed b f).Alike (t.updateClaimed b f) := by
  unfold State.updateClaimed
  rw [h.claimedEntry]
  cases s.claimedEntry b with
  | none => exact h
  | some x => exact h.setEntry x.1 _

theorem updateResult (f : Result → Result) : (s.updateResult b f).Alike (t.updateResult b f) := h.updateClaimed b _

/-! #### Stages and flow -/

theorem setCycle (c : CycleState) : (s.setCycle b c).Alike (t.setCycle b c) := (h.modUnit b _).posted _ _

theorem releaseFlow : (s.releaseFlow b).Alike (t.releaseFlow b) := by
  have released : ∀ z : State, ∃ p, z.releaseFlow b = { z with arbiter := z.arbiter.release b, ports := p } := fun z => by
    obtain ⟨a, p, frame⟩ := z.releaseFlow_frame b
    refine ⟨p, ?_⟩
    rw [← z.releaseFlow_arbiter, frame]
  refine h.withArbiter (s.arbiter.release b) (released s) ?_
  rw [← h.arbiter]
  exact released t

theorem requestStage (x : FlowStage) : (s.requestStage b x).Alike (t.requestStage b x) := by
  have requested : ∀ z : State, ∃ p, z.requestStage b x = { z with
      arbiter := if (z.unit b).dry then z.arbiter else z.arbiter.request (FlowRequest.ofStage b x), ports := p } :=
    fun z => by
      obtain ⟨a, p, frame⟩ := z.requestStage_frame b x
      refine ⟨p, ?_⟩
      rw [← z.requestStage_arbiter, frame]
  refine h.withArbiter _ (requested s) ?_
  rw [← h.arbiter, ← h.unit]
  exact requested t

theorem leaveStage (c : CycleState) : (s.leaveStage b c).Alike (t.leaveStage b c) := (h.setCycle b c).releaseFlow b

theorem enterTorquing : (s.enterTorquing b).Alike (t.enterTorquing b) := (h.setCycle b _).requestStage b _

theorem spinComplete : (s.spinComplete b).Alike (t.spinComplete b) := by
  have spun := (h.leaveStage b .setting).modUnit b fun u => { u with setTimer := some 0 }
  unfold State.spinComplete
  rw [h.active]
  split
  · exact spun.enterTorquing b
  · exact spun

/-! #### The loader -/

theorem grantLoader : (s.grantLoader b).Alike (t.grantLoader b) := by
  unfold State.grantLoader
  rw [h.plannedFor, h.loader]
  exact (h.setLoader _).setCycle b _

omit b in
theorem serveLoader : s.serveLoader.Alike t.serveLoader := by
  unfold State.serveLoader
  rw [h.loader]
  cases s.loader.queue with
  | nil => exact h.setLoader _
  | cons c rest => exact (h.setLoader _).grantLoader c

theorem cancelLoader : (s.cancelLoader b).Alike (t.cancelLoader b) := by
  rcases Bool.eq_false_or_eq_true ((s.loader.withoutPlace b).letsGo b) with goes | stays
  · rw [State.cancelLoader_goes goes, State.cancelLoader_goes (h.loader ▸ goes), h.loader]
    exact ((h.setLoader (s.loader.withoutPlace b)).setLoader
      { s.loader.withoutPlace b with grant := none, stageTimer := none }).serveLoader
  · rw [State.cancelLoader_stays stays, State.cancelLoader_stays (h.loader ▸ stays), h.loader]
    exact h.setLoader _

/-! #### The table -/

theorem closingCheck (y : Byte) : (s.closingCheck y).Alike (t.closingCheck y) := by
  have same : t.row y = s.row y ∧ t.rowSettled y = s.rowSettled y ∧ t.backlogHas y = s.backlogHas y := by
    obtain ⟨l, p, rfl⟩ := h
    exact ⟨rfl, rfl, rfl⟩
  obtain ⟨row, settled, backlog⟩ := same
  unfold State.closingCheck
  rw [row, settled, backlog]
  cases s.row y with
  | none => exact h
  | some r =>
    simp only []
    split
    · exact (h.modRow y _).posted _ _
    · exact h

theorem writeSlot (i : Slot) (e : Entry) : (s.writeSlot i e).Alike (t.writeSlot i e) := by
  have written : ∀ z : State, ((z.setEntry i (some e)).modRow e.row fun r => { r with
      entries := r.entries + 1 }).Alike (z.writeSlot i e) := fun z => by
    unfold State.writeSlot
    simp only []
    split
    · exact .trans (.of_ports ⟨_, rfl⟩) (.post _ _)
    · exact .of_ports ⟨_, rfl⟩
  exact ((written s).symm.trans ((h.setEntry i (some e)).modRow e.row _)).trans (written t)

theorem handleSupplement (i : Slot) : (s.handleSupplement i).Alike (t.handleSupplement i) := by
  have same : t.nextFree = s.nextFree ∧ t.tableFull = s.tableFull ∧ t.backlog = s.backlog ∧ t.params = s.params := by
    obtain ⟨l, p, rfl⟩ := h
    exact ⟨rfl, rfl, rfl, rfl⟩
  obtain ⟨free, full, backlog, params⟩ := same
  have marked : ∀ f : Entry → Entry, (s.modEntry i f).Alike (t.modEntry i f) := fun f => by
    unfold State.modEntry
    rw [h.entry]
    cases s.entry i with
    | none => exact h
    | some e => exact h.setEntry i _
  unfold State.handleSupplement State.writeSupplement
  rw [h.entry, free, full, backlog, params]
  cases s.entry i with
  | none => exact h
  | some e =>
    simp only []
    split
    · exact (marked _).posted _ _
    · split
      · split
        · exact (h.setBacklog _).posted _ _
        · exact (marked _).posted _ _
      · cases s.nextFree with
        | none => exact h
        | some j => exact h.writeSlot j _

theorem tableVerdict (i : Slot) (v : VerdictReason) : (s.tableVerdict i v).Alike (t.tableVerdict i v) := by
  unfold State.tableVerdict
  rw [h.entry]
  cases s.entry i with
  | none => exact h
  | some e =>
    have counted := (h.setEntry i (some (e.withVerdict v))).modRow e.row fun r => r.withVerdict v.final
    cases v.supplementDue with
    | false => exact counted.closingCheck e.row
    | true => exact (counted.handleSupplement i).closingCheck e.row

theorem boomVerdict (v : VerdictReason) (c : CycleState) : (s.boomVerdict b v c).Alike (t.boomVerdict b v c) := by
  unfold State.boomVerdict
  rw [h.claimedEntry]
  cases s.claimedEntry b with
  | none => exact h
  | some x =>
    exact (((((h.tableVerdict x.1 v).modUnit b _).releaseFlow b).cancelLoader b).posted _ _).setCycle b c

/-! #### Samples -/

theorem endDrilling : (s.endDrilling b).Alike (t.endDrilling b) := by
  unfold State.endDrilling State.writeDrilledDepth
  rw [h.engine]
  exact (((h.updateResult b _).setEngine b _).updateClaimed b _).leaveStage b _

theorem rejectDrilling (v : VerdictReason) : (s.rejectDrilling b v).Alike (t.rejectDrilling b v) := by
  unfold State.rejectDrilling State.writeDrilledDepth
  rw [h.engine, h.unit]
  split
  · exact h.endDrilling b
  · exact ((h.updateResult b _).setEngine b _).boomVerdict b v _

theorem applyRun (d : DrillRun) : (s.applyRun b d).Alike (t.applyRun b d) := by
  have offered : ∀ (l : List Bool) (z : State), z.Alike (l.foldl (fun acc x => acc.offer (.void b) x) z) := fun l => by
    induction l with
    | nil => exact refl
    | cons x l ih => exact fun z => .trans (.of_ports ⟨_, rfl⟩) (ih _)
  exact ((offered _ _).symm.trans ((h.setEngine b d.engine).updateClaimed b _)).trans (offered _ _)

theorem afterRun (o : DrillOutcome) : (s.afterRun b o).Alike (t.afterRun b o) := by
  cases o with
  | goesOn => exact h
  | extended => exact h.posted _ _
  | reached => exact h.endDrilling b
  | overVoid => exact h.rejectDrilling b _

theorem drillSample (x : Sample) : (s.drillSample b x).Alike (t.drillSample b x) := by
  unfold State.drillSample
  rw [h.claimedEntry, h.engine, h.active]
  cases s.claimedEntry b with
  | none => exact h
  | some c =>
    obtain ⟨i, e⟩ := c
    cases drilled : e.result with
    | none =>
      simp only [drilled]
      exact h
    | some r =>
      simp only [drilled]
      exact (h.applyRun b _).afterRun b _

theorem spinSample (x : Sample) : (s.spinSample b x).Alike (t.spinSample b x) := by
  unfold State.spinSample
  rw [h.engine, h.active]
  have written := (h.setEngine b { s.engine b with
    revolutionSum := min sumTop ((s.engine b).revolutionSum + x.speed) }).updateResult b fun r => { r with
      spinRevs := some (min sumTop ((s.engine b).revolutionSum + x.speed) / revolution) }
  simp only []
  split
  · exact written.spinComplete b
  · exact written

theorem torqueSample (x : Sample) : (s.torqueSample b x).Alike (t.torqueSample b x) := by
  have judged : (s.judge b x).Alike (t.judge b x) := by
    unfold State.judge
    rw [h.engine]
    exact (h.setEngine b _).updateResult b _
  rw [State.torqueSample_eq, State.torqueSample_eq, h.engine, h.active]
  simp only []
  split
  · exact (judged.updateResult b _).boomVerdict b _ _
  · split
    · split
      · exact judged.boomVerdict b _ _
      · split
        · exact (judged.setEngine b _).boomVerdict b _ _
        · exact judged.setEngine b _
    · split
      · exact (judged.setEngine b _).updateResult b _
      · exact judged.setEngine b _

theorem engineSample (x : Sample) : (s.engineSample b x).Alike (t.engineSample b x) := by
  unfold State.engineSample State.setSample State.torquingSample
  rw [h.unit]
  cases (s.unit b).cycle with
  | drilling => exact h.drillSample b x
  | spinning => exact h.spinSample b x
  | setting =>
    simp only []
    split
    · exact h.boomVerdict b _ _
    · exact h
  | torquing =>
    simp only []
    split
    · exact h.torqueSample b x
    · exact h
  | _ => exact h

end

end State.Alike

end Sys2Proof.Machine

/-! ### What a sample keeps -/

namespace Sys2Proof.Machine

open Sys2Proof Sys2Proof.Machine

/-- Effects of the work of boom `b`: the table, the units, the engines, the loader and the flow; the other boom keeps its
engine, waits for no flow that it did not wait for, and keeps its unit where `b` has no place at the loader. -/
structure State.OwnWork (s w : State) (b : Boom) : Prop where
  frame : w = { s with
    slots := w.slots, rows := w.rows, backlog := w.backlog, units := w.units, engines := w.engines, loader := w.loader
    arbiter := w.arbiter, ports := w.ports }
  engine : w.engine b.other = s.engine b.other
  magazine : w.loader.magazine = s.loader.magazine
  queue : (w.arbiter.queue.any fun r => r.boom == b.other) = true →
    (s.arbiter.queue.any fun r => r.boom == b.other) = true
  free : s.LoaderFree b → w.loader = s.loader ∧ w.unit b.other = s.unit b.other

section
variable {s t w : State} {b : Boom}

namespace State.Written

theorem refl (s : State) (b : Boom) : s.Written s b := ⟨rfl, rfl⟩

theorem trans (h : s.Written t b) (k : t.Written w b) : s.Written w b := by
  refine ⟨?_, k.other.trans h.other⟩
  have outer := k.frame
  rw [h.frame] at outer
  exact outer

theorem setEngine (s : State) (b : Boom) (g : Engine) : s.Written (s.setEngine b g) b :=
  ⟨rfl, Pair.get_set_other s.engines b g⟩

theorem updateClaimed (s : State) (b : Boom) (f : Entry → Entry) : s.Written (s.updateClaimed b f) b := by
  unfold State.updateClaimed
  split
  · exact ⟨rfl, rfl⟩
  · exact .refl s b

theorem updateResult (s : State) (b : Boom) (f : Result → Result) : s.Written (s.updateResult b f) b :=
  .updateClaimed s b _

theorem applyRun (s : State) (b : Boom) (d : DrillRun) : s.Written (s.applyRun b d) b := by
  have offers : ∀ (l : List Bool) (z : State), z.Written (l.foldl (fun acc x => acc.offer (.void b) x) z) b := fun l => by
    induction l with
    | nil => exact fun z => .refl z b
    | cons x l ih => exact fun z => .trans (t := z.offer (.void b) x) ⟨rfl, rfl⟩ (ih _)
  exact .trans (.trans (.setEngine s b _) (.updateClaimed _ b _)) (offers _ _)

theorem ownWork (k : s.Written w b) : s.OwnWork w b := by
  have frame := k.frame
  refine ⟨?_, k.other, by rw [frame], fun any => ?_, fun _ => ⟨by rw [frame], k.unit _⟩⟩
  · rw [frame]
  · rw [frame] at any
    exact any

end State.Written

theorem State.StageMoved.ownWork (k : s.StageMoved w b) : s.OwnWork w b := by
  obtain ⟨u, a, p, frame⟩ := k.frame
  exact ⟨by rw [frame], by rw [frame]; rfl, by rw [frame], k.queue, fun _ => ⟨by rw [frame], k.other⟩⟩

theorem State.leaveStage_moved (s : State) (b : Boom) (c : CycleState) : s.StageMoved (s.leaveStage b c) b := by
  refine ⟨?_, ?_, s.leaveStage_posted b c, State.leaveStage_move (by simp) (fun c => by cases c <;> simp) s c, ?_⟩
  · rw [State.leaveStage_unit, State.setCycle_unit_other]
  · rw [State.leaveStage_arbiter]
    exact (s.arbiter.release_queue b).any_imp
  · exact ⟨_, s.leaveStage_frame_eq b c⟩

namespace State.OwnWork

theorem refl (s : State) (b : Boom) : s.OwnWork s b := (State.Written.refl s b).ownWork

theorem trans (h : s.OwnWork t b) (k : t.OwnWork w b) : s.OwnWork w b := by
  refine ⟨?_, k.engine.trans h.engine, k.magazine.trans h.magazine, fun any => h.queue (k.queue any), fun free => ?_⟩
  · have outer := k.frame
    rw [h.frame] at outer
    exact outer
  · obtain ⟨loader, unit⟩ := h.free free
    obtain ⟨loader', unit'⟩ := k.free (free.congr (congrArg Loader.queue loader) (congrArg Loader.grant loader))
    exact ⟨loader'.trans loader, unit'.trans unit⟩

theorem post (s : State) (b : Boom) (n : NoticePair) : s.OwnWork (s.post n) b := State.Written.ownWork ⟨rfl, rfl⟩

theorem boomVerdict (s : State) (b : Boom) (v : VerdictReason) (next : CycleState) :
    s.OwnWork (s.boomVerdict b v next) b := by
  cases claim : s.claimedEntry b with
  | none =>
    have same : s.boomVerdict b v next = s := by
      unfold State.boomVerdict
      rw [claim]
    rw [same]
    exact .refl s b
  | some x =>
    have done := State.verdictDone claim v next
    have frame := done.frame
    refine ⟨?_, done.engine _, done.magazine, fun any => ?_, done.free⟩
    · rw [frame]
    · rw [done.arbiter] at any
      exact (s.arbiter.release_queue b).any_imp any

theorem endDrilling (s : State) (b : Boom) : s.OwnWork (s.endDrilling b) b :=
  .trans (State.Written.ownWork (.trans (.trans (.updateResult s b _) (.setEngine _ b _)) (.updateClaimed _ b _)))
    (State.leaveStage_moved _ b _).ownWork

theorem rejectDrilling (s : State) (b : Boom) (v : VerdictReason) : s.OwnWork (s.rejectDrilling b v) b := by
  unfold State.rejectDrilling
  split
  · exact .endDrilling s b
  · exact .trans (State.Written.ownWork (.trans (.updateResult s b _) (.setEngine _ b _))) (.boomVerdict _ b v _)

theorem drillSample (s : State) (b : Boom) (x : Sample) : s.OwnWork (s.drillSample b x) b := by
  have after : ∀ (z : State) (o : DrillOutcome), z.OwnWork (z.afterRun b o) b := fun z o => by
    cases o with
    | goesOn => exact .refl z b
    | extended => exact .post z b _
    | reached => exact .endDrilling z b
    | overVoid => exact .rejectDrilling z b _
  unfold State.drillSample
  split
  · split
    · exact .trans (State.Written.applyRun s b _).ownWork (after _ _)
    · exact .refl s b
  · exact .refl s b

theorem spinComplete (s : State) (b : Boom) : s.OwnWork (s.spinComplete b) b := by
  rw [State.spinComplete_eq]
  split
  · exact (s.spun_torquing_moved b).ownWork
  · exact (s.spun_moved b).ownWork

theorem spinSample (s : State) (b : Boom) (x : Sample) : s.OwnWork (s.spinSample b x) b := by
  have written : ∀ (g : Engine) (f : Result → Result), s.OwnWork ((s.setEngine b g).updateResult b f) b := fun g f =>
    State.Written.ownWork (.trans (.setEngine s b g) (.updateResult _ b f))
  unfold State.spinSample
  simp only []
  split
  · exact .trans (written _ _) (.spinComplete _ b)
  · exact written _ _

theorem torqueSample (s : State) (b : Boom) (x : Sample) : s.OwnWork (s.torqueSample b x) b := by
  have judged : s.Written (s.judge b x) b := .trans (.setEngine s b _) (.updateResult _ b _)
  have tested : ∀ g, s.Written ((s.judge b x).setEngine b g) b := fun g => .trans judged (.setEngine _ b g)
  rw [State.torqueSample_eq]
  simp only []
  split
  · exact .trans (State.Written.ownWork (.trans judged (.updateResult _ b _))) (.boomVerdict _ b _ _)
  · split
    · split
      · exact .trans judged.ownWork (.boomVerdict _ b _ _)
      · split
        · exact .trans (tested _).ownWork (.boomVerdict _ b _ _)
        · exact (tested _).ownWork
    · split
      · exact State.Written.ownWork (.trans (tested _) (.updateResult _ b _))
      · exact (tested _).ownWork

theorem engineSample (s : State) (b : Boom) (x : Sample) : s.OwnWork (s.engineSample b x) b := by
  unfold State.engineSample State.setSample State.torquingSample
  split
  · exact .drillSample s b x
  · exact .spinSample s b x
  · split
    · exact .boomVerdict s b _ _
    · exact .refl s b
  · split
    · exact .torqueSample s b x
    · exact .refl s b
  · exact .refl s b

end State.OwnWork

/-! ### A boom that drills on -/

theorem State.drillSample_cases (s : State) (b : Boom) (x : Sample) : s.drillSample b x = s ∨
    ∃ d o, s.drillSample b x = (s.applyRun b d).afterRun b o := by
  unfold State.drillSample
  split
  · split
    · exact .inr ⟨_, _, rfl⟩
    · exact .inl rfl
  · exact .inl rfl

/-- A sample that leaves the boom DRILLING leaves its unit. -/
theorem State.engineSample_drilling {x : Sample} (before : (s.unit b).cycle = .drilling)
    (after : ((s.engineSample b x).unit b).cycle = .drilling) : (s.engineSample b x).unit b = s.unit b := by
  have sample : s.engineSample b x = s.drillSample b x := by
    unfold State.engineSample
    rw [before]
  rw [sample] at after ⊢
  have left : ∀ z : State, ((z.leaveStage b .withdrawing).unit b).cycle = .withdrawing := fun z => by
    rw [State.leaveStage_unit, State.setCycle_unit]
  have rejected : ∀ (z : State) (v : VerdictReason), (z.boomVerdict b v .withdrawing).unit b = z.unit b ∨
      ((z.boomVerdict b v .withdrawing).unit b).cycle = .withdrawing := fun z v => by
    cases claim : z.claimedEntry b with
    | none =>
      refine .inl ?_
      unfold State.boomVerdict
      rw [claim]
    | some y => exact .inr (by rw [(State.verdictDone claim v .withdrawing).unit])
  have outcome : ∀ (z : State) (o : DrillOutcome), (z.afterRun b o).unit b = z.unit b ∨
      ((z.afterRun b o).unit b).cycle = .withdrawing := fun z o => by
    cases o with
    | goesOn => exact .inl rfl
    | extended => exact .inl rfl
    | reached => exact .inr (left _)
    | overVoid =>
      unfold State.afterRun State.rejectDrilling
      simp only []
      split
      · exact .inr (left _)
      · have written : z.Written ((z.writeDrilledDepth b).setEngine b (z.engine b).dropRun) b :=
          .trans (.updateResult z b _) (.setEngine _ b _)
        rw [← written.unit b]
        exact rejected _ _
  rcases s.drillSample_cases b x with same | ⟨d, o, run⟩
  · rw [same]
  · rw [run] at after ⊢
    rcases outcome (s.applyRun b d) o with same | ended
    · exact same.trans ((State.Written.applyRun s b d).unit b)
    · exact absurd (after.symm.trans ended) nofun

end

end Sys2Proof.Machine

/-! ### A frame admitted -/

namespace Sys2Proof.Machine

open Sys2Proof Sys2Proof.Machine

/-! ### The checks of a frame -/

section
variable {l : Lane}

theorem LaneHealth.fresh_iff {h : LaneHealth} : h.fresh = true ↔ h = .silent ∨ h = .lost := by
  cases h <;> simp [LaneHealth.fresh]

theorem Lane.seqGap_iff {seq : Byte} : l.seqGap seq = true ↔ l.Gap seq := by
  unfold Lane.seqGap Lane.Gap
  by_cases fresh : l.health.fresh = true
  · rw [if_pos fresh]
    refine ⟨nofun, fun ⟨notSilent, notLost, _⟩ => ?_⟩
    rcases LaneHealth.fresh_iff.1 fresh with silent | lost
    · exact absurd silent notSilent
    · exact absurd lost notLost
  · obtain ⟨notSilent, notLost⟩ := not_or.1 (mt LaneHealth.fresh_iff.2 fresh)
    rw [if_neg fresh]
    cases last : l.lastSeq with
    | none => simp
    | some n => simp [notSilent, notLost]

theorem Lane.advanceFault_iff {position : Nat} :
    l.advanceFault (min positionTop position) = true ↔ l.FarAdvance position := by
  unfold Lane.advanceFault Lane.FarAdvance maxAdvance positionTop
  by_cases fresh : l.health.fresh = true
  · rw [if_pos fresh]
    refine ⟨nofun, fun ⟨notSilent, notLost, _⟩ => ?_⟩
    rcases LaneHealth.fresh_iff.1 fresh with silent | lost
    · exact absurd silent notSilent
    · exact absurd lost notLost
  · obtain ⟨notSilent, notLost⟩ := not_or.1 (mt LaneHealth.fresh_iff.2 fresh)
    rw [if_neg fresh]
    cases last : l.lastPosition with
    | none => simp
    | some n =>
      simp only [ne_eq, notSilent, not_false_eq_true, notLost, true_and, Option.some.injEq, decide_eq_true_iff]
      exact ⟨fun far => ⟨n, rfl, by omega⟩, fun ⟨m, same, far⟩ => by omega⟩

theorem RawSample.clampCount_eq (x : RawSample) : x.clampCount =
    ([decide (4095 < x.position), decide (1000 < x.thrust), decide (1200 < x.speed),
      decide (800 < x.torque)].filter id).length := by
  have counted : ∀ (p : Prop) [Decidable p] (rest : List Bool),
      ((decide p :: rest).filter id).length = (if p then 1 else 0) + (rest.filter id).length := fun p _ rest => by
    by_cases h : p <;> simp [h, Nat.add_comm]
  unfold RawSample.clampCount
  rw [counted, counted, counted, counted, ← Nat.add_assoc, ← Nat.add_assoc, ← Nat.add_assoc]
  rfl

theorem RawSample.clampCount_eq_zero {x : RawSample} : ¬ 0 < x.clampCount ↔
    x.position ≤ 4095 ∧ x.thrust ≤ 1000 ∧ x.speed ≤ 1200 ∧ x.torque ≤ 800 := by
  unfold RawSample.clampCount positionTop thrustTop speedTop torqueTop
  split <;> split <;> split <;> split <;> omega

/-- The faults of a frame (R72 to R74). -/
def RawSample.faultCount (x : RawSample) (l : Lane) : Nat :=
  (if l.seqGap x.seq then 1 else 0) + x.clampCount + if l.advanceFault (min positionTop x.position) then 1 else 0

theorem RawSample.faultsAt (x : RawSample) (l : Lane) : x.FaultsAt l (x.faultCount l) := by
  refine ⟨if l.seqGap x.seq then 1 else 0, if l.advanceFault (min positionTop x.position) then 1 else 0,
    fun gap => if_pos (Lane.seqGap_iff.2 gap), fun none_found => if_neg (mt Lane.seqGap_iff.1 none_found),
    fun far => if_pos (Lane.advanceFault_iff.2 far), fun near => if_neg (mt Lane.advanceFault_iff.1 near), ?_⟩
  unfold RawSample.faultCount
  rw [RawSample.clampCount_eq]

/-- The lane after an admitted frame (R72 to R80). -/
def Lane.admitted (l : Lane) (dry : Bool) (raw : RawSample) : Lane :=
  Lane.countSample { l.receive dry raw.clamp with faults := min 65535 (l.faults + raw.faultCount l) }
    (raw.faultCount l)

/-- The health window that an admitted frame finds (R76). -/
theorem Lane.receive_window (l : Lane) (dry : Bool) (x : Sample) :
    ((l.receive dry x).windowCount, (l.receive dry x).windowTally) =
      (if l.health = .silent ∨ l.health = .lost then (0, 0) else (l.windowCount, l.windowTally)) ∧
    (l.receive dry x).health = if l.health = .silent ∨ l.health = .lost then .outOfStep else l.health := by
  unfold Lane.receive
  by_cases fresh : l.health.fresh = true
  · rw [if_pos fresh, if_pos (LaneHealth.fresh_iff.1 fresh), if_pos (LaneHealth.fresh_iff.1 fresh)]
    exact ⟨rfl, rfl⟩
  · have settled := mt LaneHealth.fresh_iff.2 fresh
    rw [if_neg fresh, if_neg settled, if_neg settled]
    exact ⟨rfl, rfl⟩

theorem Lane.countSample_kept (l : Lane) (n : Nat) : l.countSample n = { l with
    windowCount := (l.countSample n).windowCount, windowTally := (l.countSample n).windowTally
    health := (l.countSample n).health } := by
  unfold Lane.countSample
  simp only []
  split <;> rfl

theorem Lane.countSample_open {n : Nat} (h : l.windowCount < 63) : (l.countSample n).windowCount = l.windowCount + 1 ∧
    (l.countSample n).windowTally = min 255 (l.windowTally + n) ∧ (l.countSample n).health = l.health := by
  have counts : l.countSample n = { l.tally n with windowCount := l.windowCount + 1 } := if_pos (Nat.succ_lt_succ h)
  rw [counts]
  exact ⟨rfl, rfl, rfl⟩

theorem Lane.countSample_full {n : Nat} (h : 63 ≤ l.windowCount) : (l.countSample n).windowCount = 0 ∧
    (l.countSample n).windowTally = 0 ∧
    (l.countSample n).health = if min 255 (l.windowTally + n) ≤ 6 then .inStep else .outOfStep := by
  have counts : l.countSample n = { l.tally n with
      windowCount := 0, windowTally := 0
      health := if min 255 (l.windowTally + n) ≤ 6 then .inStep else .outOfStep } :=
    if_neg (Nat.not_lt.2 (Nat.succ_le_succ h))
  rw [counts]
  exact ⟨rfl, rfl, rfl⟩

theorem Lane.receive_kept (l : Lane) (dry : Bool) (x : Sample) : (l.receive dry x).faults = l.faults ∧
    (l.receive dry x).framer = l.framer ∧ (l.receive dry x).reportValue = l.reportValue ∧
    (l.receive dry x).reportMode = l.reportMode ∧ (l.receive dry x).reportTimer = l.reportTimer := by
  unfold Lane.receive
  split <;> exact ⟨rfl, rfl, rfl, rfl, rfl⟩

end

/-! ### The parts of an admission -/

section
variable {s : State} {b : Boom} {raw : RawSample}

/-- The part when the sample reaches the engine: the lane received, the faults counted, and the mark of a gap. -/
def State.received (s : State) (b : Boom) (raw : RawSample) : State :=
  if (s.lane b).seqGap raw.seq then
    ((s.setLane b ((s.lane b).receive (s.unit b).dry raw.clamp)).countFaults b (raw.faultCount (s.lane b))).laneMark b
  else (s.setLane b ((s.lane b).receive (s.unit b).dry raw.clamp)).countFaults b (raw.faultCount (s.lane b))

/-- The part after the engine and the flush watch. -/
def State.sampled (s : State) (b : Boom) (raw : RawSample) : State :=
  ((s.received b raw).engineSample b raw.clamp).watchFlush b raw.clamp

theorem State.admitSample_eq (s : State) (b : Boom) (raw : RawSample) : s.admitSample b raw =
    (s.sampled b raw).setLane b (((s.sampled b raw).lane b).countSample (raw.faultCount (s.lane b))) := by
  have gap : ∀ x y : State, (if (if (s.lane b).seqGap raw.seq then 1 else 0) = 1 then x else y) =
      if (s.lane b).seqGap raw.seq then x else y := fun x y => by
    cases (s.lane b).seqGap raw.seq <;> rfl
  unfold State.admitSample State.sampled State.received
  rw [← gap]
  rfl

/-- The state as the sample's own work finds it: with the mark of a gap (R75, R95). -/
def State.gapMarked (s : State) (b : Boom) (seq : Byte) : State :=
  if (s.lane b).seqGap seq then s.laneMark b else s

theorem State.Alike.laneMark {s t : State} (h : s.Alike t) (b : Boom) : (s.laneMark b).Alike (t.laneMark b) := by
  rw [State.laneMark_eq, State.laneMark_eq, h.unit, h.engine]
  exact h.setEngine b _

theorem State.received_alike (s : State) (b : Boom) (raw : RawSample) :
    (s.gapMarked b raw.seq).Alike (s.received b raw) := by
  have counted : s.Alike ((s.setLane b ((s.lane b).receive (s.unit b).dry raw.clamp)).countFaults b
      (raw.faultCount (s.lane b))) := ⟨_, _, State.countFaults_frame _ b _⟩
  unfold State.gapMarked State.received
  split
  · exact counted.laneMark b
  · exact counted

theorem State.gapMarked_frame (s : State) (b : Boom) (seq : Byte) : s.Written (s.gapMarked b seq) b := by
  unfold State.gapMarked
  split
  · rw [State.laneMark_eq]
    exact .setEngine s b _
  · exact .refl s b

theorem State.received_lanes (s : State) (b : Boom) (raw : RawSample) :
    (s.received b raw).lane b = { (s.lane b).receive (s.unit b).dry raw.clamp with
      faults := min 65535 ((s.lane b).faults + raw.faultCount (s.lane b)) } ∧
    (s.received b raw).lane b.other = s.lane b.other := by
  have same : (s.received b raw).lanes = ((s.setLane b ((s.lane b).receive (s.unit b).dry raw.clamp)).countFaults b
      (raw.faultCount (s.lane b))).lanes := by
    unfold State.received
    split
    · rw [State.laneMark_eq]
      rfl
    · rfl
  have own : (s.setLane b ((s.lane b).receive (s.unit b).dry raw.clamp)).lane b =
      (s.lane b).receive (s.unit b).dry raw.clamp := Pair.get_set_same s.lanes b _
  obtain ⟨faults, _⟩ := (s.lane b).receive_kept (s.unit b).dry raw.clamp
  refine ⟨?_, ?_⟩
  · rw [State.lane, same]
    refine (State.countFaults_lane _ b _).trans ?_
    rw [own, faults]
  · rw [State.lane, same]
    exact (State.countFaults_lane_other _ b _).trans (Pair.get_set_other s.lanes b _)

theorem State.watchFlush_unit (s : State) (b : Boom) (x : Sample) : (s.watchFlush b x).unit b = { s.unit b with
    flushCount := if (s.unit b).cycle = .drilling then nextFlush (s.unit b).flushCount x.flush
      else (s.unit b).flushCount } := by
  unfold State.watchFlush
  split
  · exact Pair.get_set_same s.units b _
  · rfl

theorem State.watchFlush_frame (s : State) (b : Boom) (x : Sample) :
    s.watchFlush b x = { s with units := (s.watchFlush b x).units } := by
  unfold State.watchFlush
  split <;> rfl

theorem State.watchFlush_unit_other (s : State) (b : Boom) (x : Sample) :
    (s.watchFlush b x).unit b.other = s.unit b.other := by
  unfold State.watchFlush
  split
  · exact Pair.get_set_other s.units b _
  · rfl

/-- A sample leaves the other boom's unit, where flow and loader agree with the stages. -/
theorem State.StagesAgree.engineSample_other (agrees : s.StagesAgree) (b : Boom) (x : Sample) :
    (s.engineSample b x).unit b.other = s.unit b.other := by
  by_cases busy : (s.unit b).cycle = .awaitResin ∨ (s.unit b).cycle = .loading
  · have same : s.engineSample b x = s := by
      unfold State.engineSample
      rcases busy with await | loading
      · rw [await]
      · rw [loading]
    rw [same]
  · obtain ⟨await, loading⟩ := not_or.1 busy
    exact ((State.OwnWork.engineSample s b x).free ((agrees.boom b).loaderFree await loading)).2

end

end Sys2Proof.Machine

/-! ### A frame admitted: the whole action -/

namespace Sys2Proof.Machine

open Sys2Proof Sys2Proof.Machine

section
variable {s : State} {b : Boom} {raw : RawSample}

/-- The state that the engine leaves of a sample, beside its lanes and its ports. -/
theorem State.sampled_parts (s : State) (b : Boom) (raw : RawSample) :
    ∃ y : State, ((s.gapMarked b raw.seq).engineSample b raw.clamp).Alike y ∧
      (y.lane b = (s.received b raw).lane b ∧ y.lane b.other = s.lane b.other) ∧
      s.sampled b raw = y.watchFlush b raw.clamp := by
  refine ⟨(s.received b raw).engineSample b raw.clamp, (s.received_alike b raw).engineSample b _, ?_, rfl⟩
  have lanes : ((s.received b raw).engineSample b raw.clamp).lanes = (s.received b raw).lanes := by
    rw [(State.OwnWork.engineSample (s.received b raw) b raw.clamp).frame]
  refine ⟨?_, ?_⟩
  · rw [State.lane, lanes]
    rfl
  · rw [State.lane, lanes]
    exact (s.received_lanes b raw).2

theorem State.admitSample_lane (s : State) (b : Boom) (raw : RawSample) :
    (s.admitSample b raw).lane b = (s.lane b).admitted (s.unit b).dry raw ∧
      (s.admitSample b raw).lane b.other = s.lane b.other := by
  obtain ⟨y, _, ⟨own, other⟩, sampled⟩ := s.sampled_parts b raw
  have lanes : ∀ c, (s.sampled b raw).lane c = y.lane c := fun c => by
    rw [sampled, State.watchFlush_frame]
    rfl
  rw [State.admitSample_eq]
  refine ⟨(Pair.get_set_same _ b _).trans ?_, (Pair.get_set_other _ b _).trans ((lanes b.other).trans other)⟩
  rw [lanes, own, (s.received_lanes b raw).1]
  rfl

theorem State.admitSample_counted (below : (s.lane b).faults < 65535)
    (reached : 65535 ≤ (s.lane b).faults + raw.faultCount (s.lane b)) :
    (s.admitSample b raw).Posted (.countOver b) := by
  have all : ∀ n : NoticePair, n ∈ PortRights.all.notices := fun n => mem_allPairs n
  have counted : (s.received b raw).Posted (.countOver b) := by
    have lane : ((s.setLane b ((s.lane b).receive (s.unit b).dry raw.clamp)).lane b).faults = (s.lane b).faults := by
      rw [show (s.setLane b ((s.lane b).receive (s.unit b).dry raw.clamp)).lane b = _ from Pair.get_set_same s.lanes b _]
      exact ((s.lane b).receive_kept _ _).1
    have posted := State.countFaults_counted (s := s.setLane b ((s.lane b).receive (s.unit b).dry raw.clamp)) (b := b)
      (n := raw.faultCount (s.lane b)) (lane ▸ below) (lane ▸ reached)
    unfold State.received
    split
    · exact (State.PortsMove.laneMark (R := .all) _ b).posted posted
    · exact posted
  rw [State.admitSample_eq]
  have moves : (s.received b raw).PortsMove .all (s.sampled b raw) :=
    .trans (.engineSample (fun _ => all _) (fun _ => all _) (all _) (all _) rfl (all _) (all _) (all _) _ _)
      (.watchFlush _ b _)
  exact moves.posted counted

/-- What an admitted frame makes of the sample's work, before the booms are brought in step. -/
theorem State.admitSample_work (s : State) (b : Boom) (raw : RawSample) :
    ∃ y : State, ((s.gapMarked b raw.seq).engineSample b raw.clamp).Alike y ∧
      (s.admitSample b raw).Alike (y.watchFlush b raw.clamp) := by
  obtain ⟨y, alike, _, sampled⟩ := s.sampled_parts b raw
  refine ⟨y, alike, ?_⟩
  rw [State.admitSample_eq, ← sampled]
  exact State.Alike.symm ⟨_, _, rfl⟩

/-- The parts that no frame touches. -/
theorem State.admitSample_frame (s : State) (b : Boom) (raw : RawSample) : ∃ slots rows backlog lanes units engines loader
    arbiter ports, s.admitSample b raw = { s with
      slots := slots, rows := rows, backlog := backlog, lanes := lanes, units := units, engines := engines
      loader := loader, arbiter := arbiter, ports := ports } := by
  obtain ⟨y, ⟨l, p, worked⟩, watched⟩ := s.admitSample_work b raw
  obtain ⟨l', p', eq⟩ := watched.symm
  rw [eq, State.watchFlush_frame, worked, (State.OwnWork.engineSample (s.gapMarked b raw.seq) b raw.clamp).frame,
    (s.gapMarked_frame b raw.seq).frame]
  exact ⟨_, _, _, _, _, _, _, _, _, rfl⟩

theorem State.admitSample_move (s : State) (b : Boom) (raw : RawSample) {R : PortRights}
    (stage : ∀ c, .stage c ∈ R.notices) (flow : ∀ c, .flow c ∈ R.notices) (table : .table ∈ R.notices)
    (row : .row ∈ R.notices) (writes : R.writes = true) (verdict : .verdict b ∈ R.notices)
    (extend : .extend b ∈ R.notices) (void : .void b ∈ R.notices) (full : .countOver b ∈ R.notices) :
    s.PortsMove R (s.admitSample b raw) :=
  .admitSample stage flow table row writes verdict extend void full s raw

end

/-! ### The fields of `Admitted` -/

section
variable {s : State} {b : Boom} {raw : RawSample} {f : State → State} (hf : f s = s.admitSample b raw)
include hf

theorem State.admitted_lane : (s.acting f).lane b = (s.lane b).admitted (s.unit b).dry raw := by
  rw [State.lane_acting, hf, (s.admitSample_lane b raw).1]

theorem State.admitted_faults : ∃ n, raw.FaultsAt (s.lane b) n ∧
    ((s.acting f).lane b).faults = min 65535 ((s.lane b).faults + n) ∧
    ((s.lane b).faults < 65535 → 65535 ≤ (s.lane b).faults + n → (s.acting f).Posted (.countOver b)) ∧
    ∀ count tally, (count, tally) = (if (s.lane b).health = .silent ∨ (s.lane b).health = .lost then (0, 0)
        else ((s.lane b).windowCount, (s.lane b).windowTally)) →
      (count < 63 → ((s.acting f).lane b).windowCount = count + 1 ∧
        ((s.acting f).lane b).windowTally = min 255 (tally + n) ∧
        ((s.acting f).lane b).health = if (s.lane b).health = .silent ∨ (s.lane b).health = .lost then .outOfStep
          else (s.lane b).health) ∧
      (63 ≤ count → ((s.acting f).lane b).windowCount = 0 ∧ ((s.acting f).lane b).windowTally = 0 ∧
        ((s.acting f).lane b).health = if min 255 (tally + n) ≤ 6 then .inStep else .outOfStep) := by
  refine ⟨raw.faultCount (s.lane b), raw.faultsAt (s.lane b), ?_, fun below reached => ?_, fun count tally window => ?_⟩
  · rw [State.admitted_lane hf, Lane.admitted, Lane.countSample_kept]
  · refine (s.acting_moves f).posted ?_
    rw [hf]
    exact State.admitSample_counted below reached
  · obtain ⟨found, health⟩ := (s.lane b).receive_window (s.unit b).dry raw.clamp
    obtain ⟨counts, tallies⟩ := Prod.mk.inj (found.trans window.symm)
    rw [State.admitted_lane hf, Lane.admitted]
    refine ⟨fun below => ?_, fun full => ?_⟩
    · rw [← counts] at below ⊢
      rw [← tallies, ← health]
      exact Lane.countSample_open (l := { (s.lane b).receive (s.unit b).dry raw.clamp with
        faults := min 65535 ((s.lane b).faults + raw.faultCount (s.lane b)) }) below
    · rw [← counts] at full
      rw [← tallies]
      exact Lane.countSample_full (l := { (s.lane b).receive (s.unit b).dry raw.clamp with
        faults := min 65535 ((s.lane b).faults + raw.faultCount (s.lane b)) }) full

theorem State.admitted_fields : ((s.acting f).lane b).lastSeq = some raw.seq ∧
    ((s.acting f).lane b).lastPosition = some (min 4095 raw.position) ∧
    ((s.acting f).lane b).lossTimer = (if (s.unit b).dry then none else some 0) ∧
    ((s.acting f).lane b).framer = (s.lane b).framer ∧
    ((s.acting f).lane b).reportValue = (s.lane b).reportValue ∧
    ((s.acting f).lane b).reportMode = (s.lane b).reportMode ∧
    ((s.acting f).lane b).reportTimer = (s.lane b).reportTimer := by
  obtain ⟨_, framer, value, mode, timer⟩ := (s.lane b).receive_kept (s.unit b).dry raw.clamp
  rw [State.admitted_lane hf, Lane.admitted, Lane.countSample_kept]
  exact ⟨rfl, rfl, rfl, framer, value, mode, timer⟩

omit hf in
/-- The gap's mark stands in the state that the sample's work starts from. -/
theorem State.gapMarked_of {v : State} (marks : (s.lane b).Gap raw.seq → (s.unit b).cycle = .drilling →
      v = s.setEngine b { s.engine b with openIncomplete := true })
    (same : ¬ (s.lane b).Gap raw.seq ∨ (s.unit b).cycle ≠ .drilling → v = s) : v = s.gapMarked b raw.seq := by
  unfold State.gapMarked State.laneMark
  by_cases gap : (s.lane b).seqGap raw.seq = true
  · rw [if_pos gap]
    by_cases drilling : (s.unit b).cycle = .drilling
    · rw [if_pos drilling]
      exact marks (Lane.seqGap_iff.1 gap) drilling
    · rw [if_neg drilling]
      exact same (.inr drilling)
  · rw [if_neg gap]
    exact same (.inl (mt Lane.seqGap_iff.2 gap))

theorem State.admitted_reached {u : State} (work : u = (s.gapMarked b raw.seq).engineSample b raw.clamp) :
    (s.acting f).slots = u.slots ∧ (s.acting f).rows = u.rows ∧ (s.acting f).backlog = u.backlog ∧
      (s.acting f).arbiter = u.arbiter ∧ (s.acting f).loader = u.loader ∧
      (s.acting f).unit b = { u.unit b with
        holds := ((s.acting f).unit b).holds, flushCount := ((s.acting f).unit b).flushCount
        abandonTimer := ((s.acting f).unit b).abandonTimer, spinTimer := ((s.acting f).unit b).spinTimer
        setTimer := ((s.acting f).unit b).setTimer, torqueTimer := ((s.acting f).unit b).torqueTimer
        feed := ((s.acting f).unit b).feed, turn := ((s.acting f).unit b).turn } ∧
      (u.unit b).TimersRunOn ((s.acting f).unit b) ∧
      ((u.unit b).cycle ≠ .drilling → ((s.acting f).unit b).flushCount = (u.unit b).flushCount) ∧
      (s.acting f).engine b = if (u.unit b).cycle = .torquing ∧ ((s.acting f).unit b).holds.present = true then
        { u.engine b with seatRun := 0, engaged := false, slipRun := 0 } else u.engine b := by
  obtain ⟨y, worked, watched⟩ := s.admitSample_work b raw
  rw [← work] at worked
  have unit : (f s).unit b = { u.unit b with
      flushCount := if (u.unit b).cycle = .drilling then nextFlush (u.unit b).flushCount raw.clamp.flush
        else (u.unit b).flushCount } := by
    rw [hf, ← watched.unit, State.watchFlush_unit, worked.unit]
  have holds : ((s.acting f).unit b).holds = (f s).holdConditions b := by
    rw [State.acting_unit]
    rfl
  have parts : ∃ l p v, f s = { u with lanes := l, ports := p, units := v } := by
    obtain ⟨l, p, eq⟩ := worked
    obtain ⟨l', p', eq'⟩ := watched.symm
    rw [hf, eq', State.watchFlush_frame, eq]
    exact ⟨l', p', _, rfl⟩
  obtain ⟨l, p, v, frame⟩ := parts
  refine ⟨?_, ?_, ?_, ?_, ?_, ?_, ?_, fun other => ?_, ?_⟩
  · rw [State.acting_slots, frame]
  · rw [State.acting_rows, frame]
  · rw [State.acting_backlog, frame]
  · rw [State.acting_arbiter, frame]
  · rw [State.acting_loader, frame]
  · rw [State.acting_unit, unit]
    rfl
  · rw [State.acting_unit]
    have runs := BoomUnit.follow_timersRunOn ((f s).unit b) ((f s).holdConditions b) (f s).isHeld
    generalize BoomUnit.follow ((f s).unit b) ((f s).holdConditions b) (f s).isHeld = followed at runs ⊢
    rw [unit] at runs
    obtain ⟨abandon, spin, spinStarts, set, torque, torqueStarts, paused⟩ := runs
    exact ⟨abandon, spin, spinStarts, set, torque, torqueStarts, paused⟩
  · rw [State.acting_unit]
    show ((f s).unit b).flushCount = _
    rw [unit, if_neg other]
  · have engine : (f s).engine b = u.engine b := by
      rw [frame]
      rfl
    have cycle : ((f s).unit b).cycle = (u.unit b).cycle := by rw [unit]
    rw [State.acting_engine, holds, engine, cycle]
    rfl

theorem State.admitted_flush (before : (s.unit b).cycle = .drilling)
    (after : ((s.acting f).unit b).cycle = .drilling) : ((s.acting f).unit b).flushCount =
      if raw.flags.getLsbD 0 then 0 else min 10 ((s.unit b).flushCount + 1) := by
  obtain ⟨y, worked, watched⟩ := s.admitSample_work b raw
  have marked := (s.gapMarked_frame b raw.seq).unit b
  have unit : (f s).unit b = { y.unit b with
      flushCount := if (y.unit b).cycle = .drilling then nextFlush (y.unit b).flushCount raw.clamp.flush
        else (y.unit b).flushCount } := by
    rw [hf, ← watched.unit, State.watchFlush_unit]
  rw [State.acting_unit] at after ⊢
  have drills : (y.unit b).cycle = .drilling := by
    have still : ((f s).unit b).cycle = .drilling := after
    rw [unit] at still
    exact still
  have same : y.unit b = s.unit b := by
    rw [worked.unit] at drills ⊢
    rw [← marked] at before ⊢
    exact State.engineSample_drilling before drills
  show ((f s).unit b).flushCount = _
  rw [unit, same, if_pos before]
  rfl

theorem State.admitted_otherBoom (h : s.Followed) (agrees : s.StagesAgree) :
    (s.acting f).engine b.other = s.engine b.other ∧ (s.unit b.other).SameWork ((s.acting f).unit b.other) ∧
      (s.unit b.other).TimersRunOn ((s.acting f).unit b.other) := by
  obtain ⟨y, worked, watched⟩ := s.admitSample_work b raw
  have marked := s.gapMarked_frame b raw.seq
  have own := State.OwnWork.engineSample (s.gapMarked b raw.seq) b raw.clamp
  have unit : (f s).unit b.other = s.unit b.other := by
    rw [hf, ← watched.unit, State.watchFlush_unit_other, worked.unit,
      (marked.stagesAgree agrees).engineSample_other, marked.unit]
  have engine : (f s).engine b.other = s.engine b.other := by
    rw [hf, ← watched.engine, State.watchFlush_frame]
    exact (worked.engine b.other).trans (own.engine.trans marked.other)
  have arbiter : (f s).arbiter = ((s.gapMarked b raw.seq).engineSample b raw.clamp).arbiter := by
    rw [hf, ← watched.arbiter, State.watchFlush_frame]
    exact worked.arbiter
  have lane : (f s).laneInStep b.other = s.laneInStep b.other := by
    unfold State.laneInStep
    rw [hf, (s.admitSample_lane b raw).2]
  refine ⟨?_, ?_, ?_⟩
  · refine (h b.other).acting_engine_kept engine fun torquing present => ⟨unit ▸ torquing, ?_⟩
    refine State.present_of_any (by rw [unit]) torquing lane (fun any => ?_) present
    rw [arbiter] at any
    have before := own.queue any
    rw [show (s.gapMarked b raw.seq).arbiter = s.arbiter by rw [marked.frame]] at before
    exact before
  · rw [State.acting_unit, unit]
    exact BoomUnit.follow_sameWork _ _ _
  · rw [State.acting_unit, unit]
    exact BoomUnit.follow_timersRunOn _ _ _

/-- The rights of an admitted frame. -/
def PortRights.admission (b : Boom) : PortRights :=
  ⟨[.countOver b, .lane b, .permit .A, .permit .B, .stage .A, .stage .B, .flow .A, .flow .B, .extend b, .void b,
      .verdict b, .loader, .row, .table], true, false⟩

theorem State.admitted_moves : s.PortsMove (.admission b) (s.acting f) := by
  have unit : ∀ x, x ∈ (PortRights.admission b).notices ↔ x ∈ [NoticePair.countOver b, .lane b, .permit .A, .permit .B,
      .stage .A, .stage .B, .flow .A, .flow .B, .extend b, .void b, .verdict b, .loader, .row, .table] := fun _ => Iff.rfl
  refine .ofActing ?_ (fun c _ => by cases c <;> simp [unit]) (fun c changed => ?_) (fun _ => by simp [unit])
    fun changed => absurd ?_ changed
  · rw [hf]
    exact s.admitSample_move b raw (fun c => by cases c <;> simp [unit]) (fun c => by cases c <;> simp [unit])
      (by simp [unit]) (by simp [unit]) rfl (by simp [unit]) (by simp [unit]) (by simp [unit]) (by simp [unit])
  · rcases Boom.eq_or_eq_other b c with rfl | rfl
    · simp [unit]
    · refine absurd ?_ changed
      unfold State.laneInStep
      rw [hf, (s.admitSample_lane b raw).2]
  · obtain ⟨y, worked, watched⟩ := s.admitSample_work b raw
    have marked := s.gapMarked_frame b raw.seq
    have own := State.OwnWork.engineSample (s.gapMarked b raw.seq) b raw.clamp
    have magazine : (f s).loader.magazine = s.loader.magazine := by
      rw [hf, ← watched.loader, State.watchFlush_frame]
      refine (congrArg Loader.magazine worked.loader).trans (own.magazine.trans ?_)
      rw [marked.frame]
    have params : (f s).params = s.params := by
      obtain ⟨_, _, _, _, _, _, _, _, _, frame⟩ := s.admitSample_frame b raw
      rw [hf, frame]
    unfold State.magazineLow
    rw [magazine, params]

/-- The whole of `Admitted` for an action that admits a frame. -/
theorem State.admitted : Admitted s (s.acting f) b raw where
  faults := State.admitted_faults hf
  sequence := (State.admitted_fields hf).1
  position := (State.admitted_fields hf).2.1
  loss := (State.admitted_fields hf).2.2.1
  framer := (State.admitted_fields hf).2.2.2.1
  report := (State.admitted_fields hf).2.2.2.2
  other := by rw [State.lane_acting, hf, (s.admitSample_lane b raw).2]
  reached v u marks same work := State.admitted_reached hf (work.trans (by rw [State.gapMarked_of marks same]; rfl))
  flush := State.admitted_flush hf
  followed := State.acting_followed s f
  otherBoom := State.admitted_otherBoom hf
  ports := (State.admitted_moves hf).beside rfl
  within := (State.admitted_moves hf).within
  kept := by
    obtain ⟨_, _, _, _, _, _, _, _, _, frame⟩ := s.admitSample_frame b raw
    obtain ⟨_, _, _, acted⟩ := State.acting_frame s f
    rw [acted, hf, frame]
    exact ⟨rfl, rfl, rfl, rfl, rfl, rfl, rfl, rfl⟩

end

end Sys2Proof.Machine

/-! ### FEED SAMPLE -/

namespace Sys2Proof.Machine

open Sys2Proof Sys2Proof.Machine

theorem exec_feedSample (boom seq : Byte) (position thrust speed torque : Word16) (flags : Byte) (s : State) :
    exec (.feedSample .C boom seq position thrust speed torque flags) s = .next (s.command .C .feedSample fun s =>
      match boomOf boom with
      | none => refuse s .state
      | some b =>
        if (s.unit b).dry then
          taken (s.acting fun s => s.admitSample b ⟨seq, position.toNat, thrust.toNat, speed.toNat, torque.toNat, flags⟩)
            (doneOr (decide (0 <
              (⟨seq, position.toNat, thrust.toNat, speed.toNat, torque.toNat, flags⟩ : RawSample).clampCount)))
        else refuse s .state) := rfl

/-- Settles O49: the sample is admitted as a received frame is. -/
theorem fedSampleAdmitted : Obligations.FedSampleAdmitted := by
  intro boom seq position thrust speed torque flags s takes
  unfold Answers
  rw [exec_feedSample]
  generalize raw : (⟨seq, position.toNat, thrust.toNat, speed.toNat, torque.toNat, flags⟩ : RawSample) = x
  refine ⟨fun none_named => ?_, ?_⟩
  · refine State.command_refused takes ?_
    rw [boomOf_eq_none none_named]
  · rintro b rfl
    rw [boomOf_boomCode]
    refine ⟨fun wet => ?_, fun dry => ⟨s.acting fun s => s.admitSample b x, ?_, State.admitted rfl⟩⟩
    · refine State.command_refused takes (if_neg ?_)
      rw [State.unit_setFrame, wet]
      nofun
    · have code : doneOr (decide (0 < x.clampCount)) = if position.toNat ≤ 4095 ∧ thrust.toNat ≤ 1000 ∧
          speed.toNat ≤ 1200 ∧ torque.toNat ≤ 800 then .done else .clamped := by
        subst raw
        exact doneOr_not (decide_eq_true_iff.trans (not_not.symm.trans (not_congr RawSample.clampCount_eq_zero)))
      rw [← code]
      refine congrArg _ (State.command_answered takes _ ((if_pos ?_).trans ?_))
      · rw [State.unit_setFrame, dry]
      · rw [State.acting_setFrame_idle (f := fun s => s.admitSample b x) (State.admitSample_setFrame_idle s .C b x)]
        rfl

end Sys2Proof.Machine

/-! ### The framer and the CRC-8 -/

namespace Sys2Proof.Machine

open Sys2Proof Sys2Proof.Machine

/-! ### The CRC-8 -/

theorem crcBit_eq_zero (c : Byte) : crcBit c = 0x00 ↔ c = 0x00 := by
  revert c
  decide

theorem crcByte_eq_zero (c x : Byte) : crcByte c x = 0x00 ↔ x = c := by
  unfold crcByte
  simp only [crcBit_eq_zero]
  exact BitVec.xor_eq_zero_iff.trans eq_comm

theorem crc8_append (l : List Byte) (x : Byte) : crc8 (l ++ [x]) = crcByte (crc8 l) x := by
  unfold crc8
  rw [List.foldl_append]
  rfl

theorem crcBit_eq {f : Byte → Byte} (clear : ∀ y, y.getLsbD 7 = false → f y = y <<< 1)
    (set : ∀ y, y.getLsbD 7 = true → f y = (y <<< 1) ^^^ 0x07) : crcBit = f := by
  funext c
  have top : c.msb = c.getLsbD 7 := rfl
  unfold crcBit
  split
  · rename_i high
    exact (set c (top.symm.trans high)).symm
  · rename_i low
    exact (clear c (top.symm.trans (Bool.eq_false_iff.2 low))).symm

/-! ### A complete frame -/

theorem crcGood_complete {held : List Byte} (full : held.length = 11) (c : Byte) :
    crcGood (held ++ [c]) = true ↔ c = crc8 (held.drop 1) := by
  have kept : ((held ++ [c]).drop 1).take 10 = held.drop 1 := by
    rw [List.drop_append_of_le_length (by omega), List.take_append_of_le_length (by simp [full]),
      List.take_of_length_le (by simp [full])]
  have last : (held ++ [c]).getD 11 0 = c := by
    rw [← full]
    simp
  unfold crcGood
  rw [kept, last, beq_iff_eq, eq_comm]

theorem rawOfFrame_complete {held : List Byte} (full : held.length = 11) (c : Byte) :
    rawOfFrame (held ++ [c]) = ⟨argAt held 1, (wordAt held 2).toNat, (wordAt held 4).toNat, (wordAt held 6).toNat,
      (wordAt held 8).toNat, argAt held 10⟩ := by
  have byte : ∀ k, k < 11 → (held ++ [c]).getD k 0 = argAt held k := fun k below =>
    List.getD_append _ _ _ _ (full ▸ below)
  simp only [rawOfFrame, frameWord, wordAt, byte 1 (by omega), byte 2 (by omega), byte 3 (by omega), byte 4 (by omega),
    byte 5 (by omega), byte 6 (by omega), byte 7 (by omega), byte 8 (by omega), byte 9 (by omega), byte 10 (by omega)]

/-! ### A discarded frame -/

section
variable {s : State} {b : Boom}

/-- The lane of a boom, its frame discarded (R70, R71, R77). -/
def Lane.discarded (l : Lane) : Lane :=
  { l with
    framer := .hunting
    faults := min 65535 (l.faults + 1)
    windowTally := if l.health.fresh then l.windowTally else min 255 (l.windowTally + 1) }

/-- A discard fault: its count and its tally, and then its mark (R77, R80, R95). -/
theorem State.discardFault_eq (s : State) (b : Boom) : s.discardFault b =
    ((s.countFaults b 1).setLane b { s.lane b with
      faults := min 65535 ((s.lane b).faults + 1)
      windowTally := if (s.lane b).health.fresh then (s.lane b).windowTally
        else min 255 ((s.lane b).windowTally + 1) }).laneMark b := by
  have own := (s.countFaults b 1).setLane_own b
  unfold State.discardFault
  simp only [State.countFaults_lane] at own ⊢
  refine congrArg (State.laneMark · b) ?_
  by_cases fresh : (s.lane b).health.fresh = true
  · simp only [if_pos fresh]
    exact own.symm
  · simp only [if_neg fresh]
    rfl

theorem State.tearFrame_frame (s : State) (b : Boom) : ∃ p, s.tearFrame b = { s with
    lanes := s.lanes.set b (s.lane b).discarded, ports := p
    engines := s.engines.set b (if (s.unit b).cycle = .drilling then (s.engine b).marked else s.engine b) } := by
  refine ⟨(s.tearFrame b).ports, ?_⟩
  unfold State.tearFrame
  rw [State.discardFault_eq, State.laneMark_eq, State.countFaults_frame]
  simp only [State.setLane, State.lane, Pair.set_set, Pair.get_set_same]
  rfl

theorem State.tearFrame_ports (s : State) (b : Boom) :
    (s.tearFrame b).ports = ((s.setLane b { s.lane b with framer := .hunting }).countFaults b 1).ports := by
  unfold State.tearFrame
  rw [State.discardFault_eq, State.laneMark_eq]
  rfl

theorem State.tearFrame_move (s : State) (b : Boom) : s.PortsMove ⟨[.countOver b], false, false⟩ (s.tearFrame b) :=
  .tearFrame (b := b) s (fun _ _ => List.mem_singleton.2 rfl)

/-- An action that tears a frame leaves what a discard fault leaves. -/
theorem State.Followed.discarded (h : s.Followed) {f : State → State} (hf : f s = s.tearFrame b) :
    Discarded s (s.acting f) b := by
  obtain ⟨p, frame⟩ := s.tearFrame_frame b
  have whole : s.acting f = s.tearFrame b := by
    refine Eq.trans (h.acting_quiet ?_ (fun c => ?_) (fun c torquing => ?_) ?_ ?_ ?_ ?_) hf <;> rw [hf, frame]
    · exact State.laneInStep_setLane (l := (s.lane b).discarded) rfl c
    · rcases Boom.eq_or_eq_other b c with rfl | rfl
      · refine (Pair.get_set_same s.engines c _).trans (if_neg ?_)
        rw [torquing]
        nofun
      · exact Pair.get_set_other s.engines b _
    · rfl
    · rfl
    · rfl
  have moves := s.tearFrame_move b
  have faults : ((s.setLane b { s.lane b with framer := .hunting }).lane b).faults = (s.lane b).faults := by
    rw [show (s.setLane b { s.lane b with framer := .hunting }).lane b = _ from Pair.get_set_same s.lanes b _]
  rw [whole]
  refine ⟨?_, ?_, ?_, ?_, fun below => ?_, fun other => ?_, moves.within, moves.kept rfl rfl, ?_⟩
  · rw [frame]
    exact Pair.get_set_same s.lanes b _
  · rw [frame]
    exact Pair.get_set_other s.lanes b _
  · rw [frame]
    exact Pair.get_set_same s.engines b _
  · rw [frame]
    exact Pair.get_set_other s.engines b _
  · unfold State.Posted State.port
    rw [State.tearFrame_ports]
    exact State.countFaults_counted (s := s.setLane b { s.lane b with framer := .hunting }) (by omega) (by omega)
  · rw [State.tearFrame_ports]
    exact State.countFaults_quiet (s := s.setLane b { s.lane b with framer := .hunting }) fun full => other (by omega)
  · rw [frame]

/-- An action that admits the sample of a complete frame: the framer goes back to HUNTING before it. -/
theorem State.admitted_complete {raw : RawSample} {f : State → State}
    (hf : f s = (s.setLane b { s.lane b with framer := .hunting }).admitSample b raw) :
    Admitted (s.setLane b { s.lane b with framer := .hunting }) (s.acting f) b raw := by
  have through : s.acting f =
      (s.setLane b { s.lane b with framer := .hunting }).acting fun z => z.admitSample b raw := by
    unfold State.acting
    rw [hf, State.offersSince_eq, State.offersSince_eq]
    have step : (s.setLane b { s.lane b with framer := .hunting }).laneInStep = s.laneInStep :=
      funext (State.laneInStep_setLane (s := s) (b := b) (l := { s.lane b with framer := .hunting }) rfl)
    rw [step]
    rfl
  rw [through]
  exact State.admitted rfl

/-! ### The characters of a frame -/

theorem State.takeCharacter_dry (dry : (s.unit b).dry = true) (c : Byte) (good : Bool) : s.takeCharacter b c good = s :=
  if_pos dry

theorem State.takeCharacter_hunting (wet : (s.unit b).dry = false) (hunting : (s.lane b).framer = .hunting) (c : Byte)
    (good : Bool) : s.takeCharacter b c good =
      if good = true ∧ c = 0xA5 then s.setLane b { s.lane b with framer := .inFrame [c] 0 } else s := by
  unfold State.takeCharacter
  rw [wet, hunting]
  rfl

theorem State.takeCharacter_inFrame (wet : (s.unit b).dry = false) {held : List Byte} {n : Nat}
    (framed : (s.lane b).framer = .inFrame held n) (c : Byte) (good : Bool) : s.takeCharacter b c good =
      if good = false then s.tearFrame b
      else if held.length < 11 then s.setLane b { s.lane b with framer := .inFrame (held ++ [c]) 0 }
      else s.completeFrame b (held ++ [c]) := by
  have room : held.length + 1 < frameSize ↔ held.length < 11 := Nat.add_lt_add_iff_right (k := 1) (m := 11)
  unfold State.takeCharacter
  rw [wet, framed]
  simp only [room]
  rfl

theorem State.Followed.event_framer (h : s.Followed) (held : s.isHeld = false) {f : State → State} {x : Framer}
    (eq : f s = s.setLane b { s.lane b with framer := x }) : s.event f = s.setLane b { s.lane b with framer := x } := by
  rw [State.event_runs held, ← eq]
  refine h.acting_quiet ?_ (fun c => ?_) (fun c _ => ?_) ?_ ?_ ?_ ?_ <;> rw [eq]
  · rfl
  · exact State.laneInStep_setLane (l := { s.lane b with framer := x }) rfl c
  · rfl
  · rfl
  · rfl
  · rfl
  · rfl

end

/-- Settles O48: the CRC-8, and each character and gap by the framer's state. -/
theorem laneFramesTaken : Obligations.LaneFramesTaken := by
  refine ⟨fun l x => ?_, ⟨rfl, fun l x f clear set => ?_⟩, fun b c s followed => ?_⟩
  · rw [crc8_append, crcByte_eq_zero]
  · rw [crc8_append, ← crcBit_eq clear set]
    rfl
  have character : ∀ c good, exec (.laneCharacter b c good) s = .next (s.event fun s => s.takeCharacter b c good) :=
    fun _ _ => rfl
  have gap : exec (.gapTimerExpiry b) s =
      .next (s.event fun s => if expired 1 (s.lane b).framer.gap then s.tearFrame b else s) := rfl
  simp only [character, gap]
  refine ⟨fun held good => ⟨congrArg _ (State.event_held held), congrArg _ (State.event_held held)⟩, fun up =>
    ⟨fun dry good => congrArg _ (followed.event_same (State.takeCharacter_dry dry c good)), fun hunting => ?_,
      fun held n framed => ?_⟩⟩
  · have idle : ¬ expired 1 (s.lane b).framer.gap = true := by
      rw [hunting]
      nofun
    refine ⟨congrArg _ (followed.event_same (if_neg idle)), fun wet => ⟨?_, fun other => ?_, ?_⟩⟩
    · refine congrArg _ (followed.event_framer up ?_)
      exact (State.takeCharacter_hunting wet hunting _ _).trans (if_pos ⟨rfl, rfl⟩)
    · refine congrArg _ (followed.event_same ?_)
      exact (State.takeCharacter_hunting wet hunting _ _).trans (if_neg fun sync => other sync.2)
    · refine congrArg _ (followed.event_same ?_)
      exact (State.takeCharacter_hunting wet hunting _ _).trans (if_neg nofun)
  · refine ⟨fun fresh => ?_, fun late => ?_, fun wet => ⟨?_, fun room => ?_, fun full => ?_⟩⟩
    · refine congrArg _ (followed.event_same (if_neg ?_))
      rw [framed, fresh]
      nofun
    · refine ⟨_, rfl, ?_⟩
      rw [State.event_runs up]
      refine followed.discarded (if_pos ?_)
      rw [framed]
      exact decide_eq_true late
    · refine ⟨_, rfl, ?_⟩
      rw [State.event_runs up]
      exact followed.discarded (State.takeCharacter_inFrame wet framed _ _)
    · refine congrArg _ (followed.event_framer up ?_)
      exact (State.takeCharacter_inFrame wet framed _ _).trans (if_pos room)
    · have complete : s.takeCharacter b c true = s.completeFrame b (held ++ [c]) :=
        (State.takeCharacter_inFrame wet framed _ _).trans (if_neg (Nat.not_lt.2 full.ge))
      refine ⟨_, rfl, fun good => ?_, fun bad => ?_⟩ <;> rw [State.event_runs up]
      · rw [← rawOfFrame_complete full c]
        exact State.admitted_complete (complete.trans (if_pos ((crcGood_complete full c).2 good)))
      · exact followed.discarded (complete.trans (if_neg fun good => bad ((crcGood_complete full c).1 good)))

end Sys2Proof.Machine

/-! ### The run of a drilling sample, in the boom -/

namespace Sys2Proof.Machine

open Sys2Proof Sys2Proof.Machine

section
variable {s : State} {b : Boom} {i : Slot} {e : Entry} {r : Result} {d : DrillRun} {x : Sample}

/-- A hole with what a run makes of its record (R97, R106, R113). -/
def Entry.ran (e : Entry) (d : DrillRun) : Entry := { e with lengthClass := d.lengthClass, result := some d.result }

theorem State.engineSample_run (cycle : (s.unit b).cycle = .drilling) (claim : s.claimedEntry b = some (i, e))
    (drilled : e.result = some r) : s.engineSample b x =
      (s.applyRun b ((s.runOf b e r).sample (s.active b) x).1).afterRun b ((s.runOf b e r).sample (s.active b) x).2 := by
  unfold State.engineSample State.drillSample
  rw [cycle, claim]
  simp only [drilled]
  rfl

section
variable (claim : s.claimedEntry b = some (i, e))
include claim

theorem State.applyRun_eq (d : DrillRun) : s.applyRun b d =
    d.voidChanges.foldl (fun acc x => acc.offer (.void b) x) ((s.setEntry i (some (e.ran d))).setEngine b d.engine) := by
  have claim' : (s.setEngine b d.engine).claimedEntry b = some (i, e) := claim
  unfold State.applyRun
  rw [State.updateClaimed_some claim']
  rfl

theorem State.applyRun_frame (d : DrillRun) : ∃ p, s.applyRun b d =
    { (s.setEntry i (some (e.ran d))).setEngine b d.engine with ports := p } := by
  rw [State.applyRun_eq claim]
  exact State.offers_frame _ _ _

theorem State.applyRun_claimed (d : DrillRun) : (s.applyRun b d).claimedEntry b = some (i, e.ran d) := by
  obtain ⟨p, frame⟩ := State.applyRun_frame claim d
  rw [frame]
  exact State.setEntry_claimed claim _

theorem State.applyRun_entry (d : DrillRun) : (s.applyRun b d).entry i = some (e.ran d) :=
  (State.claimedEntry_eq_some.1 (State.applyRun_claimed claim d)).2.2

theorem State.applyRun_entry_ne (d : DrillRun) {j : Slot} (other : j ≠ i) : (s.applyRun b d).entry j = s.entry j := by
  obtain ⟨p, frame⟩ := State.applyRun_frame claim d
  rw [frame]
  exact State.entry_setEntry_ne s other _

theorem State.applyRun_engine (d : DrillRun) : (s.applyRun b d).engine b = d.engine := by
  obtain ⟨p, frame⟩ := State.applyRun_frame claim d
  rw [frame]
  exact Pair.get_set_same s.engines b _

theorem State.applyRun_posted (rise : true ∈ d.voidChanges) : (s.applyRun b d).Posted (.void b) := by
  rw [State.applyRun_eq claim]
  exact fun q => (State.offers_offered rise _ false q).1 rfl rfl

theorem State.applyRun_fallen (fall : false ∈ d.voidChanges) {p : Port} (any : (s.port p).edges.void = .any) :
    .void b ∈ ((s.applyRun b d).port p).pending := by
  have edges : ((s.applyRun b d).port p).edges = (s.port p).edges :=
    (State.PortsMove.applyRun (R := .all) (fun _ => mem_allPairs _) s).edges p
  have offered := (State.offers_offered (n := .void b) fall ((s.setEntry i (some (e.ran d))).setEngine b d.engine) true p).2
  rw [← State.applyRun_eq claim] at offered
  exact offered rfl rfl (edges ▸ any)

end

theorem State.applyRun_move (s : State) (b : Boom) (d : DrillRun) :
    s.PortsMove ⟨[.void b], false, false⟩ (s.applyRun b d) :=
  .applyRun (fun _ => List.mem_singleton.2 rfl) s

/-! ### The end of drilling by a sample -/

/-- What the end of drilling by a run leaves (R52, R67). -/
structure State.RunReached (s t : State) (b : Boom) (i : Slot) (e : Entry) (d : DrillRun) : Prop where
  entry : t.entry i = some { e with
    holeState := .drilled, lengthClass := d.lengthClass
    result := some { d.result with drilledDepth := some d.engine.currentDepth } }
  otherEntry : ∀ j, j ≠ i → t.entry j = s.entry j
  unit : t.unit b = { s.unit b with
    cycle := .withdrawing, holds := ⟨false, false, false⟩, abandonTimer := none, feed := false, turn := false }
  otherUnit : (s.unit b.other).SameWork (t.unit b.other)
  followed : t.Followed
  dropped : d.engine.RunDropped (t.engine b)
  otherEngine : t.engine b.other = s.engine b.other
  arbiter : t.arbiter = (s.releaseFlow b).arbiter
  posted : t.Posted (.stage b)
  within : (s.applyRun b d).NoticesWithin t [.stage b, .flow .A, .flow .B, .permit .A, .permit .B]
  kept : s.PortsKept t none
  frame : t = { s with
    slots := t.slots, units := t.units, engines := t.engines, arbiter := t.arbiter, ports := t.ports }

theorem State.Followed.runReached (h : s.Followed) (cycle : (s.unit b).cycle = .drilling)
    (claim : s.claimedEntry b = some (i, e)) {f : State → State} (hf : f s = (s.applyRun b d).endDrilling b) :
    s.RunReached (s.acting f) b i e d := by
  have claim' := State.applyRun_claimed claim d
  have engine := State.applyRun_engine claim d
  have ends := hf.trans (State.endDrilling_eq claim' rfl)
  rw [engine] at ends
  have run : s.Written (s.applyRun b d) b := .applyRun s b d
  have ended := h.drillingEnded cycle (run.trans ((s.applyRun b d).written_runDropped b i _)) ends
  have entry : ∀ j, (s.acting f).entry j =
      ((s.applyRun b d).setEntry i (some ((e.ran d).drilledTo d.result d.engine.currentDepth))).entry j := fun j => by
    rw [State.entry, ended.slots]
    rfl
  have moves : (s.applyRun b d).PortsMove ⟨[.stage b, .flow .A, .flow .B, .permit .A, .permit .B], false, false⟩
      (s.acting f) := .trans (.of_ports rfl rfl) ended.moves
  refine ⟨?_, fun j other => ?_, ended.unit, ended.otherUnit, ended.followed, ?_, ended.otherEngine, ended.arbiter,
    ended.posted, moves.within, ?_, ended.frame⟩
  · rw [entry, State.entry_setEntry_same]
    rfl
  · rw [entry, State.entry_setEntry_ne _ other, State.applyRun_entry_ne claim d other]
  · refine ended.engine.trans ((Pair.get_set_same _ b _).trans ?_)
    rw [engine]
    rfl
  · have before := s.applyRun_move b d
    exact fun q => by
      obtain ⟨masks, edges, context, cursor, last⟩ := before.kept rfl rfl q
      obtain ⟨masks', edges', context', cursor', last'⟩ := moves.kept rfl rfl q
      exact ⟨masks'.trans masks, edges'.trans edges, context'.trans context, cursor'.trans cursor,
        fun k => (last' k).trans (last k)⟩

end

end Sys2Proof.Machine

/-! ### The flush and the target test -/

namespace Sys2Proof.Machine

open Sys2Proof Sys2Proof.Machine

/-! ### The flush -/

section
variable {d : DrillRun} {p : ParamSet}

theorem DrillRun.flushHeld_none (clear : p.voidMode = .one ∨ d.engine.heldWindow = none) :
    d.flushHeld p = { d with engine := { d.engine with window := [] } } := by
  unfold DrillRun.flushHeld
  cases mode : p.voidMode with
  | one => rfl
  | two =>
    have none : d.engine.heldWindow = none := clear.resolve_left (by rw [mode]; nofun)
    unfold DrillRun.releaseHeld
    simp only [none]

theorem DrillRun.flushHeld_some (two : p.voidMode = .two) {h : Window} (held : d.engine.heldWindow = some h) :
    d.flushHeld p = ({ d with engine := { d.engine with
      window := [], heldWindow := none, previousOpen := h.isOpen } } : DrillRun).release p h
      (h.isOpen && (d.engine.previousOpen || (!d.engine.window.isEmpty && windowOpen d.engine.window))) := by
  unfold DrillRun.flushHeld DrillRun.releaseHeld
  simp only [two, held]
  rfl

theorem DrillRun.flushEarly_empty (empty : d.engine.window = []) : d.flushEarly p = d.flushHeld p := by
  unfold DrillRun.flushEarly
  rw [empty]
  rfl

/-- The early window of a flush is judged alone in ONE mode, and beside the window before it in TWO mode (R110). -/
theorem DrillRun.flushEarly_some (early : d.engine.window ≠ []) {isVoid : Bool}
    (one : p.voidMode = .one → isVoid = windowOpen d.engine.window)
    (two : p.voidMode = .two → isVoid = (windowOpen d.engine.window && (d.flushHeld p).engine.previousOpen)) :
    d.flushEarly p = (d.flushHeld p).release p ⟨d.engine.window, windowOpen d.engine.window⟩ isVoid := by
  have some : (!d.engine.window.isEmpty) = true := by simpa using early
  unfold DrillRun.flushEarly
  simp only [some, if_true]
  cases mode : p.voidMode with
  | one =>
    rw [one mode]
    rfl
  | two =>
    rw [two mode]
    rfl

theorem DrillRun.flush_held (past : (d.flushHeld p).overVoid = true) : d.flush p = d.flushHeld p :=
  (d.flush_eq p).trans (if_pos past)

theorem DrillRun.flush_early (within : (d.flushHeld p).overVoid = false) :
    d.flush p = if (d.flushEarly p).overVoid then d.flushEarly p else (d.flushEarly p).runEnded :=
  (d.flush_eq p).trans (if_neg (Bool.eq_false_iff.1 within))

theorem DrillRun.flush_empty (empty : d.engine.window = []) (within : (d.flushHeld p).overVoid = false) :
    d.flush p = (d.flushHeld p).runEnded := by
  rw [DrillRun.flush_early within, DrillRun.flushEarly_empty empty, within]
  rfl

/-! ### The target test -/

theorem DrillRun.targetTest_over (past : (d.flush p).overVoid = true) : d.targetTest p = (d.flush p, .overVoid) :=
  if_pos past

theorem DrillRun.targetTest_within (within : (d.flush p).overVoid = false) : d.targetTest p =
    if (d.flush p).competent p then (d.flush p, .reached)
    else if (d.flush p).result.extensions < p.maxExtensions ∧ (d.flush p).lengthClass < 4 then
      ((d.flush p).extend, .extended)
    else ({ d.flush p with engine := { (d.flush p).engine with weakAnchor := true } }, .reached) :=
  if_neg (Bool.eq_false_iff.1 within)

theorem DrillRun.competent_iff : d.competent p = true ↔
    p.competent ≤ competentLength d.result.layers d.result.target p.zone ∧ d.result.unreliable = false := by
  unfold DrillRun.competent
  rw [Bool.and_eq_true, decide_eq_true_iff, Bool.not_eq_true']

end

/-- Settles O54: the flush by the windows that stand, the test by its three outcomes, and each outcome's effect on the
boom. -/
theorem targetTested : Obligations.TargetTested := by
  refine ⟨?_, ?_, ?_⟩
  · rintro d u v p l rfl up
    refine ⟨fun clear => ?_, fun h two held run => ?_⟩
    · have start := DrillRun.flushHeld_none clear
      have within : (d.flushHeld p).overVoid = false := by rw [start, up]
      refine ⟨fun empty => ?_, fun isVoid early one two run => ?_⟩
      · rw [DrillRun.flush_empty empty within, start]
        rfl
      · rw [DrillRun.flush_early within, DrillRun.flushEarly_some early one (by rw [start]; exact two), start, ← run]
    · have start := (DrillRun.flushHeld_some two held).trans run.symm
      refine ⟨fun past => ?_, fun within empty => ?_, fun within early last => ?_⟩
      · rw [DrillRun.flush_held (start ▸ past), start]
      · rw [DrillRun.flush_empty empty (start ▸ within), start]
      · have before : v.engine.previousOpen = h.isOpen := by
          rw [run]
          rfl
        rw [DrillRun.flush_early (start ▸ within), DrillRun.flushEarly_some early (isVoid := windowOpen d.engine.window &&
          h.isOpen) (fun one => nomatch one.symm.trans two) (fun _ => by rw [start, before]), start, ← last]
  · rintro d t p competent rfl rfl
    refine ⟨DrillRun.targetTest_over, fun within long reliable => ?_, fun within weak => ?_⟩
    · rw [DrillRun.targetTest_within within, if_pos (DrillRun.competent_iff.2 ⟨long, reliable⟩)]
    · have incompetent : ¬ (d.flush p).competent p = true := fun k => by
        obtain ⟨long, reliable⟩ := DrillRun.competent_iff.1 k
        rcases weak with short | unreliable
        · exact absurd long (Nat.not_le.2 short)
        · exact absurd (unreliable.symm.trans reliable) nofun
      rw [DrillRun.targetTest_within within, if_neg incompetent]
      refine ⟨fun left longer => if_pos ⟨left, longer⟩, fun none_left => if_neg fun k => ?_⟩
      omega
  · rintro b x s u t i e r d o followed cycle held slot here drilled run rfl rfl
    have claim : s.claimedEntry b = some (i, e) := State.claimedEntry_eq_some.2 ⟨held, slot, here⟩
    have sample : s.engineSample b x = (s.applyRun b d).afterRun b o := by
      rw [State.engineSample_run cycle claim drilled, run]
    have written : s.Written (s.applyRun b d) b := .applyRun s b d
    have drilling : (s.unit b).cycle = .torquing → (s.unit b).holds.present = false := fun torquing =>
      nomatch cycle.symm.trans torquing
    refine ⟨?_, ?_, ?_⟩
    · rintro rfl
      exact (followed.acting_written (by rw [sample]; exact written) drilling).trans sample
    · rintro rfl
      refine (followed.acting_written (b := b) ?_ drilling).trans sample
      rw [sample]
      exact .trans written ⟨rfl, rfl⟩
    · rintro rfl
      obtain ⟨entry, otherEntry, unit, otherUnit, follows, dropped, otherEngine, arbiter, posted, within, kept, frame⟩ :=
        followed.runReached (f := fun v => v.engineSample b x) cycle claim sample
      exact ⟨entry, otherEntry, unit, otherUnit, follows, dropped, otherEngine, arbiter, posted, within, kept, frame⟩

end Sys2Proof.Machine

/-! ### Windows, layers, and the void limit -/

namespace Sys2Proof.Machine

open Sys2Proof Sys2Proof.Machine

/-! ### Open windows -/

theorem windowOpen_iff (l : List IncRecord) : windowOpen l = true ↔
    2 ≤ l.length ∧ 3 * l.length ≤ 4 * (l.filter fun r => r.cls == .void).length := by
  have quarters : ∀ n c : Nat, (3 * n + 3) / 4 ≤ c ↔ 3 * n ≤ 4 * c := by omega
  unfold windowOpen voidsNeeded
  rw [Bool.and_eq_true, decide_eq_true_iff, decide_eq_true_iff, List.countP_eq_length_filter, quarters]

/-! ### A released window -/

section
variable {r : Result} {w : Window} {isVoid : Bool}

theorem Result.layWindow_profiledDepth : (r.layWindow w isVoid).profiledDepth = r.profiledDepth + 10 * w.records.length :=
  r.layAll_profiledDepth isVoid w.records

theorem Result.LayersAgree.voidTotal_le (h : r.LayersAgree) : r.voidTotal ≤ (r.layWindow w isVoid).voidTotal := by
  rw [h.voids]
  exact r.layAll_voids_ge isVoid w.records

theorem Result.LayersAgree.layWindow_voidTotal (h : r.LayersAgree)
    (room : (r.layWindow w isVoid).layers.length < 8) :
    (r.layWindow w isVoid).voidTotal = r.voidTotal + if isVoid then 10 * w.records.length else 0 := by
  rw [h.voids]
  exact Result.layAll_voids room

/-- The weaker of two classes is the one with the lower code (R107). -/
theorem LayerClass.weaker_eq {x c m : LayerClass} (one : m = c ∨ m = x) (below : m.byte.toNat ≤ c.byte.toNat)
    (under : m.byte.toNat ≤ x.byte.toNat) : x.weaker c = m := by
  have least : (x.weaker c).byte.toNat = min x.byte.toNat c.byte.toNat := by
    cases x <;> cases c <;> rfl
  have injective : ∀ y z : LayerClass, y.byte.toNat = z.byte.toNat → y = z := fun y z => by
    cases y <;> cases z <;> decide
  refine injective _ _ ?_
  rw [least]
  rcases one with rfl | rfl <;> omega

end

/-! ### A full window -/

section
variable {d : DrillRun} {p : ParamSet} {w : Window}

theorem DrillRun.windowFull_one (one : p.voidMode = .one) : d.windowFull p w = d.release p w w.isOpen := by
  unfold DrillRun.windowFull
  rw [one]

theorem DrillRun.windowFull_none (two : p.voidMode = .two) (none : d.engine.heldWindow = none)
    (within : d.overVoid = false) :
    d.windowFull p w = { d with engine := { d.engine with heldWindow := some w } } := by
  unfold DrillRun.windowFull DrillRun.releaseHeld
  simp only [two, none, within]
  rfl

/-- The held window released, judged by both its neighbours (R104). -/
def DrillRun.heldReleased (d : DrillRun) (p : ParamSet) (h w : Window) : DrillRun :=
  ({ d with engine := { d.engine with heldWindow := none, previousOpen := h.isOpen } } : DrillRun).release p h
    (h.isOpen && (d.engine.previousOpen || w.isOpen))

theorem DrillRun.windowFull_some (two : p.voidMode = .two) {h : Window} (held : d.engine.heldWindow = some h) :
    d.windowFull p w = if p.voidLimit < (d.heldReleased p h w).result.voidTotal then d.heldReleased p h w
      else { d.heldReleased p h w with engine := { (d.heldReleased p h w).engine with heldWindow := some w } } := by
  have past : (d.heldReleased p h w).overVoid = true ↔ p.voidLimit < (d.heldReleased p h w).result.voidTotal :=
    decide_eq_true_iff
  rw [← if_congr past rfl rfl]
  unfold DrillRun.windowFull DrillRun.releaseHeld
  simp only [two, held]
  rfl

end

/-- Settles O53: open windows, layers, releases and full windows, and then a run in its boom. -/
theorem windowsReleased : Obligations.WindowsReleased := by
  refine ⟨windowOpen_iff, fun r w isVoid agree => ?_, ?_, fun r c => ⟨fun none => ?_, fun l x some => ?_⟩, ?_,
    fun d p w => ⟨DrillRun.windowFull_one, DrillRun.windowFull_none, fun h two held => ?_⟩, ?_, ?_⟩
  · refine ⟨agree.layWindow w isVoid, Result.layWindow_profiledDepth, agree.voidTotal_le, fun void room => ?_,
      fun solid room => ?_⟩
    · rw [agree.layWindow_voidTotal room, if_pos void]
    · rw [agree.layWindow_voidTotal room, solid]
      rfl
  · rintro r u w isVoid rfl
    rfl
  · unfold Result.layInc
    rw [none]
    rfl
  · refine ⟨fun same => ?_, fun other room => ?_, fun m other full one below under => ?_⟩
    · unfold Result.layInc
      rw [some, same, appendLayer_same]
      rfl
    · unfold Result.layInc
      rw [some] at room ⊢
      rw [appendLayer_new other room]
      rfl
    · unfold Result.layInc
      rw [some] at full ⊢
      rw [appendLayer_merge other full, LayerClass.weaker_eq one below under]
      rfl
  · rintro d p w isVoid past q rfl rfl
    rfl
  · rw [DrillRun.windowFull_some two held]
    by_cases past : p.voidLimit < (d.heldReleased p h w).result.voidTotal
    · rw [if_pos past, if_pos past]
      refine ⟨rfl, rfl, decide_eq_true_iff, rfl, ?_⟩
      exact if_pos (decide_eq_true past)
    · rw [if_neg past]
      exact ⟨rfl, rfl, decide_eq_true_iff, rfl, (if_neg past).symm⟩
  · rintro b s u i e d - held slot here rfl
    have claim : s.claimedEntry b = some (i, e) := State.claimedEntry_eq_some.2 ⟨held, slot, here⟩
    have written : s.Written (s.applyRun b d) b := .applyRun s b d
    have moves := s.applyRun_move b d
    refine ⟨State.applyRun_entry claim d, fun j => State.applyRun_entry_ne claim d, State.applyRun_engine claim d,
      written.other, State.applyRun_posted claim, fun p fall => State.applyRun_fallen claim fall, fun unchanged => ?_,
      moves.within, moves.kept rfl rfl, written.frame⟩
    rw [State.applyRun_eq claim, unchanged]
    rfl
  · rintro b x s u t i e r d followed cycle held slot here drilled run rfl rfl
    have claim : s.claimedEntry b = some (i, e) := State.claimedEntry_eq_some.2 ⟨held, slot, here⟩
    have claim' := State.applyRun_claimed claim d
    have written : s.Written (s.applyRun b d) b := .applyRun s b d
    have engine := State.applyRun_engine claim d
    have sample : s.engineSample b x = (s.applyRun b d).rejectDrilling b .void := by
      rw [State.engineSample_run cycle claim drilled, run]
      rfl
    rcases Bool.eq_false_or_eq_true (s.unit b).dry with dry | wet
    · have dry' : ((s.applyRun b d).unit b).dry = true := (congrArg BoomUnit.dry (written.unit b)).trans dry
      have reached := followed.runReached (d := d) (f := fun v => v.engineSample b x) cycle claim
        (sample.trans (State.rejectDrilling_dry dry' _))
      have frame := reached.frame
      refine ⟨reached.dropped, reached.otherEngine, ?_⟩
      rintro f rfl
      refine ⟨fun wet => absurd (dry.symm.trans wet) nofun, fun _ => ⟨reached.entry, reached.otherEntry, ?_, ?_,
        reached.unit, reached.arbiter, reached.posted, reached.followed, ?_⟩⟩ <;> rw [frame]
    · have wet' : ((s.applyRun b d).unit b).dry = false := (congrArg BoomUnit.dry (written.unit b)).trans wet
      have ends := sample.trans (State.rejectDrilling_wet claim' rfl wet' .void)
      have acted := State.verdictActed (f := fun v => v.engineSample b x) (State.setEntry_claimed claim' _)
        (.inr (.inr rfl)) (.trans written ((s.applyRun b d).written_runDropped b i _)) ends
      rw [engine] at acted
      have hole : s.Written ((s.applyRun b d).setEntry i (some ((e.ran d).depthWritten d.result d.engine.currentDepth)))
          b := .trans written ⟨rfl, rfl⟩
      have drilling := (congrArg BoomUnit.cycle (hole.unit b)).trans cycle
      have frame := hole.frame
      refine ⟨acted.engine, (acted.otherEngine (hole.follows (followed b.other))).trans hole.other, ?_⟩
      rintro f rfl
      refine ⟨fun _ => ⟨acted.given, fun agrees => ?_⟩, fun dry => absurd (dry.symm.trans wet) nofun⟩
      refine (acted.given.apart (hole.stagesAgree agrees) (drilling ▸ nofun) (drilling ▸ nofun)).1.trans ?_
      rw [frame]

end Sys2Proof.Machine

/-! ### The work of a drilling sample, and the increments that it closes -/

namespace Sys2Proof.Machine

open Sys2Proof Sys2Proof.Machine

/-! ### Work -/

theorem Engine.credit_eq (g : Engine) (w : Nat) : g.credit w = { g with
    accumulator := min 16777215 (g.accumulator + w)
    openSaturated := g.openSaturated || decide (16777215 ≤ g.accumulator + w) } := by
  unfold Engine.credit accumulatorTop
  split
  · rename_i full
    rw [Nat.min_eq_left full, decide_eq_true full, Bool.or_true]
  · rename_i below
    rw [Nat.min_eq_right (Nat.le_of_not_le below), decide_eq_false below, Bool.or_false]

/-- The work of one sample within its field ranges (R89, R90). -/
theorem sampleWork_le {x : Sample} {advance : Nat} (short : advance ≤ 40) (thrust : x.thrust ≤ 1000)
    (torque : x.torque ≤ 800) (speed : x.speed ≤ 1200) : sampleWork x advance ≤ 50048 := by
  have push : x.thrust * advance ≤ 1000 * 40 := Nat.mul_le_mul thrust short
  have turn : x.torque * x.speed ≤ 800 * 1200 := Nat.mul_le_mul torque speed
  unfold sampleWork rotationTerm
  omega

section
variable {d : DrillRun} {p : ParamSet} {x : Sample}

theorem DrillRun.sample_collar (none : d.engine.collar = none) : d.sample p x = (d.collarSample x, .goesOn) := by
  unfold DrillRun.sample
  rw [none]

/-- The run after a sample's own work, before its front moves (R88 to R91). -/
def DrillRun.worked (d : DrillRun) (x : Sample) (depth w : Nat) : DrillRun :=
  { d with engine := { d.engine with
    reference := some x.position, currentDepth := depth
    accumulator := min 16777215 (d.engine.accumulator + w)
    openSaturated := d.engine.openSaturated || decide (16777215 ≤ d.engine.accumulator + w) } }

theorem DrillRun.sample_worked {c ref : Nat} (collar : d.engine.collar = some c) (reference : d.engine.reference = some ref) :
    d.sample p x = if d.engine.frontDepth < x.position - c then
        (d.worked x (x.position - c) (sampleWork x (min 40 (x.position - ref)))).moveFront p (x.position - c)
      else (d.worked x (x.position - c) (sampleWork x (min 40 (x.position - ref))), .goesOn) := by
  have advance : advanceForWork (d.engine.reference.getD c) x.position = min 40 (x.position - ref) := by
    rw [reference]
    rfl
  have credited := Engine.credit_eq { d.engine with reference := some x.position, currentDepth := x.position - c }
    (sampleWork x (min 40 (x.position - ref)))
  unfold DrillRun.sample
  split
  · rename_i none
    exact nomatch none.symm.trans collar
  · rename_i c' some
    obtain rfl : c' = c := Option.some.inj (some.symm.trans collar)
    rw [advance]
    exact congrArg (fun g : Engine => if g.frontDepth < x.position - c' then
      ({ d with engine := g } : DrillRun).moveFront p (x.position - c') else ({ d with engine := g }, .goesOn)) credited

/-! ### The front -/

/-- The run with its front moved. -/
def DrillRun.frontAt (d : DrillRun) (depth : Nat) : DrillRun := { d with engine := { d.engine with frontDepth := depth } }

theorem DrillRun.moveFront_eq (d : DrillRun) (p : ParamSet) (depth : Nat) : d.moveFront p depth =
    if d.result.target ≤ depth then
      if ((d.frontAt depth).closeTo p (d.result.target / 10)).overVoid then
        ((d.frontAt depth).closeTo p (d.result.target / 10), .overVoid)
      else ((d.frontAt depth).closeTo p (d.result.target / 10)).targetTest p
    else if d.engine.frontDepth / 10 < depth / 10 then
      ((d.frontAt depth).closeTo p (depth / 10),
        if ((d.frontAt depth).closeTo p (depth / 10)).overVoid then .overVoid else .goesOn)
    else (d.frontAt depth, .goesOn) := rfl

/-! ### Closing increments -/

theorem DrillRun.closePassed_eq (d : DrillRun) (p : ParamSet) (k n : Nat) :
    d.closePassed p k n = (List.range' k n).foldl (fun v i => v.close p i 0 false false) d := by
  induction n generalizing d k with
  | zero => rfl
  | succ n ih => exact ih _ _

theorem DrillRun.close_over (past : d.overVoid = true) (k w : Nat) (incomplete saturated : Bool) :
    d.close p k w incomplete saturated = d := if_pos past

theorem ownClass_eq (p : ParamSet) (held : Option LayerClass) (w : Nat) (incomplete saturated : Bool) :
    ownClass p held w incomplete saturated = if saturated then .hard
      else if incomplete then held.getD .soft
      else if min 65535 (w >>> p.productShift) < p.tVoid then .void
      else if min 65535 (w >>> p.productShift) < p.tMedium then .soft
      else if min 65535 (w >>> p.productShift) < p.tHard then .medium else .hard := by
  rw [Nat.shiftRight_eq_div_pow]
  rfl

/-- The run with an increment counted, before it joins the window (R96, R97). -/
def DrillRun.counted (d : DrillRun) (p : ParamSet) (c : LayerClass) (incomplete saturated : Bool) : DrillRun :=
  { d with
    engine := d.engine.countClose p c incomplete saturated
    result := { d.result with
      incomplete := (d.engine.countClose p c incomplete saturated).incomplete
      saturated := (d.engine.countClose p c incomplete saturated).saturated
      unreliable := (d.engine.countClose p c incomplete saturated).unreliable } }

theorem DrillRun.close_within (within : d.overVoid = false) {k w : Nat} {incomplete saturated : Bool} {c : LayerClass}
    (own : ownClass p d.engine.heldClass w incomplete saturated = c) :
    d.close p k w incomplete saturated = (d.counted p c incomplete saturated).handOn p ⟨k, c, incomplete, saturated⟩ := by
  subst own
  exact if_neg (Bool.eq_false_iff.1 within)

end

/-- Settles O52: the sample's work and front, the increments that a moved front closes, and the close of one. -/
theorem sampleWorkAndIncrements : Obligations.SampleWorkAndIncrements := by
  refine ⟨fun d p x => ⟨DrillRun.sample_collar, ?_⟩, ?_, fun d p k w incomplete saturated past =>
    DrillRun.close_over past k w incomplete saturated, ?_⟩
  · rintro c ref depth w collar reference rfl rfl
    have sample := DrillRun.sample_worked (p := p) (x := x) collar reference
    refine ⟨fun thrust torque speed => sampleWork_le (Nat.min_le_left _ _) thrust torque speed, fun still => ?_, ?_⟩
    · rw [sample]
      split
      · rename_i deeper
        obtain ⟨short, same⟩ := still.resolve_left (Nat.not_le.2 deeper)
        rw [DrillRun.moveFront_eq, Nat.max_eq_right deeper.le]
        exact (if_neg (Nat.not_le.2 short)).trans (if_neg (Nat.not_lt.2 same.le))
      · rename_i shallow
        rw [Nat.max_eq_left (Nat.not_lt.1 shallow)]
        rfl
    · rintro d0 t deeper rfl
      rw [sample, if_pos deeper, DrillRun.moveFront_eq]
      refine ⟨?_, ?_⟩
      · rintro short passes rfl
        exact (if_neg (Nat.not_le.2 short)).trans (if_pos passes)
      · rintro reached rfl
        exact if_pos reached
  · rintro d p k j rfl
    refine ⟨fun closed => if_neg (Nat.not_lt.2 closed), ?_⟩
    rintro u before rfl
    rw [← DrillRun.closePassed_eq]
    exact if_pos before
  · rintro d p k w energy inc sat incomplete saturated c within rfl own rfl rfl u l rfl rfl
    rw [DrillRun.close_within within ((ownClass_eq _ _ _ _ _).trans own.symm)]
    by_cases room : (d.engine.window ++ [(⟨k, c, incomplete, saturated⟩ : IncRecord)]).length < 8
    · simp only [if_pos room]
      exact if_pos room
    · simp only [if_neg room]
      exact if_neg room

end Sys2Proof.Machine

/-! ### The dispositions of RESTART -/

namespace Sys2Proof.Machine

open Sys2Proof Sys2Proof.Machine

section
variable {s u w : State} {b : Boom} {i : Slot} {e : Entry}

/-! ### What a disposition does to the table -/

/-- The table `u` with the hole disposed of that boom `b` has claimed in `s` (R24). -/
def State.disposal (u s : State) (b : Boom) : State :=
  match s.claimedEntry b with
  | some (i, e) =>
    if e.goesBack (s.engine b).currentDepth then u.setEntry i (some e.returned)
    else (u.setEntry i (some (e.depthNoted (s.engine b).currentDepth))).tableVerdict i .restart
  | none => u

theorem State.disposal_none (claim : s.claimedEntry b = none) : u.disposal s b = u := by
  unfold State.disposal
  rw [claim]

theorem State.disposal_back (claim : s.claimedEntry b = some (i, e)) (back : e.goesBack (s.engine b).currentDepth = true) :
    u.disposal s b = u.setEntry i (some e.returned) := by
  unfold State.disposal
  rw [claim]
  exact if_pos back

theorem State.disposal_verdict (claim : s.claimedEntry b = some (i, e))
    (stays : e.goesBack (s.engine b).currentDepth = false) : u.disposal s b =
      (u.setEntry i (some (e.depthNoted (s.engine b).currentDepth))).tableVerdict i .restart := by
  unfold State.disposal
  rw [claim]
  exact if_neg (Bool.eq_false_iff.1 stays)

theorem State.disposes_disposal (s u : State) (b : Boom) : s.Disposes u (u.disposal s b) b where
  unclaimed free := State.disposal_none (State.claimedEntry_none free)
  back i e held slot here back :=
    State.disposal_back (State.claimedEntry_eq_some.2 ⟨held, slot, here⟩) (Entry.goesBack_iff.2 back)
  verdict i e held slot here wet begun deep :=
    State.disposal_verdict (State.claimedEntry_eq_some.2 ⟨held, slot, here⟩) (Bool.eq_false_iff.2 fun back => by
      rcases Entry.goesBack_iff.1 back with dry | claimed | ⟨drilling, shallow⟩
      · exact wet dry
      · exact begun claimed
      · exact absurd (deep drilling) (Nat.not_le.2 shallow))

/-- A disposition leaves every other hole. -/
theorem State.disposal_other {j : Slot} {f : Entry} (occupied : u.entry j = some f)
    (other : ∀ e, s.claimedEntry b ≠ some (j, e)) : (u.disposal s b).entry j = some f := by
  cases claim : s.claimedEntry b with
  | none => rw [State.disposal_none claim, occupied]
  | some x =>
    obtain ⟨i, e⟩ := x
    have apart : j ≠ i := fun same => other e (same ▸ claim)
    rcases Bool.eq_false_or_eq_true (e.goesBack (s.engine b).currentDepth) with back | stays
    · rw [State.disposal_back claim back, State.entry_setEntry_ne _ apart, occupied]
    · rw [State.disposal_verdict claim stays]
      exact State.entry_tableVerdict_occupied (State.entry_setEntry_same u i _) _ apart
        ((State.entry_setEntry_ne u apart _).trans occupied)

/-- A hole that is rejected at RESTART has the verdict in its record (R24). -/
theorem State.disposal_rejected (claim : s.claimedEntry b = some (i, e))
    (stays : e.goesBack (s.engine b).currentDepth = false) :
    ∃ r, (u.disposal s b).entry i = some { e with holeState := .rejected, claimant := none, result := r } ∧
      ∀ x, e.result = some x → ∃ y, r = some y ∧ y.verdict = some .restart := by
  have noted := State.entry_setEntry_same u i (some (e.depthNoted (s.engine b).currentDepth))
  obtain ⟨_, entry, _⟩ := tableVerdictGiven _ i _ .restart noted
  rw [State.disposal_verdict claim stays]
  refine ⟨_, entry, fun x recorded => ?_⟩
  unfold Entry.depthNoted
  rw [recorded]
  exact ⟨_, rfl, rfl⟩

/-- The disposition of a part that is alike. -/
theorem State.Alike.disposeRestart (alike : u.Alike w) (claims : w.claimedEntry b = s.claimedEntry b)
    (engine : w.engine b = s.engine b) : (u.disposal s b).Alike (w.disposeRestart b) := by
  unfold State.disposeRestart State.disposal
  rw [claims, engine]
  cases claim : s.claimedEntry b with
  | none => exact alike
  | some x =>
    obtain ⟨i, e⟩ := x
    simp only []
    split
    · exact alike.setEntry i _
    · have noted : w.noteDepth b e = w.setEntry i (some (e.depthNoted (s.engine b).currentDepth)) := by
        rw [State.noteDepth_eq (claims.trans claim), engine]
      rw [noted]
      exact ((alike.setEntry i _).tableVerdict i .restart).trans (.post _ _)

/-! ### What the dispositions leave of the rest -/

/-- The notices of a RESTART. -/
def PortRights.restart : PortRights :=
  ⟨[.row, .table, .verdict .A, .verdict .B, .stage .A, .stage .B, .flow .A, .flow .B], true, false⟩

theorem PortRights.restart_verdict (b : Boom) : .verdict b ∈ PortRights.restart.notices := by
  cases b <;> simp [PortRights.restart]

theorem PortRights.restart_boom (b : Boom) :
    .stage b ∈ PortRights.restart.notices ∧ .flow b ∈ PortRights.restart.notices := by
  cases b <;> simp [PortRights.restart]

/-- One step of a RESTART, before the blocks go back to their reset values: the table and the notices. -/
structure State.RestartStep (s t : State) : Prop where
  table : s.TableOnly t
  moves : s.PortsMove .restart t

namespace State.RestartStep

theorem trans {s t w : State} (h : s.RestartStep t) (k : t.RestartStep w) : s.RestartStep w :=
  ⟨h.table.trans k.table, h.moves.trans k.moves⟩

theorem refl (s : State) : s.RestartStep s := ⟨.refl s, .refl _ s⟩

theorem post (s : State) {n : NoticePair} (h : n ∈ PortRights.restart.notices) : s.RestartStep (s.post n) :=
  ⟨.post s n, .post h s⟩

theorem setEntry (s : State) (i : Slot) (e : Option Entry) : s.RestartStep (s.setEntry i e) :=
  ⟨.setEntry s i e, .of_ports rfl rfl⟩

theorem disposeRestart (s : State) (b : Boom) : s.RestartStep (s.disposeRestart b) := by
  unfold State.disposeRestart
  cases claim : s.claimedEntry b with
  | none => exact .refl s
  | some x =>
    obtain ⟨i, e⟩ := x
    simp only []
    split
    · exact .setEntry s i _
    · rw [State.noteDepth_eq claim]
      refine .trans (.setEntry s i _) (.trans ⟨.tableVerdict _ i _, ?_⟩ (.post _ (PortRights.restart_verdict b)))
      exact .tableVerdict (by simp [PortRights.restart]) rfl (by simp [PortRights.restart]) _ i _

theorem closeDisposed (s before : State) (b : Boom) : s.RestartStep (s.closeDisposed before b) := by
  unfold State.closeDisposed
  split
  · exact ⟨.closingCheck s _, .closingCheck (by simp [PortRights.restart]) s _⟩
  · exact .refl s

theorem restartPosts (s before : State) (b : Boom) : s.RestartStep (s.restartPosts before b) := by
  obtain ⟨stage, flow⟩ := PortRights.restart_boom b
  have posted : s.RestartStep (if (before.unit b).cycle = .idle then s else s.post (.stage b)) := by
    split
    · exact .refl s
    · exact .post s stage
  unfold State.restartPosts
  simp only []
  split
  · exact posted.trans (.post _ flow)
  · exact posted

end State.RestartStep

end

end Sys2Proof.Machine

/-! ### RESTART, whole -/

namespace Sys2Proof.Machine

open Sys2Proof Sys2Proof.Machine

/-! ### The table -/

section
variable {s z w : State} {b : Boom} {i : Slot} {e : Entry}

/-- The other boom's claim outlasts a disposition. -/
theorem State.ClaimsAgree.claimedEntry_disposed (agrees : s.ClaimsAgree) (alike : (s.disposal s b).Alike w) :
    w.claimedEntry b.other = s.claimedEntry b.other := by
  have table : s.TableOnly (s.disposal s b) := by
    unfold State.disposal
    cases s.claimedEntry b with
    | none => exact .refl s
    | some x =>
      simp only []
      split
      · exact .setEntry s _ _
      · exact .trans (.setEntry s _ _) (.tableVerdict _ _ _)
  obtain ⟨_, _, _, _, frame⟩ := table
  have unit : w.unit b.other = s.unit b.other := by
    rw [alike.unit, frame]
    rfl
  rcases Bool.eq_false_or_eq_true (s.unit b).claimHeld with held | free
  · obtain ⟨_, _, i, e, slot, here, _⟩ := agrees.working b held
    refine agrees.claimedEntry_other (Boom.other_ne b) held slot unit fun j f other occupied => ?_
    refine (alike.entry j).trans (State.disposal_other occupied fun g claim => other ?_)
    obtain ⟨_, slot', _⟩ := State.claimedEntry_eq_some.1 claim
    exact Option.some.inj (slot'.symm.trans slot)
  · have same := State.disposal_none (u := s) (State.claimedEntry_none free)
    rw [alike.claimedEntry, same]

/-- What the disposition of boom A leaves for that of boom B. -/
theorem State.ClaimsAgree.firstDisposed (agrees : s.ClaimsAgree) (alike : s.Alike w) :
    (s.disposal s .A).Alike (w.disposeRestart .A) ∧ (w.disposeRestart .A).claimedEntry .B = s.claimedEntry .B ∧
      (w.disposeRestart .A).engine .B = s.engine .B := by
  have first := alike.disposeRestart (s := s) (alike.claimedEntry .A) (alike.engine .A)
  obtain ⟨_, _, _, _, frame⟩ := (State.RestartStep.disposeRestart w .A).table
  refine ⟨first, agrees.claimedEntry_disposed first, ?_⟩
  rw [frame]
  exact alike.engine .B

/-- The table after both dispositions (R24). -/
def State.disposed (s : State) : State := (s.disposal s .A).disposal s .B

/-- The part that the dispositions of a RESTART and their closing checks leave. -/
theorem State.ClaimsAgree.restartDisposed (agrees : s.ClaimsAgree) (alike : s.Alike z) :
    (((s.disposed).closedFor s .A).closedFor s .B).Alike z.restartDisposed := by
  have cleared : s.Alike (z.mapPorts PortState.restartNotices) := alike.trans (.of_ports ⟨_, rfl⟩)
  obtain ⟨first, claims, engine⟩ := agrees.firstDisposed cleared
  have second := first.disposeRestart (s := s) claims engine
  have checked : ∀ (u w : State) (b : Boom), u.Alike w → (u.closedFor s b).Alike (w.closeDisposed z b) :=
    fun u w b k => by
      unfold State.closedFor State.closeDisposed
      rw [alike.claimedEntry]
      cases s.claimedEntry b with
      | none => exact k
      | some x => exact k.closingCheck _
  have posts : ∀ (w : State) (b : Boom), w.Alike (w.restartPosts z b) := fun w b => by
    have stage : w.Alike (if (z.unit b).cycle = .idle then w else w.post (.stage b)) := by
      split
      · exact .refl w
      · exact .post w _
    unfold State.restartPosts
    simp only []
    split
    · exact stage.trans (.post _ _)
    · exact stage
  exact ((checked _ _ .B (checked _ _ .A second)).trans (posts _ .A)).trans (posts _ .B)

theorem State.closedFor_frame (u s : State) (b : Boom) :
    u.closedFor s b = { u with rows := (u.closedFor s b).rows, ports := (u.closedFor s b).ports } := by
  unfold State.closedFor
  split
  · exact State.closingCheck_frame u _
  · rfl

/-! ### The notices -/

theorem State.disposeRestart_posted (claim : w.claimedEntry b = some (i, e))
    (stays : e.goesBack (w.engine b).currentDepth = false) : (w.disposeRestart b).Posted (.verdict b) := by
  unfold State.disposeRestart
  rw [claim]
  simp only [stays]
  exact State.post_posted _ _

theorem State.restartPosts_stage (moved : (z.unit b).cycle ≠ .idle) : (w.restartPosts z b).Posted (.stage b) := by
  unfold State.restartPosts
  simp only [if_neg moved]
  split
  · exact (State.PortsMove.post (R := .all) (mem_allPairs _) _).posted (State.post_posted _ _)
  · exact State.post_posted _ _

theorem State.restartPosts_flow (granted : (z.arbiter.grants.get b).isSome = true) :
    (w.restartPosts z b).Posted (.flow b) := by
  unfold State.restartPosts
  simp only [granted]
  exact State.post_posted _ _

/-! ### The entries that the dispositions leave -/

section
variable (agrees : s.ClaimsAgree) (claim : s.claimedEntry b = some (i, e))
include agrees claim

theorem State.ClaimsAgree.unclaimed_other {c : Boom} (apart : c ≠ b) (f : Entry) : s.claimedEntry c ≠ some (i, f) :=
  fun other => by
    obtain ⟨held, slot, _⟩ := State.claimedEntry_eq_some.1 claim
    obtain ⟨held', slot', _⟩ := State.claimedEntry_eq_some.1 other
    exact agrees.slot_ne apart held slot held' slot' rfl

/-- What a disposition writes in its hole stands after both. -/
theorem State.ClaimsAgree.disposed_entry {P : Entry → Prop}
    (own : ∀ u : State, ∃ f, (u.disposal s b).entry i = some f ∧ P f) : ∃ f, s.disposed.entry i = some f ∧ P f := by
  cases b with
  | A =>
    obtain ⟨f, here, holds⟩ := own s
    exact ⟨f, State.disposal_other here (agrees.unclaimed_other claim nofun), holds⟩
  | B => exact own _

theorem State.ClaimsAgree.disposed_back (back : e.goesBack (s.engine b).currentDepth = true) :
    s.disposed.entry i = some e.returned := by
  obtain ⟨f, here, rfl⟩ := agrees.disposed_entry (P := (· = e.returned)) claim fun u => ⟨_, by
    rw [State.disposal_back claim back]
    exact State.entry_setEntry_same u i _, rfl⟩
  exact here

theorem State.ClaimsAgree.disposed_rejected (stays : e.goesBack (s.engine b).currentDepth = false) :
    ∃ r, s.disposed.entry i = some { e with holeState := .rejected, claimant := none, result := r } ∧
      ∀ x, e.result = some x → ∃ y, r = some y ∧ y.verdict = some .restart := by
  obtain ⟨f, here, r, rfl, verdict⟩ := agrees.disposed_entry (P := fun f => ∃ r,
    f = { e with holeState := .rejected, claimant := none, result := r } ∧
      ∀ x, e.result = some x → ∃ y, r = some y ∧ y.verdict = some .restart) claim fun u => by
    obtain ⟨r, here, verdict⟩ := State.disposal_rejected (u := u) claim stays
    exact ⟨_, here, r, rfl, verdict⟩
  exact ⟨r, here, verdict⟩

theorem State.ClaimsAgree.restartDisposed_verdict (alike : s.Alike z)
    (stays : e.goesBack (s.engine b).currentDepth = false) : z.restartDisposed.Posted (.verdict b) := by
  have cleared : s.Alike (z.mapPorts PortState.restartNotices) := alike.trans (.of_ports ⟨_, rfl⟩)
  have rest : (((z.mapPorts PortState.restartNotices).disposeRestart .A).disposeRestart .B).RestartStep
      z.restartDisposed :=
    .trans (.trans (.trans (.closeDisposed _ z .A) (.closeDisposed _ z .B)) (.restartPosts _ z .A)) (.restartPosts _ z .B)
  cases b with
  | A =>
    refine rest.moves.posted ((State.RestartStep.disposeRestart _ .B).moves.posted ?_)
    exact State.disposeRestart_posted ((cleared.claimedEntry .A).trans claim) (by rw [cleared.engine]; exact stays)
  | B =>
    refine rest.moves.posted ?_
    obtain ⟨_, claims, engine⟩ := agrees.firstDisposed cleared
    exact State.disposeRestart_posted (claims.trans claim) (by rw [engine]; exact stays)

end

theorem State.restartDisposed_stage (moved : (z.unit b).cycle ≠ .idle) : z.restartDisposed.Posted (.stage b) := by
  cases b with
  | A => exact (State.RestartStep.restartPosts _ z .B).moves.posted (State.restartPosts_stage moved)
  | B => exact State.restartPosts_stage moved

theorem State.restartDisposed_flow (granted : (z.arbiter.grants.get b).isSome = true) :
    z.restartDisposed.Posted (.flow b) := by
  cases b with
  | A => exact (State.RestartStep.restartPosts _ z .B).moves.posted (State.restartPosts_flow granted)
  | B => exact State.restartPosts_flow granted

theorem State.restartDisposed_step (z : State) :
    (z.mapPorts PortState.restartNotices).RestartStep z.restartDisposed :=
  .trans (.trans (.trans (.trans (.trans (.disposeRestart _ .A) (.disposeRestart _ .B)) (.closeDisposed _ z .A))
    (.closeDisposed _ z .B)) (.restartPosts _ z .A)) (.restartPosts _ z .B)

/-! ### The ports -/

theorem PortMove.frame_dropped {R : PortRights} {x : Bool} {q q' : PortState} (h : PortMove R x q q')
    (k : q.frame = .dropped) : q'.frame = .dropped := by
  cases h with
  | record n => simp [PortState.record, PortState.withAtn, k, Frame.repost]
  | written i => unfold PortState.slotWritten; split <;> exact k
  | emptied i => simp [PortState.slotEmptied, k, Frame.slotEmptied]

/-- A frame that RESTART has dropped, or that was idle, stays so through its notices. -/
theorem State.PortsMove.frame_drop {R : PortRights} {s t : State} (h : s.PortsMove R t) {p : Port} {f : Frame}
    (k : (s.port p).frame = f.drop) : (t.port p).frame = if f = .idle then .idle else .dropped := by
  have dropped : f.drop = if f = .idle then .idle else .dropped := by cases f <;> rfl
  rw [dropped] at k
  split at k
  · rename_i idle
    rw [if_pos idle]
    exact h.frame_idle k
  · rename_i busy
    rw [if_neg busy]
    exact PortMove.keeps (P := fun q => q.frame = .dropped) (fun _ _ m k => m.frame_dropped k) (h.2 p) k

end

end Sys2Proof.Machine

/-! ### RESTART settled -/

namespace Sys2Proof.Machine

open Sys2Proof Sys2Proof.Machine

theorem exec_restart {s : State} (takes : s.Takes .C) :
    exec (.restart .C) s = .next (s.setFrame .C .idle).restartPart := by
  show Host.Outcome.next (if s.frameLost .C = true then s.setFrame .C .idle
    else if Port.C = .C then (s.setFrame .C .idle).restartPart else _) = _
  rw [if_neg (Bool.eq_false_iff.1 takes), if_pos rfl]

section
variable {s : State}

theorem State.alike_setFrame (s : State) (p : Port) (f : Frame) : s.Alike (s.setFrame p f) := .of_ports ⟨_, rfl⟩

theorem State.restartPart_frame (z : State) : z.restartPart = { z.restartDisposed with
    units := z.restartPart.units, lanes := z.restartPart.lanes, engines := z.restartPart.engines
    loader := z.restartPart.loader, arbiter := z.restartPart.arbiter, ports := z.restartPart.ports } := rfl

/-- The table of a restarted part (R24). -/
theorem State.ClaimsAgree.restarted_table (agrees : s.ClaimsAgree) {z : State} (alike : s.Alike z) :
    z.restartPart.slots = s.disposed.slots ∧ z.restartPart.backlog = s.disposed.backlog ∧
      z.restartPart.rows = ((s.disposed.closedFor s .A).closedFor s .B).rows := by
  obtain ⟨l, p, disposed⟩ := agrees.restartDisposed alike
  rw [z.restartPart_frame, disposed]
  refine ⟨?_, ?_, rfl⟩ <;> rw [State.closedFor_frame, State.closedFor_frame]

/-- The blocks of a restarted part (R68, R69, R119, R148). -/
theorem State.restarted_blocks (z : State) (b : Boom) : z.restartPart.unit b = (z.unit b).restarted ∧
    z.restartPart.lane b = (z.lane b).restarted ∧ z.restartPart.engine b = .initial := by
  obtain ⟨_, _, _, _, frame⟩ := z.restartDisposed_step.table
  rw [State.restartPart_eq, frame]
  cases b <;> exact ⟨rfl, rfl, rfl⟩

/-- The port of a restarted part (R25, R68, R176). -/
theorem State.restarted_port (z : State) (p : Port) : z.restartPart.port p = (z.restartDisposed.port p).restarted := by
  rw [State.restartPart_eq]
  cases p <;> rfl

theorem State.restarted_posted {z : State} {n : NoticePair} (posted : z.restartDisposed.Posted n) :
    z.restartPart.Posted n := fun p => by
  rw [State.restarted_port]
  exact posted p

end

/-- Settles O7: the dispositions of both holes, and then the blocks and the ports. -/
theorem restartDisposesAndResets : Obligations.RestartDisposesAndResets := by
  intro s takes agrees
  have alike := s.alike_setFrame .C .idle
  obtain ⟨slots, backlog, rows⟩ := agrees.restarted_table alike
  have entry : ∀ i, (s.setFrame .C .idle).restartPart.entry i = s.disposed.entry i := fun i => by
    rw [State.entry, slots, State.entry]
  have step := (s.setFrame .C .idle).restartDisposed_step
  obtain ⟨_, _, _, _, frame⟩ := step.table
  have claimed : ∀ b i e, s.entry i = some e → e.claimant = some b → s.claimedEntry b = some (i, e) :=
    fun b i e here named => by
      obtain ⟨held, slot⟩ := agrees.held i e b here named
      exact State.claimedEntry_eq_some.2 ⟨held, slot, here⟩
  refine ⟨_, exec_restart takes, fun b i e here named => ⟨fun back => ?_, fun wet begun deep => ?_⟩,
    fun i e here free => ?_, ⟨s.disposal s .A, s.disposed, State.disposes_disposal s s .A, State.disposes_disposal s _ .B,
      slots, backlog, rows⟩, fun b => ?_, ?_, ?_, ?_, ?_, ?_, fun p => ?_⟩
  · rw [entry, agrees.disposed_back (claimed b i e here named) (Entry.goesBack_iff.2 back)]
    rfl
  · have stays : e.goesBack (s.engine b).currentDepth = false := Bool.eq_false_iff.2 fun back => by
      rcases Entry.goesBack_iff.1 back with dry | begun' | ⟨drilling, shallow⟩
      · exact wet dry
      · exact begun begun'
      · exact absurd (deep drilling) (Nat.not_le.2 shallow)
    rw [entry]
    exact ⟨agrees.disposed_rejected (claimed b i e here named) stays,
      State.restarted_posted (agrees.restartDisposed_verdict (claimed b i e here named) alike stays)⟩
  · rw [entry]
    have unclaimed : ∀ b f, s.claimedEntry b ≠ some (i, f) := fun b f claim => by
      obtain ⟨held, slot, here'⟩ := State.claimedEntry_eq_some.1 claim
      obtain ⟨_, _, j, g, slot', here'', named⟩ := agrees.working b held
      obtain rfl : j = i := Option.some.inj (slot'.symm.trans slot)
      obtain rfl : g = e := Option.some.inj (here''.symm.trans here)
      exact absurd (free.symm.trans named) nofun
    exact State.disposal_other (State.disposal_other here (unclaimed .A)) (unclaimed .B)
  · obtain ⟨unit, lane, engine⟩ := (s.setFrame .C .idle).restarted_blocks b
    exact ⟨unit, lane, engine, fun moved => State.restarted_posted (State.restartDisposed_stage moved),
      fun granted => State.restarted_posted (State.restartDisposed_flow granted)⟩
  · rw [State.restartPart_eq, frame]
    rfl
  · rw [State.restartPart_eq, frame]
    rfl
  · rw [State.restartPart_eq, frame]
    rfl
  · rw [State.restartPart_eq, frame]
    rfl
  · rw [State.restartPart_eq, frame]
    exact ⟨rfl, rfl, rfl, rfl, rfl, rfl⟩
  · rw [State.restarted_port]
    have before : ∀ q, ((s.setFrame .C .idle).mapPorts PortState.restartNotices).port q =
        ((s.setFrame .C .idle).port q).restartNotices := fun q => State.port_mapPorts _ _ q
    have masks := step.moves.masks p
    have edges := step.moves.edges p
    have pending := (step.moves.within p).2
    have left := step.moves.frame_drop (p := p) (f := ((s.setFrame .C .idle).port p).frame) (by rw [before]; rfl)
    rw [before] at masks edges pending
    have ended : (s.setFrame .C .idle).port p =
        { s.port p with frame := if p = .C then .idle else (s.port p).frame } := by
      cases p <;> rfl
    rw [ended] at masks edges pending left
    refine ⟨rfl, rfl, rfl, masks, edges, left.trans ?_, fun n inside => ?_⟩
    · by_cases own : p = .C <;> simp [own]
    · have listed : n ∈ PortRights.restart.notices := (pending n inside).resolve_left List.not_mem_nil
      simp only [PortRights.restart, List.mem_cons, List.not_mem_nil, or_false] at listed
      rcases listed with rfl | rfl | rfl | rfl | rfl | rfl | rfl | rfl
      · exact .inl rfl
      · exact .inr (.inl rfl)
      · exact .inr (.inr ⟨.A, .inl rfl⟩)
      · exact .inr (.inr ⟨.B, .inl rfl⟩)
      · exact .inr (.inr ⟨.A, .inr (.inl rfl)⟩)
      · exact .inr (.inr ⟨.B, .inr (.inl rfl)⟩)
      · exact .inr (.inr ⟨.A, .inr (.inr rfl)⟩)
      · exact .inr (.inr ⟨.B, .inr (.inr rfl)⟩)

end Sys2Proof.Machine

/-! ### Frames -/

namespace Sys2Proof.Machine

open Sys2Proof Sys2Proof.Machine

section
variable {p : Port} {args extra : List Byte} {n : CommandName}

theorem CommandName.ofByte_code (n : CommandName) : CommandName.ofByte n.code = some n := by
  cases n <;> rfl

theorem decodeFrame_named {c : Byte} (named : CommandName.ofByte c = some n) (args : List Byte) :
    decodeFrame p (c :: args) = if args.length < n.argCount p args then .torn p (c :: args) else n.decode p args := by
  unfold decodeFrame
  simp only [named]

/-- A frame with its command's arguments complete is that command. -/
theorem decodeFrame_complete (complete : n.argCount p args ≤ args.length) :
    decodeFrame p (n.code :: args) = n.decode p args :=
  (decodeFrame_named (CommandName.ofByte_code n) args).trans (if_neg (Nat.not_lt.2 complete))

/-! ### The values of a parameter set -/

theorem argAt_append_right (l x : List Byte) (k : Nat) : argAt (l ++ x) (l.length + k) = argAt x k := by
  unfold argAt
  rw [List.getD_append_right _ _ _ _ (Nat.le_add_right _ _), Nat.add_sub_cancel_left]

theorem decodeValues_append_right (l x : List Byte) : decodeValues (l ++ x) l.length = decodeValues x 0 := by
  simp only [decodeValues, wordAt, Nat.add_assoc, argAt_append_right, Nat.zero_add]

theorem wordAt_wordBytes (w : Word16) (rest : List Byte) : wordAt (wordBytes w ++ rest) 0 = w := joinBytes_hi_lo w

theorem wordAt_wordBytes_succ (w : Word16) (rest : List Byte) (k : Nat) :
    wordAt (wordBytes w ++ rest) (k + 2) = wordAt rest k := rfl

theorem decodeValues_encodeValues (v : ParamValues) (rest : List Byte) :
    decodeValues (encodeValues v ++ rest) 0 = v := by
  delta encodeValues
  simp only [decodeValues, List.append_assoc, Nat.zero_add, wordAt_wordBytes, wordAt_wordBytes_succ]

theorem length_encodeValues (v : ParamValues) : (encodeValues v).length = 46 := by
  delta encodeValues
  simp only [List.length_append]
  rfl

theorem decode_writeParameters (p : Port) (a : List Byte) : CommandName.decode p a .writeParameters =
    if argAt a 1 = pairedFlag then .writeParameters p (argAt a 0) true (decodeValues a 2) (decodeValues a 48)
    else .writeParameters p (argAt a 0) false (decodeValues a 2) noValues := rfl

/-- A paired write is read back as both its blocks (R179). -/
theorem decode_paired (set : Byte) (v w : ParamValues) :
    CommandName.decode p (set :: pairedFlag :: (encodeValues v ++ encodeValues w)) .writeParameters =
      .writeParameters p set true v w := by
  have first : decodeValues (set :: pairedFlag :: (encodeValues v ++ encodeValues w)) 2 = v := by
    have placed := decodeValues_append_right [set, pairedFlag] (encodeValues v ++ encodeValues w)
    rw [decodeValues_encodeValues, List.cons_append, List.cons_append, List.nil_append] at placed
    exact placed
  have second : decodeValues (set :: pairedFlag :: (encodeValues v ++ encodeValues w)) 48 = w := by
    have placed := decodeValues_append_right (set :: pairedFlag :: encodeValues v) (encodeValues w ++ [])
    rw [decodeValues_encodeValues, List.append_nil, List.cons_append, List.cons_append, List.length_cons,
      List.length_cons, length_encodeValues] at placed
    exact placed
  rw [decode_writeParameters, first, second]
  exact if_pos rfl

theorem decode_unpaired (set : Byte) (v : ParamValues) :
    CommandName.decode p (set :: 0x00 :: encodeValues v) .writeParameters =
      .writeParameters p set false v noValues := by
  have values : decodeValues (set :: 0x00 :: encodeValues v) 2 = v := by
    have placed := decodeValues_append_right [set, 0x00] (encodeValues v ++ [])
    rw [decodeValues_encodeValues, List.append_nil, List.cons_append, List.cons_append, List.nil_append] at placed
    exact placed
  have unpaired : (0x00 : Byte) ≠ pairedFlag := by decide
  rw [decode_writeParameters, values]
  exact if_neg unpaired

end

/-- The boom byte of a claim or cycle command is read back where the frame carries one, and is 0 elsewhere (R178). -/
theorem boomByte_boomBytes {p : Port} {b : Byte} (ok : boomByteOk p b = true) (rest : List Byte) :
    boomByte p (boomBytes p b ++ rest) = b := by
  cases p with
  | C => rfl
  | A | B => exact (beq_iff_eq.1 ok).symm

theorem length_boomBytes (p : Port) (b : Byte) : (boomBytes p b).length = boomByteCount p := by
  cases p <;> rfl

/-- Settles O3: each command's frame, by its layout. -/
theorem framesRoundTrip : Obligations.FramesRoundTrip := by
  intro i p bytes wf frame
  cases i with
  | lastResult | readStatus | notices | readNoticeSettings | search | readMatches | readEntry | readNext | readParameters
  | claimNext | openRow | endPlan | freezeRow | thawRow | releaseRow | setProtection | erase | setValidity
  | cancelSupplements | suspend | resume | abort | clear | dryOn | dryOff | restart | selectSet | refill | clearJam | derate
  | takeCount | setReportMode =>
    cases frame
    exact decodeFrame_complete le_rfl
  | configureNotices _ mask =>
    cases frame
    refine (decodeFrame_complete le_rfl).trans ?_
    exact congrArg (fun w => Instr.configureNotices p w _ _ _ _ _) (joinBytes_hi_lo mask)
  | planHole _ row position reach offset =>
    cases frame
    refine (decodeFrame_complete le_rfl).trans ?_
    exact congrArg (fun w => Instr.planHole p row position reach w _ _) (joinBytes_hi_lo offset)
  | claimSlot _ b target =>
    cases frame
    have carried : (boomBytes p b ++ [target]).length = boomByteCount p + 1 := by
      rw [List.length_append, length_boomBytes]
      rfl
    have placed : argAt (boomBytes p b ++ [target]) (boomByteCount p) = target := by
      rw [← length_boomBytes p b]
      exact argAt_append_right (boomBytes p b) [target] 0
    rw [decodeFrame_complete (n := .claimSlot) carried.ge]
    exact congrArg₂ (Instr.claimSlot p) (boomByte_boomBytes wf _) placed
  | cancelClaim _ b | collared _ b | bitOut _ b | boltIn _ b =>
    cases frame
    have boom := boomByte_boomBytes wf []
    rw [List.append_nil] at boom
    refine (decodeFrame_complete ?_).trans (congrArg _ boom)
    exact (length_boomBytes p b).ge
  | writeParameters _ set paired v w =>
    cases paired with
    | true =>
      cases frame
      refine (decodeFrame_complete (n := .writeParameters) ?_).trans (decode_paired set v w)
      rw [List.length_cons, List.length_cons, List.length_append, length_encodeValues, length_encodeValues]
      exact le_rfl
    | false =>
      cases frame
      obtain rfl : w = noValues := beq_iff_eq.1 wf
      refine (decodeFrame_complete (n := .writeParameters) ?_).trans (decode_unpaired set v)
      rw [List.length_cons, List.length_cons, length_encodeValues]
      exact le_rfl
  | writeMachineSettings _ separation shift lowMark =>
    cases frame
    refine (decodeFrame_complete le_rfl).trans ?_
    show Instr.writeMachineSettings p (joinBytes separation.hi separation.lo) (joinBytes shift.hi shift.lo)
      (joinBytes lowMark.hi lowMark.lo) = _
    simp only [joinBytes_hi_lo]
  | feedSample _ boom seq position thrust speed torque flags =>
    cases frame
    refine (decodeFrame_complete le_rfl).trans ?_
    show Instr.feedSample p boom seq (joinBytes position.hi position.lo) (joinBytes thrust.hi thrust.lo)
      (joinBytes speed.hi speed.lo) (joinBytes torque.hi torque.lo) flags = _
    simp only [joinBytes_hi_lo]
  | _ => exact nomatch frame

end Sys2Proof.Machine

/-! ### Torn, unknown and over-long frames -/

namespace Sys2Proof.Machine

open Sys2Proof Sys2Proof.Machine

section
variable {p : Port} {a extra : List Byte} {n : CommandName}

theorem argAt_append {k : Nat} (inside : k < a.length) : argAt (a ++ extra) k = argAt a k :=
  List.getD_append _ _ _ _ inside

theorem wordAt_append {k : Nat} (inside : k + 1 < a.length) : wordAt (a ++ extra) k = wordAt a k := by
  unfold wordAt
  rw [argAt_append (Nat.lt_of_succ_lt inside), argAt_append inside]

theorem decodeValues_append {k : Nat} (inside : k + 45 < a.length) : decodeValues (a ++ extra) k = decodeValues a k := by
  have word : ∀ j, j ≤ 44 → wordAt (a ++ extra) (k + j) = wordAt a (k + j) := fun j small => wordAt_append (by omega)
  simp (disch := decide) only [decodeValues, word]

theorem boomByte_append (inside : boomByteCount p ≤ a.length) : boomByte p (a ++ extra) = boomByte p a := by
  cases p with
  | C => exact argAt_append inside
  | A | B => rfl

/-- Complete arguments settle a command: bytes after them change neither their number nor what they say. -/
theorem CommandName.argCount_append (full : n.argCount p a ≤ a.length) : n.argCount p (a ++ extra) = n.argCount p a := by
  cases n with
  | writeParameters =>
    have named : 1 < a.length := by
      simp only [CommandName.argCount] at full
      split at full <;> omega
    simp only [CommandName.argCount, argAt_append named]
  | _ => rfl

/-- A command reads its own arguments only. -/
theorem CommandName.decode_append (full : n.argCount p a ≤ a.length) : n.decode p (a ++ extra) = n.decode p a := by
  cases n with
  | writeParameters =>
    rw [decode_writeParameters, decode_writeParameters]
    simp only [CommandName.argCount] at full
    by_cases paired : argAt a 1 = pairedFlag
    · rw [if_pos paired] at full
      rw [argAt_append (by omega), argAt_append (by omega), decodeValues_append (by omega),
        decodeValues_append (by omega)]
    · rw [if_neg paired] at full
      rw [argAt_append (by omega), argAt_append (by omega), decodeValues_append (by omega), if_neg paired, if_neg paired]
  | claimSlot =>
    have carried : boomByteCount p < a.length := full
    simp only [CommandName.decode, boomByte_append carried.le, argAt_append carried]
  | cancelClaim | collared | bitOut | boltIn => exact congrArg _ (boomByte_append full)
  | lastResult | readStatus | notices | readNoticeSettings | readMatches | readNext | claimNext | restart | clearJam => rfl
  | _ =>
    simp only [CommandName.argCount] at full
    simp (disch := omega) only [CommandName.decode, wordAt_append, argAt_append]

end

theorem exec_torn {p : Port} {s : State} (takes : s.Takes p) (bytes : List Byte) : exec (.torn p bytes) s = .next (
    match bytes with
    | [] => s.setFrame p .idle
    | c :: _ =>
      if (CommandName.ofByte c).isNone then (s.setFrame p .idle).setLast p ⟨some c, .unknown, none⟩
      else if frameTorn p bytes then (s.setFrame p .idle).setLast p ⟨some c, .torn, none⟩
      else s) := congrArg Host.Outcome.next (if_neg (Bool.eq_false_iff.1 takes))

theorem State.setFrame_idle_setLast (s : State) (p : Port) (r : LastResult) :
    (s.setFrame p .idle).setLast p r = s.setPort p { s.port p with frame := .idle, last := r } := by
  unfold State.setLast
  rw [State.port_setFrame_same, State.setFrame_setPort]

/-- Settles O4: the frame that is cut short, the unknown one, the empty one, and the one that runs on. -/
theorem shortUnknownAndLongFrames : Obligations.ShortUnknownAndLongFrames := by
  intro p c args extra s takes
  refine ⟨fun n named short => ⟨?_, ?_⟩, fun unknown => ⟨?_, ?_⟩, rfl, ?_, fun n named full => ?_⟩
  · rw [decodeFrame_named named, if_pos short]
  · have torn : frameTorn p (c :: args) = true := by
      unfold frameTorn
      simp only [named]
      exact decide_eq_true short
    rw [exec_torn takes, ← State.setFrame_idle_setLast]
    simp only [named, torn]
    rfl
  · unfold decodeFrame
    simp only [unknown]
  · rw [← State.setFrame_idle_setLast]
    refine congrArg Host.Outcome.next ((if_neg (Bool.eq_false_iff.1 takes)).trans (if_neg ?_))
    rw [unknown]
    nofun
  · rw [exec_torn takes]
    rfl
  · rw [List.cons_append, decodeFrame_named named, decodeFrame_named named, CommandName.argCount_append full,
      CommandName.decode_append full, if_neg (Nat.not_lt.2 full), if_neg]
    rw [List.length_append]
    omega

end Sys2Proof.Machine

/-! ### The bytes of a record -/

namespace Sys2Proof.Machine

open Sys2Proof Sys2Proof.Machine

/-! ### Bits of a byte -/

theorem getLsbD_bitAt {k i : Nat} (inside : i < 8) (x : Bool) : (bitAt k x).getLsbD i = (x && decide (i = k)) := by
  have one : ∀ j, (1 : Byte).getLsbD j = decide (j = 0) := fun j => by simp
  cases x with
  | false =>
    show (0 : Byte).getLsbD i = _
    simp
  | true =>
    show ((1 : Byte) <<< k).getLsbD i = _
    rw [BitVec.getLsbD_shiftLeft, one, Bool.true_and]
    simp only [inside, decide_true, Bool.true_and]
    by_cases below : i < k
    · simp [below, below.ne]
    · simp [below, show i - k = 0 ↔ i = k by omega]

/-- The field of a byte that a layout gives a meaning throughout holds the value given. -/
theorem extractLsb'_partByte (s : State) {k n m : Nat} {mask value : Byte}
    (given : ∀ i, i < m → mask.getLsbD (n + i) = true) :
    (s.partByte k mask value).extractLsb' n m = value.extractLsb' n m := by
  refine BitVec.eq_of_getLsbD_eq fun i below => ?_
  rw [BitVec.getLsbD_extractLsb', BitVec.getLsbD_extractLsb', getLsbD_partByte _ _ _ _ _ (given i below)]

/-! ### The parts of a reply -/

theorem argAt_within {pre part : List Byte} {c k : Nat} (len : pre.length = c) (inside : k < part.length)
    (post : List Byte) : argAt (pre ++ (part ++ post)) (c + k) = argAt part k := by
  subst len
  rw [argAt_append_right, argAt_append inside]

/-! ### Groups of 24 bits -/

theorem wordAt_tripleBytes (x : BitVec 24) (rest : List Byte) :
    wordAt (tripleBytes x ++ rest) 0 = x.extractLsb' 8 16 ∧ wordAt (tripleBytes x ++ rest) 1 = x.extractLsb' 0 16 := by
  constructor
  · show joinBytes (x.extractLsb' 16 8) (x.extractLsb' 8 8) = _
    refine BitVec.eq_of_getLsbD_eq fun i below => ?_
    rw [BitVec.getLsbD_append]
    simp only [BitVec.getLsbD_extractLsb']
    by_cases low : i < 8
    · simp [low, below]
    · simp [low, below, show i - 8 < 8 by omega, show 16 + (i - 8) = 8 + i by omega]
  · show joinBytes (x.extractLsb' 8 8) (x.extractLsb' 0 8) = _
    refine BitVec.eq_of_getLsbD_eq fun i below => ?_
    rw [BitVec.getLsbD_append]
    simp only [BitVec.getLsbD_extractLsb']
    by_cases low : i < 8
    · simp [low, below]
    · simp [low, below, show i - 8 < 8 by omega, show 8 + (i - 8) = i by omega]

/-- The two fields of 12 bits that share three bytes (section 13.3). -/
theorem extract_depths (x y : BitVec 12) : ((x ++ y : BitVec 24).extractLsb' 8 16).extractLsb' 4 12 = x ∧
    ((x ++ y : BitVec 24).extractLsb' 0 16).extractLsb' 0 12 = y := by
  constructor <;> refine BitVec.eq_of_getLsbD_eq fun i below => ?_ <;>
    simp only [BitVec.getLsbD_extractLsb', BitVec.getLsbD_append]
  · simp [below, show 4 + i < 16 by omega, show ¬ 8 + (4 + i) < 12 by omega, show 8 + (4 + i) - 12 = i by omega]
  · simp [below, show i < 16 by omega]

/-- The two fields of 10 bits that share three bytes, with 4 free bits between them (section 13.3). -/
theorem extract_torques (x y : BitVec 10) (free : BitVec 4) :
    ((x ++ free ++ y : BitVec 24).extractLsb' 8 16).extractLsb' 6 10 = x ∧
      ((x ++ free ++ y : BitVec 24).extractLsb' 0 16).extractLsb' 0 10 = y := by
  constructor <;> refine BitVec.eq_of_getLsbD_eq fun i below => ?_ <;>
    simp only [BitVec.getLsbD_extractLsb', BitVec.getLsbD_append]
  · simp [below, show 6 + i < 16 by omega, show ¬ 8 + (6 + i) < 10 by omega, show ¬ 8 + (6 + i) - 10 < 4 by omega,
      show 8 + (6 + i) - 10 - 4 = i by omega]
  · simp [below, show i < 16 by omega]

end Sys2Proof.Machine

/-! ### READ ENTRY and READ NEXT -/

namespace Sys2Proof.Machine

open Sys2Proof Sys2Proof.Machine

/-! ### The fields of the record's packed bytes -/

theorem ofNat_getElem {w i : Nat} (n : Nat) (inside : i < w) : (BitVec.ofNat w n)[i] = n.testBit i := by
  rw [← BitVec.getLsbD_eq_getElem, BitVec.getLsbD_ofNat]
  simp [inside]

section
variable (a b c d x : Bool) (n m : Nat)

theorem getElem_bitAt {k i : Nat} (inside : i < 8) : (bitAt k x)[i] = (x && decide (i = k)) :=
  (BitVec.getLsbD_eq_getElem inside).symm.trans (getLsbD_bitAt inside x)

theorem getLsbD_threeFlags : (bitAt 0 a ||| bitAt 1 b ||| bitAt 2 c).getLsbD 0 = a ∧
    (bitAt 0 a ||| bitAt 1 b ||| bitAt 2 c).getLsbD 1 = b ∧ (bitAt 0 a ||| bitAt 1 b ||| bitAt 2 c).getLsbD 2 = c := by
  simp [getElem_bitAt]

/-- The flags of a result part (section 13.3). -/
def resultFlags (a b c d : Bool) (n : Nat) : Byte :=
  bitAt 0 a ||| bitAt 1 b ||| (byteOf n &&& 0x03) <<< 2 ||| bitAt 4 c ||| bitAt 5 d

theorem getLsbD_resultFlags : (resultFlags a b c d n).getLsbD 0 = a ∧ (resultFlags a b c d n).getLsbD 1 = b ∧
    (resultFlags a b c d n).getLsbD 4 = c ∧ (resultFlags a b c d n).getLsbD 5 = d := by
  simp [resultFlags, getElem_bitAt]

theorem extract_resultFlags : (resultFlags a b c d n).extractLsb' 2 2 = BitVec.ofNat 2 n := by
  refine BitVec.eq_of_getLsbD_eq fun i below => ?_
  interval_cases i <;> simp (decide := true) [resultFlags, getElem_bitAt, byteOf, ofNat_getElem]

/-- The two counts of four bits that share a byte (section 13.3). -/
theorem extract_nibbles : ((byteOf n <<< 4) ||| (byteOf m &&& 0x0F)).extractLsb' 4 4 = BitVec.ofNat 4 n ∧
    ((byteOf n <<< 4) ||| (byteOf m &&& 0x0F)).extractLsb' 0 4 = BitVec.ofNat 4 m := by
  constructor <;> refine BitVec.eq_of_getLsbD_eq fun i below => ?_ <;>
    interval_cases i <;> simp (decide := true) [byteOf, ofNat_getElem]

theorem layerMark (y : LayerClass) : (y.byte ||| bitAt 7 x).extractLsb' 0 2 = y.byte.extractLsb' 0 2 ∧
    (y.byte ||| bitAt 7 x).getLsbD 7 = x := by
  cases y <;> cases x <;> decide

end

/-! ### The segments -/

section
variable {s : State} {e : Entry} {r : Result} {i : Slot}

/-- The plan part reads back as the entry's plan, with the marks and the reason of its record (R31). -/
theorem State.segmentZero_planPart (s : State) (i : Slot) (e : Entry) : e.PlanPart i (s.segmentZero i e) := by
  obtain ⟨drained, lost, refer⟩ := getLsbD_threeFlags e.drained (e.resultMark Result.supplementLost)
    (e.resultMark Result.refer)
  have mark : ∀ k, k < 3 → (argAt (s.segmentZero i e) 14).getLsbD k = (bitAt 0 e.drained |||
      bitAt 1 (e.resultMark Result.supplementLost) ||| bitAt 2 (e.resultMark Result.refer)).getLsbD k := fun k below =>
    getLsbD_partByte _ _ _ _ _ (by interval_cases k <;> rfl)
  refine ⟨rfl, rfl, rfl, ?_, rfl, rfl, rfl, joinBytes_hi_lo _, rfl, rfl, rfl, ?_, rfl, ?_, fun r recorded => ?_,
    fun none => ?_⟩
  · show (match e.claimant with | some b => boomCode b | none => absentByte) = _
    rcases e.claimant with _ | _ | _ <;> rfl
  · show slotByte e.parent = _
    cases e.parent <;> rfl
  · rw [mark 0 (by decide), drained]
  · rw [mark 1 (by decide), mark 2 (by decide), lost, refer]
    unfold Entry.resultMark
    rw [recorded]
    refine ⟨rfl, rfl, ?_⟩
    show e.verdictByte = _
    unfold Entry.verdictByte
    rw [recorded]
    show (match r.verdict with | some v => v.byte | none => absentByte) = _
    cases r.verdict <;> rfl
  · rw [mark 1 (by decide), mark 2 (by decide), lost, refer]
    unfold Entry.resultMark
    rw [none]
    refine ⟨rfl, rfl, ?_⟩
    show e.verdictByte = _
    unfold Entry.verdictByte
    rw [none]
    rfl

theorem State.segmentOne_none (s : State) (none : e.result = none) :
    s.segmentOne e = s.partByte 0 0x31 0x00 :: List.replicate 15 absentByte := by
  unfold State.segmentOne
  rw [none]

/-- The bytes of a result part (section 13.3). -/
theorem State.segmentOne_some (s : State) (recorded : e.result = some r) : s.segmentOne e =
    [s.partByte 0 0x3F (resultFlags true r.unreliable r.collar.isSome r.drilledDepth.isSome r.extensions)] ++
    tripleBytes (s.depthGroup r) ++
    [byteOf (r.target / 10), byteOf (r.profiledDepth / 10), byteOf (r.voidTotal / 10), byteOf r.incomplete,
      byteOf r.saturated,
      (byteOf (r.cartPlanned.getD 0x0) <<< 4) ||| (byteOf (r.cartDelivered.getD 0xF) &&& 0x0F),
      byteOf (r.spinRevs.getD 0xFF)] ++
    tripleBytes (s.torqueGroup r) ++ bytesOf (r.turnAfterSeat.getD 0xFFFF) := by
  unfold State.segmentOne
  rw [recorded]
  rfl

/-- The result part reads back as the record (R31). -/
theorem State.segmentOne_resultPart (s : State) (e : Entry) : e.ResultPart (s.segmentOne e) := by
  cases result : e.result with
  | none =>
    rw [State.segmentOne_none s result]
    refine ⟨fun _ => ⟨?_, fun k => ?_⟩, ?_, ?_, ?_, ?_, ?_, ?_⟩
    · exact getLsbD_partByte _ _ _ _ _ rfl
    · show (List.replicate 15 absentByte).getD k.val 0 = absentByte
      exact (List.getD_eq_getElem _ _ (by simp)).trans (List.getElem_replicate _)
    all_goals
      intro r recorded
      exact nomatch result.symm.trans recorded
  | some r =>
    rw [State.segmentOne_some s result]
    have own : ∀ q, e.result = some q → r = q := fun q recorded => Option.some.inj (result.symm.trans recorded)
    obtain ⟨present, unreliable, collar, depth⟩ := getLsbD_resultFlags true r.unreliable r.collar.isSome
      r.drilledDepth.isSome r.extensions
    refine ⟨fun none => absurd (result.symm.trans none) (Option.some_ne_none r), ?_, ?_, ?_, ?_, ?_, ?_⟩ <;> intro q recorded <;>
      obtain rfl := own q recorded
    · refine ⟨?_, ?_, ?_, ?_, ?_⟩
      · exact (getLsbD_partByte _ _ _ _ _ rfl).trans present
      · exact (getLsbD_partByte _ _ _ _ _ rfl).trans unreliable
      · refine (extractLsb'_partByte s fun k below => ?_).trans (extract_resultFlags _ _ _ _ _)
        interval_cases k <;> rfl
      · exact (getLsbD_partByte _ _ _ _ _ rfl).trans collar
      · exact (getLsbD_partByte _ _ _ _ _ rfl).trans depth
    · obtain ⟨high, low⟩ := wordAt_tripleBytes (s.depthGroup r) []
      refine ⟨fun x there => ?_, fun x there => ?_⟩
      · refine (congrArg (BitVec.extractLsb' 4 12) high).trans ?_
        unfold State.depthGroup
        rw [there]
        exact (extract_depths _ _).1
      · refine (congrArg (BitVec.extractLsb' 0 12) low).trans ?_
        unfold State.depthGroup
        rw [there]
        exact (extract_depths _ _).2
    · exact ⟨rfl, rfl, rfl⟩
    · exact ⟨rfl, rfl⟩
    · exact extract_nibbles _ _
    · obtain ⟨high, low⟩ := wordAt_tripleBytes (s.torqueGroup r) []
      refine ⟨rfl, ?_, ?_, joinBytes_hi_lo _⟩
      · exact (congrArg (BitVec.extractLsb' 6 10) high).trans (extract_torques _ _ _).1
      · exact (congrArg (BitVec.extractLsb' 0 10) low).trans (extract_torques _ _ _).2

theorem State.length_layerBytes (s : State) (k : Nat) (x : Option Layer) : (s.layerBytes k x).length = 5 := by
  cases x <;> rfl

/-- Each byte of the two layers of a segment stands in its layer's place (section 13.3). -/
theorem State.argAt_segmentLayers (recorded : e.result = some r) {n : Nat} (above : 2 ≤ n) (k : Fin 2) {m : Nat}
    (inside : m < 5) : argAt (s.segmentLayers e n) (5 * k.val + m) =
      argAt (s.layerBytes (5 * k.val) r.layers[2 * (n - 2) + k.val]?) m := by
  have first : 2 * n - 4 = 2 * (n - 2) + 0 := by omega
  have second : 2 * n - 3 = 2 * (n - 2) + 1 := by omega
  have inside' : ∀ j x, m < (s.layerBytes j x).length := fun j x => by rwa [State.length_layerBytes]
  unfold State.segmentLayers
  simp only [recorded, first, second]
  match k with
  | 0 =>
    rw [List.append_assoc]
    exact argAt_within (pre := []) rfl (inside' _ _) _
  | 1 =>
    rw [List.append_assoc]
    exact argAt_within (State.length_layerBytes s 0 _) (inside' _ _) _

theorem State.segmentLayers_layerPart {n : Nat} (above : 2 ≤ n) : e.LayerPart n (s.segmentLayers e n) where
  layer r k x recorded here := by
    have byte : ∀ m, m < 5 → argAt (s.segmentLayers e n) (5 * k.val + m) =
        argAt (s.layerBytes (5 * k.val) (some x)) m := fun m inside => by
      rw [State.argAt_segmentLayers recorded above k inside, here]
    have mark := byte 4 (by decide)
    refine ⟨?_, ?_, ?_, ?_⟩
    · refine (congrArg₂ joinBytes (byte 0 (by decide)) (byte 1 (by decide))).trans (joinBytes_hi_lo _)
    · refine (congrArg₂ joinBytes (byte 2 (by decide)) (byte 3 (by decide))).trans (joinBytes_hi_lo _)
    · rw [mark]
      refine (extractLsb'_partByte s fun j below => ?_).trans (layerMark x.merged x.cls).1
      interval_cases j <;> rfl
    · rw [mark]
      exact (getLsbD_partByte _ _ _ _ _ rfl).trans (layerMark x.merged x.cls).2
  empty r k m recorded here := by
    rw [State.argAt_segmentLayers recorded above k m.isLt, here]
    show (List.replicate 5 absentByte).getD m.val 0 = absentByte
    exact (List.getD_eq_getElem _ _ (by simp)).trans (List.getElem_replicate _)
  filler m := by
    have placed := argAt_append_right (s.layerBytes 0 (match e.result with | some r => r.layers | none => [])[2 * n - 4]? ++
      s.layerBytes 5 (match e.result with | some r => r.layers | none => [])[2 * n - 3]?) (List.replicate 6 filler) m.val
    rw [List.length_append, State.length_layerBytes, State.length_layerBytes] at placed
    refine placed.trans ?_
    show (List.replicate 6 filler).getD m.val 0 = filler
    exact (List.getD_eq_getElem _ _ (by simp)).trans (List.getElem_replicate _)

theorem State.segment_holds (s : State) (i : Slot) (e : Entry) (n : Nat) : e.SegmentHolds i n (s.segment i e n) := by
  refine ⟨?_, ?_, ?_, fun above => ?_⟩
  · unfold State.segment
    split
    · rfl
    · split
      · cases result : e.result with
        | none => rw [State.segmentOne_none s result, List.length_cons, List.length_replicate]
        | some r =>
          rw [State.segmentOne_some s result]
          rfl
      · unfold State.segmentLayers
        simp only [List.length_append, State.length_layerBytes, List.length_replicate]
  · rintro rfl
    exact s.segmentZero_planPart i e
  · rintro rfl
    exact s.segmentOne_resultPart e
  · have layers : s.segment i e n = s.segmentLayers e n := (if_neg (by omega)).trans (if_neg (by omega))
    rw [layers]
    exact State.segmentLayers_layerPart above

/-! ### The reads -/

theorem State.readSegment_inside {p : Port} (here : s.entry i = some e) {n : Nat} (inside : n < e.segments) :
    s.readSegment p i n = ⟨.done, s.segment i e n, .cursor (some (i, n + 1))
      (if p = .C ∧ n + 1 = e.segments ∧ s.rowIs e.row .frozen = true then some i else none)⟩ := by
  unfold State.readSegment
  rw [here]
  exact if_pos inside

theorem State.readSegment_past {p : Port} (here : s.entry i = some e) {n : Nat} (past : e.segments ≤ n) :
    s.readSegment p i n = answerRefused .ended := by
  unfold State.readSegment
  rw [here]
  exact if_neg (Nat.not_lt.2 past)

theorem State.readSegment_empty {p : Port} (empty : s.entry i = none) (n : Nat) :
    s.readSegment p i n = answerRefused .state := by
  unfold State.readSegment
  rw [empty]

end

/-- Settles O15: the refusals, and the segments by `State.segment_holds`. -/
theorem recordReadsDeliverSegments : Obligations.RecordReadsDeliverSegments := by
  intro p target segment s takes
  have entry : ∀ a : Answer, (match s.targetSlot p target with
      | .error c => answerRefused c
      | .ok i => s.readSegment p i segment.toNat) = a →
      exec (.readEntry p target segment) s = .next (s.replied p .readEntry 2 a.code a.bytes a.effect) := fun a reads => by
    subst reads
    exact congrArg Host.Outcome.next (State.read_replied takes _ _ _)
  have next : ∀ a : Answer, (match (s.port p).cursor with
      | none => answerRefused .state
      | some (i, n) => s.readSegment p i n) = a →
      exec (.readNext p) s = .next (s.replied p .readNext 0 a.code a.bytes a.effect) := fun a reads => by
    subst reads
    exact congrArg Host.Outcome.next (State.read_replied takes _ _ _)
  refine ⟨fun i e here named => ?_, fun best none => ?_, fun refused => ?_, fun none => ?_, fun i n e cursor here => ?_⟩
  · have target_eq := State.targetSlot_ok named
    refine ⟨fun inside => ⟨s.segment i e segment.toNat, ?_, s.segment_holds i e _⟩, fun past => ?_⟩
    · refine entry ⟨_, _, _⟩ ?_
      rw [target_eq]
      exact State.readSegment_inside here inside
    · refine entry (answerRefused .ended) ?_
      rw [target_eq]
      exact State.readSegment_past here past
  · refine entry (answerRefused .noMatch) ?_
    rw [State.targetSlot_best_none best none]
  · refine entry (answerRefused .state) ?_
    rcases refused with ⟨above, other⟩ | ⟨i, named, empty⟩
    · rw [State.targetSlot_nothing above other]
    · rw [State.targetSlot_ok named]
      exact State.readSegment_empty empty _
  · refine next (answerRefused .state) ?_
    rw [none]
  · refine ⟨fun inside => ⟨s.segment i e n, ?_, s.segment_holds i e n⟩, fun past => ?_, ?_⟩
    · refine next ⟨_, _, _⟩ ?_
      rw [cursor]
      exact State.readSegment_inside here inside
    · refine next (answerRefused .ended) ?_
      rw [cursor]
      exact State.readSegment_past here past
    · unfold Entry.segments
      cases e.result <;> rfl

end Sys2Proof.Machine

/-! ### READ STATUS -/

namespace Sys2Proof.Machine

open Sys2Proof Sys2Proof.Machine

/-! ### The fields of the packed bytes -/

section
variable (a b c d x y : Bool) (n : Nat)

theorem getLsbD_sixFlags {v : Byte}
    (flags : v = bitAt 0 a ||| bitAt 1 b ||| bitAt 2 c ||| bitAt 3 d ||| bitAt 4 x ||| bitAt 5 y) :
    v.getLsbD 0 = a ∧ v.getLsbD 1 = b ∧ v.getLsbD 2 = c ∧ v.getLsbD 3 = d ∧ v.getLsbD 4 = x ∧ v.getLsbD 5 = y := by
  subst flags
  simp [getElem_bitAt]

/-- The flags of a grant: degraded, and the boom's place in the wait queue (section 13.4). -/
theorem grantFlags : (bitAt 0 x ||| (byteOf n &&& 0x03) <<< 1).getLsbD 0 = x ∧
    (bitAt 0 x ||| (byteOf n &&& 0x03) <<< 1).extractLsb' 1 2 = BitVec.ofNat 2 n := by
  constructor
  · simp [getElem_bitAt]
  · refine BitVec.eq_of_getLsbD_eq fun i below => ?_
    interval_cases i <;> simp (decide := true) [getElem_bitAt, byteOf, ofNat_getElem]

theorem loaderFlags (c : Boom) : (boomCode c ||| bitAt 2 x).extractLsb' 0 3 =
    (if x then 0x1#1 else 0x0#1) ++ (match c with | .A => 0x0#2 | .B => 0x1#2) := by
  cases c <;> cases x <;> rfl

end

/-! ### A reply in parts -/

/-- A byte of a part of a reply stands behind the parts before it. -/
theorem argAt_flatten {parts : List (List Byte)} {lengths : List Nat} (lens : parts.map List.length = lengths) {j : Nat}
    {part : List Byte} (here : parts[j]? = some part) {k : Nat} (inside : k < part.length) :
    argAt parts.flatten ((lengths.take j).sum + k) = argAt part k := by
  have split : parts.flatten = (parts.take j).flatten ++ (part ++ (parts.drop (j + 1)).flatten) := by
    obtain ⟨below, rfl⟩ := List.getElem?_eq_some_iff.1 here
    rw [← List.flatten_cons, ← List.flatten_append, ← List.drop_eq_getElem_cons below, List.take_append_drop]
  rw [split]
  refine argAt_within ?_ inside _
  rw [List.length_flatten, List.map_take, lens]

section
variable (s : State)

/-- The READ STATUS reply by its parts (section 13.4). -/
def State.statusParts : List (List Byte) :=
  [s.statusBoom 0 .A, s.statusBoom 8 .B, [byteOf s.arbiter.capacity, byteOf s.arbiter.derate], s.statusLane .A,
    s.statusLane .B, s.statusLoader, s.statusTable, [byteOf s.rows.length], s.statusRow 0, s.statusRow 1, s.statusRow 2,
    s.statusRow 3]

theorem State.statusReply_eq : s.statusReply = s.statusParts.flatten := by
  simp only [State.statusReply, State.statusParts, List.flatten_cons, List.flatten_nil, List.append_nil,
    List.append_assoc]

theorem State.length_statusRow (k : Nat) : (s.statusRow k).length = 6 := by
  unfold State.statusRow
  split <;> rfl

/-- The bytes of a loader whose grant takes the four bytes given (section 13.4). -/
def State.loaderBytes (grant : List Byte) : List Byte :=
  [s.loader.state.byte] ++ grant ++
    [(match s.loader.queue[0]? with | some b => boomCode b | none => absentByte),
      (match s.loader.queue[1]? with | some b => boomCode b | none => absentByte), byteOf s.loader.magazine]

theorem State.statusLoader_none (free : s.loader.grant = none) : s.statusLoader =
    s.loaderBytes [s.partByte 31 0x03 0x03, s.partByte 32 0x00 0, s.partByte 33 0x00 0, s.partByte 34 0x00 0] := by
  unfold State.statusLoader State.loaderBytes
  simp only [free] <;> rfl

theorem State.statusLoader_some {g : LoaderGrant} (granted : s.loader.grant = some g) : s.statusLoader =
    s.loaderBytes [s.partByte 31 0x07 (boomCode g.boom ||| bitAt 2 g.cancelled), byteOf g.delivered, byteOf g.planned,
      byteOf g.jams] := by
  unfold State.statusLoader State.loaderBytes
  simp only [granted] <;> rfl

/-- The loader's bytes but for those of its grant. -/
theorem State.statusLoader_cases : ∃ a b c d, s.statusLoader = s.loaderBytes [a, b, c, d] := by
  cases grant : s.loader.grant with
  | none => exact ⟨_, _, _, _, s.statusLoader_none grant⟩
  | some g => exact ⟨_, _, _, _, s.statusLoader_some grant⟩

theorem State.statusParts_lengths : s.statusParts.map List.length = [8, 8, 2, 6, 6, 8, 13, 1, 6, 6, 6, 6] := by
  have loader : s.statusLoader.length = 8 := by
    obtain ⟨_, _, _, _, bytes⟩ := s.statusLoader_cases
    rw [bytes]
    rfl
  have rows : ∀ k, (s.statusRow k).length = 6 := s.length_statusRow
  simp only [State.statusParts, List.map_cons, List.map_nil, loader, rows]
  rfl

theorem State.argAt_statusReply {j : Nat} {part : List Byte} (here : s.statusParts[j]? = some part) {k : Nat}
    (inside : k < part.length) :
    argAt s.statusReply (([8, 8, 2, 6, 6, 8, 13, 1, 6, 6, 6, 6].take j).sum + k) = argAt part k := by
  rw [State.statusReply_eq]
  exact argAt_flatten s.statusParts_lengths here inside

theorem State.length_statusReply : s.statusReply.length = 76 := by
  rw [State.statusReply_eq, List.length_flatten, State.statusParts_lengths]
  rfl

end

/-! ### The wait queue, and the table -/

section
variable {s : State} {a : Arbiter} {b : Boom}

theorem Arbiter.place_none (absent : ∀ r ∈ a.queue, r.boom ≠ b) : a.place b = 0 := by
  unfold Arbiter.place
  rw [List.findIdx?_eq_none_iff.2 fun r inside => beq_false_of_ne (absent r inside)]

theorem Arbiter.place_head {r : FlowRequest} {rest : List FlowRequest} (queue : a.queue = r :: rest) (own : r.boom = b) :
    a.place b = 1 := by
  unfold Arbiter.place
  rw [queue, List.findIdx?_cons, own, beq_self_eq_true]
  rfl

theorem Arbiter.place_second {q r : FlowRequest} {rest : List FlowRequest} (queue : a.queue = q :: r :: rest)
    (other : q.boom ≠ b) (own : r.boom = b) : a.place b = 2 := by
  unfold Arbiter.place
  rw [queue, List.findIdx?_cons, List.findIdx?_cons, own, beq_self_eq_true, beq_false_of_ne other]
  rfl

theorem State.nextFree_first {i : Slot} (empty : s.entry i = none) (first : ∀ j, j < i → s.entry j ≠ none) :
    s.nextFree = some i := by
  refine List.find?_eq_some_iff_getElem.2 ⟨by rw [empty]; rfl, i.val, by simp [allSlots], by simp [allSlots],
    fun j below => ?_⟩
  have occupied := first ⟨j, below.trans i.isLt⟩ below
  simpa [allSlots] using Option.isSome_iff_ne_none.2 occupied

theorem State.emptyCount_eq : s.emptyCount = (List.finRange 48).countP fun i => (s.entry i).isNone :=
  (List.countP_eq_length_filter ..).symm

end

/-! ### The snapshot by its parts -/

section
variable (s : State)

theorem State.statusReply_boom (b : Boom) {k m : Nat} (place : k = match b with | .A => 0 | .B => 8) (inside : m < 8) :
    argAt s.statusReply (k + m) = argAt (s.statusBoom k b) m := by
  subst place
  cases b with
  | A => exact s.argAt_statusReply (j := 0) rfl inside
  | B => exact s.argAt_statusReply (j := 1) rfl inside

theorem State.statusReply_lane (b : Boom) {k m : Nat} (place : k = match b with | .A => 18 | .B => 24) (inside : m < 6) :
    argAt s.statusReply (k + m) = argAt (s.statusLane b) m := by
  subst place
  cases b with
  | A => exact s.argAt_statusReply (j := 3) rfl inside
  | B => exact s.argAt_statusReply (j := 4) rfl inside

theorem State.statusReply_loader {grant : List Byte} (bytes : s.statusLoader = s.loaderBytes grant) {m : Nat}
    (inside : m < 1 + grant.length + 3) : argAt s.statusReply (30 + m) = argAt (s.loaderBytes grant) m := by
  have here : s.statusParts[5]? = some (s.loaderBytes grant) := congrArg some bytes
  refine s.argAt_statusReply here ?_
  unfold State.loaderBytes
  rw [List.length_append, List.length_append]
  exact inside

theorem State.statusReply_table {m : Nat} (inside : m < 13) : argAt s.statusReply (38 + m) = argAt s.statusTable m :=
  s.argAt_statusReply (j := 6) rfl inside

theorem State.statusReply_row (k : Fin 4) {m : Nat} (inside : m < 6) :
    argAt s.statusReply (52 + 6 * k.val + m) = argAt (s.statusRow k.val) m := by
  have inside' : m < (s.statusRow k.val).length := by rwa [State.length_statusRow]
  match k with
  | 0 => exact s.argAt_statusReply (j := 8) rfl inside'
  | 1 => exact s.argAt_statusReply (j := 9) rfl inside'
  | 2 => exact s.argAt_statusReply (j := 10) rfl inside'
  | 3 => exact s.argAt_statusReply (j := 11) rfl inside'

theorem State.statusReply_backlog (k : Fin 8) : argAt s.statusReply (43 + k.val) = slotByte s.backlog[k.val]? := by
  have placed := s.statusReply_table (m := 5 + k.val) (by omega)
  rw [← Nat.add_assoc] at placed
  refine placed.trans ((argAt_append_right [s.protection.byte, bitAt 0 s.guardPin, byteOf s.emptyCount,
    slotByte s.nextFree, byteOf s.backlog.length] _ k.val).trans ?_)
  refine (List.getD_eq_getElem _ _ (by simp)).trans ?_
  rw [List.getElem_map, List.getElem_range]

end

/-- Settles O14: each part of the snapshot, read back from its place. -/
theorem readStatusSnapshot : Obligations.ReadStatusSnapshot := by
  intro p s takes
  refine ⟨s.statusReply, congrArg Host.Outcome.next (State.read_replied takes _ _ _), s.length_statusReply, ?_, rfl, rfl,
    ?_, ?_⟩
  · intro b k place
    have byte : ∀ m, m < 8 → argAt s.statusReply (k + m) = argAt (s.statusBoom k b) m := fun m inside =>
      s.statusReply_boom b place inside
    have holds := byte 2 (by decide)
    have lines := byte 3 (by decide)
    have grant := byte 7 (by decide)
    obtain ⟨flow, lane, flush⟩ := getLsbD_threeFlags (s.unit b).holds.flow (s.unit b).holds.lane (s.unit b).holds.flush
    obtain ⟨feed, turn, claim, dry, active, pending⟩ := getLsbD_sixFlags (s.unit b).feed (s.unit b).turn
      (s.unit b).claimHeld (s.unit b).dry ((s.unit b).activeSet == .set1) ((s.unit b).pendingSet == .set1) rfl
    obtain ⟨degraded, waits⟩ := grantFlags (match s.arbiter.grants.get b with | some g => g.degraded | none => false)
      (s.arbiter.place b)
    have place_bits : (argAt s.statusReply (k + 7)).extractLsb' 1 2 = BitVec.ofNat 2 (s.arbiter.place b) := by
      rw [grant]
      refine (extractLsb'_partByte s fun j below => ?_).trans waits
      interval_cases j <;> rfl
    refine ⟨byte 0 (by decide), (byte 1 (by decide)).trans ?_, ?_, ?_, ?_, ?_, ?_, ?_, ?_, ?_, ?_,
      (byte 4 (by decide)).trans ?_, (byte 5 (by decide)).trans ?_, (byte 6 (by decide)).trans ?_, ?_, fun absent => ?_,
      fun r rest queue own => ?_, fun q r rest queue other own => ?_⟩
    · show (match (s.unit b).stored with | some x => x.cycle.byte | none => absentByte) = _
      rcases (s.unit b).stored with _ | _ | _ <;> rfl
    · rw [holds]
      exact (getLsbD_partByte _ _ _ _ _ rfl).trans flow
    · rw [holds]
      exact (getLsbD_partByte _ _ _ _ _ rfl).trans lane
    · rw [holds]
      exact (getLsbD_partByte _ _ _ _ _ rfl).trans flush
    · rw [lines]
      exact (getLsbD_partByte _ _ _ _ _ rfl).trans feed
    · rw [lines]
      exact (getLsbD_partByte _ _ _ _ _ rfl).trans turn
    · rw [lines]
      exact (getLsbD_partByte _ _ _ _ _ rfl).trans claim
    · rw [lines]
      exact (getLsbD_partByte _ _ _ _ _ rfl).trans dry
    · rw [lines]
      exact (getLsbD_partByte _ _ _ _ _ rfl).trans active
    · rw [lines]
      exact (getLsbD_partByte _ _ _ _ _ rfl).trans pending
    · show slotByte (s.unit b).workSlot = _
      cases (s.unit b).workSlot <;> rfl
    · show byteOf (flowAmount (s.arbiter.grants.get b)) = _
      cases s.arbiter.grants.get b <;> rfl
    · show (match s.arbiter.grants.get b with | some x => x.stage.byte | none => absentByte) = _
      cases s.arbiter.grants.get b <;> rfl
    · rw [grant]
      refine (getLsbD_partByte _ _ _ _ _ rfl).trans (degraded.trans ?_)
      cases s.arbiter.grants.get b <;> rfl
    · rw [place_bits, Arbiter.place_none absent]
    · rw [place_bits, Arbiter.place_head queue own]
    · rw [place_bits, Arbiter.place_second queue other own]
  · intro b k place
    have byte : ∀ m, m < 6 → argAt s.statusReply (k + m) = argAt (s.statusLane b) m := fun m inside =>
      s.statusReply_lane b place inside
    exact ⟨byte 0 (by decide), (congrArg₂ joinBytes (byte 1 (by decide)) (byte 2 (by decide))).trans (joinBytes_hi_lo _),
      (congrArg₂ joinBytes (byte 3 (by decide)) (byte 4 (by decide))).trans (joinBytes_hi_lo _), byte 5 (by decide)⟩
  · obtain ⟨_, _, _, _, bytes⟩ := s.statusLoader_cases
    have loader : ∀ m, m < 8 → argAt s.statusReply (30 + m) = _ := fun m inside => s.statusReply_loader bytes inside
    have table : ∀ m, m < 13 → argAt s.statusReply (38 + m) = argAt s.statusTable m := fun m inside =>
      s.statusReply_table inside
    refine ⟨loader 0 (by decide), fun free => ?_, fun g granted => ?_, fun k => ?_, loader 7 (by decide),
      table 0 (by decide), (table 1 (by decide)).trans ?_, (table 2 (by decide)).trans ?_, fun i empty first => ?_,
      fun full => ?_, table 4 (by decide), fun k => ?_, s.argAt_statusReply (j := 7) (k := 0) rfl Nat.zero_lt_one,
      fun k r here => ?_, fun k m none => ?_⟩
    · have byte : argAt s.statusReply 31 = s.partByte 31 0x03 0x03 :=
        s.statusReply_loader (s.statusLoader_none free) (m := 1) (show 1 < 8 by decide)
      rw [byte]
      refine (extractLsb'_partByte s fun j below => ?_).trans rfl
      interval_cases j <;> rfl
    · have byte : ∀ m, m < 8 → argAt s.statusReply (30 + m) = _ := fun m inside =>
        s.statusReply_loader (s.statusLoader_some granted) inside
      refine ⟨?_, byte 2 (by decide), byte 3 (by decide), byte 4 (by decide)⟩
      have flags : argAt s.statusReply 31 = s.partByte 31 0x07 (boomCode g.boom ||| bitAt 2 g.cancelled) :=
        byte 1 (by decide)
      rw [flags]
      refine (extractLsb'_partByte s fun j below => ?_).trans (loaderFlags g.cancelled g.boom)
      interval_cases j <;> rfl
    · have waits : ∀ q : Option Boom, (match q with | some b => boomCode b | none => absentByte) =
          (match q with | some .A => 0x00 | some .B => 0x01 | none => (0xFF : Byte)) := by
        rintro (_ | _ | _) <;> rfl
      match k with
      | 0 => exact (loader 5 (by decide)).trans (waits s.loader.queue[0]?)
      | 1 => exact (loader 6 (by decide)).trans (waits s.loader.queue[1]?)
    · show bitAt 0 s.guardPin = _
      cases s.guardPin <;> rfl
    · show byteOf s.emptyCount = _
      rw [State.emptyCount_eq]
      rfl
    · refine (table 3 (by decide)).trans ?_
      show slotByte s.nextFree = _
      rw [State.nextFree_first empty first]
      rfl
    · refine (table 3 (by decide)).trans ?_
      show slotByte s.nextFree = _
      rw [State.nextFree_eq_none.2 full]
      rfl
    · refine (s.statusReply_backlog k).trans ?_
      cases s.backlog[k.val]? <;> rfl
    · have row : s.statusRow k.val = [r.id, r.state.byte, s.partByte (52 + 6 * k.val + 2) 0x01 (bitAt 0 r.planEnded),
          byteOf r.entries, byteOf r.accepted, byteOf r.rejected] := by
        unfold State.statusRow
        rw [here]
      have byte : ∀ m, m < 6 → argAt s.statusReply (52 + m + 6 * k.val) = argAt (s.statusRow k.val) m := fun m inside => by
        rw [Nat.add_right_comm]
        exact s.statusReply_row k inside
      rw [row] at byte
      refine ⟨byte 0 (by decide), byte 1 (by decide), ?_, byte 3 (by decide), byte 4 (by decide), byte 5 (by decide)⟩
      refine (congrArg (BitVec.getLsbD · 0) (byte 2 (by decide))).trans ?_
      refine (getLsbD_partByte _ _ _ _ _ rfl).trans ?_
      rw [getLsbD_bitAt (by decide)]
      exact Bool.and_true _
    · have row : s.statusRow k.val = List.replicate 6 absentByte := by
        unfold State.statusRow
        rw [none]
      rw [s.statusReply_row k m.isLt, row]
      show (List.replicate 6 absentByte).getD m.val 0 = absentByte
      exact (List.getD_eq_getElem _ _ (by simp)).trans (List.getElem_replicate _)

end Sys2Proof.Machine
